-- ==== Sys2Proof/Word.lean ====
section
/-! DEFINITION. The byte and the two wider fields of the control link's frames (R180). -/

namespace Sys2Proof

/-- One character of a serial line (R178). -/
abbrev Byte := BitVec 8

/-- A two-byte field of a frame (R180). -/
abbrev Half := BitVec 16

/-- A four-byte field of a frame (R180). -/
abbrev Quad := BitVec 32

end Sys2Proof
end

