-- ==== Sys2Proof/Syntax.lean ====
section
/-! DEFINITION. The names the manual uses for its parts, and the commands: one constructor of `Instr` for each row of
spec/opcode_table.json. -/

namespace Sys2Proof

/-- The three zones (00_scope.md, Names Used Throughout). -/
inductive Zone | fresh | chill | freeze
  deriving DecidableEq, Repr

/-- The two refrigerant paths. -/
inductive Path | fresh | freeze
  deriving DecidableEq, Repr

/-- The regimes of the CHILL zone. -/
inductive Regime | chilled | soft | frozen
  deriving DecidableEq, Repr

/-- The four doors. -/
inductive Door | fl | fr | dr | zd
  deriving DecidableEq, Repr

/-- The six thermistor channels S0 to S5. -/
inductive Channel | s0 | s1 | s2 | s3 | s4 | s5
  deriving DecidableEq, Repr

/-- The level of a door pin: low is the closed level, high the open level (section 7.1). -/
inductive Level | low | high
  deriving DecidableEq, Repr

/-- The eleven notice kinds, in priority order (R190). -/
inductive Notice
  | compressorLockout | compressorFault | mainsSag | sensorFault | warmExcursion | coldExcursion
  | doorAjar | holdLapsed | regimeDone | defrostDone | storeDone
  deriving DecidableEq, Repr

/-- The kinds of event on which the air handler recomputes its duties and damper target (R156). -/
inductive AirKind
  | pathState | urgencies | door | defrostChange | s4Report | s5Report | drawerInput
  deriving DecidableEq, Repr

/-- The two motors that home at start-up (R164). -/
inductive HomingMotor | valve | damper
  deriving DecidableEq, Repr

/-- What the link port itself answers (R181): a LENGTH frame from COUNT (row 2), a wrong CHECK (row 3), an unknown CODE
(row 4), or a LEN that is not the code's (row 5). -/
inductive FrameRefusal | lengthFrame | check | unknown | length
  deriving DecidableEq, Repr

/-- The levels on the strap pins, true for high (R199). -/
structure Straps where
  strap0 : Bool
  strap1 : Bool
  deriving DecidableEq, Repr

/-- What the drive receiver is handed: a character, or a framing error (R193). -/
inductive DriveChar
  | char (b : Byte)
  | framingError
  deriving DecidableEq, Repr

/-- The commands. A request carries its payload bytes in the order of R185, a multi-byte field as one number. -/
inductive Instr
  | powerOnReset (straps : Straps)
  | uptimeWrapRestart (straps : Straps)
  | ident
  | systemQuery
  | restart
  | holdOpen (zone kind : Byte) (target : Half) (halfBand priority flags : Byte) (minutes : Half) (floor : Byte)
  | holdAmend (slot gen mask : Byte) (target : Half) (halfBand priority : Byte) (minutes : Half) (floor reach : Byte)
  | holdRetire (slot gen : Byte)
  | holdQuery (slot gen : Byte)
  | holdList (zone : Byte)
  | zoneQuery (zone : Byte)
  | regimeSet (regime : Byte)
  | mapSet (zone regime fallback : Byte) (offset : Half)
  | sensorQuery (channel : Byte)
  | correctionSet (slot op channel index : Byte) (value : Half)
  | doorQuery (door clear : Byte)
  | defrostNow
  | defrostCancel
  | clearLockout
  | noticeNext
  | noticeEnable (mask : Half)
  | settingsWrite (item : Byte) (value : Quad)
  | settingsRead (item : Byte)
  | settingsStore
  | storeWriteEnd
  | frameRefused (why : FrameRefusal)
  | overrun
  | framingError
  | byteGapTimeout
  | replyStart
  | replySent (straps : Straps)
  | holdExpiry (slot : Nat)
  | holdChangeEvaluation (zone : Zone)
  | channelConversion (channel : Channel) (count : Nat)
  | oneSecondEvaluation (zone : Zone)
  | blindHalf (zone : Zone)
  | doorSample (door : Door) (a b c : Level)
  | doorAjar (door : Door)
  | doorChangeEvaluation (door : Door)
  | airRecompute (kind : AirKind)
  | fanDelay
  | damperArrival
  | flapArrival
  | homingEnd (motor : HomingMotor)
  | valveArrival
  | startCompletion
  | releaseEnd
  | arbiterReview
  | pumpdownStage
  | holdoffStage
  | recoveryStage
  | inhibit
  | dwellMin
  | dwellMax
  | speedStep
  | driveLinkTick
  | statusFrame (seq actual code check : Byte)
  | mainsSample (count : Nat)
  | arbiterSag
  | arbiterNormal
  | arbiterChangeToDefrost
  | defrostS4Report
  | pendingLimit
  | prechillPhaseExpiry
  | heatPhaseExpiry
  | dripPhaseExpiry
  | recoverPhaseExpiry
  | coilS3Report
  | coilRecovery
  | coilRecoveryCutShort
  | deadlineFallsDue
  | noticeRaise (kind : Notice)
  | characterReceived (b : Byte)
  | driveReceiverByte (c : DriveChar)
  | damperStep
  | valveStep
  | pwmPeriodBoundary
  deriving DecidableEq, Repr

end Sys2Proof
end

