-- ==== Sys2Proof/WellFormed.lean ====
section
/-! DEFINITION. Which command terms stand for something the part can meet: the ranges the types do not carry. -/

namespace Sys2Proof

/-- An ADC result is a count of 0 to 4095 (00_scope.md, Quantities; R123, R140), and HOLD_EXPIRY deadlines name slots
3 to 23 alone (R169). Every value of every other operand can reach the part. -/
def Instr.wellFormed : Instr → Bool
  | .channelConversion _ count => decide (count ≤ 4095)
  | .mainsSample count => decide (count ≤ 4095)
  | .holdExpiry slot => decide (3 ≤ slot ∧ slot ≤ 23)
  | _ => true

end Sys2Proof
end

