-- ==== Sys2Proof/Decode.lean ====
section
/-! DEFINITION. The commands that a word spells by the table's bits: no row of spec/opcode_table.json gives bits, so no
word spells a command. (The request frames of R185 are bytes on the control link; `Machine/Link.lean` assembles them.) -/

namespace Sys2Proof

/-- The command whose bits are `w`: none, since every row of the table has an empty list of fields. -/
def decodeTableWord (_nbits _w : Nat) : Option Instr := none

end Sys2Proof
end

