-- ==== Sys2Proof/Config.lean ====
section
/-! DEFINITION. What is fixed for the part: containers indexed by the manual's names, ranges, waits, factory defaults,
the built-in conversion table, and the one value the manual leaves open. -/

namespace Sys2Proof

/-- One value for each zone. -/
structure PerZone (α : Type) where
  fresh : α
  chill : α
  freeze : α
  deriving DecidableEq, Repr

def PerZone.get {α : Type} (p : PerZone α) : Zone → α
  | .fresh => p.fresh
  | .chill => p.chill
  | .freeze => p.freeze

def PerZone.set {α : Type} (p : PerZone α) (z : Zone) (a : α) : PerZone α :=
  match z with
  | .fresh => { p with fresh := a }
  | .chill => { p with chill := a }
  | .freeze => { p with freeze := a }

/-- One value for each path. -/
structure PerPath (α : Type) where
  fresh : α
  freeze : α
  deriving DecidableEq, Repr

def PerPath.get {α : Type} (p : PerPath α) : Path → α
  | .fresh => p.fresh
  | .freeze => p.freeze

def PerPath.set {α : Type} (p : PerPath α) (x : Path) (a : α) : PerPath α :=
  match x with
  | .fresh => { p with fresh := a }
  | .freeze => { p with freeze := a }

/-- One value for each regime. -/
structure PerRegime (α : Type) where
  chilled : α
  soft : α
  frozen : α
  deriving DecidableEq, Repr

def PerRegime.get {α : Type} (p : PerRegime α) : Regime → α
  | .chilled => p.chilled
  | .soft => p.soft
  | .frozen => p.frozen

def PerRegime.set {α : Type} (p : PerRegime α) (r : Regime) (a : α) : PerRegime α :=
  match r with
  | .chilled => { p with chilled := a }
  | .soft => { p with soft := a }
  | .frozen => { p with frozen := a }

/-- One value for each door. -/
structure PerDoor (α : Type) where
  fl : α
  fr : α
  dr : α
  zd : α
  deriving DecidableEq, Repr

def PerDoor.get {α : Type} (p : PerDoor α) : Door → α
  | .fl => p.fl
  | .fr => p.fr
  | .dr => p.dr
  | .zd => p.zd

def PerDoor.set {α : Type} (p : PerDoor α) (d : Door) (a : α) : PerDoor α :=
  match d with
  | .fl => { p with fl := a }
  | .fr => { p with fr := a }
  | .dr => { p with dr := a }
  | .zd => { p with zd := a }

/-- One value for each thermistor channel. -/
structure PerChannel (α : Type) where
  s0 : α
  s1 : α
  s2 : α
  s3 : α
  s4 : α
  s5 : α
  deriving DecidableEq, Repr

def PerChannel.get {α : Type} (p : PerChannel α) : Channel → α
  | .s0 => p.s0
  | .s1 => p.s1
  | .s2 => p.s2
  | .s3 => p.s3
  | .s4 => p.s4
  | .s5 => p.s5

def PerChannel.set {α : Type} (p : PerChannel α) (c : Channel) (a : α) : PerChannel α :=
  match c with
  | .s0 => { p with s0 := a }
  | .s1 => { p with s1 := a }
  | .s2 => { p with s2 := a }
  | .s3 => { p with s3 := a }
  | .s4 => { p with s4 := a }
  | .s5 => { p with s5 := a }

/-- A fallback channel with its offset in tenths, or none (R105). -/
abbrev Fallback := Option (Channel × Int)

/-- The five fallback and offset pairs of the map settings (R106). -/
structure FallbackPairs where
  fresh : Fallback
  freeze : Fallback
  chill : PerRegime Fallback
  deriving DecidableEq, Repr

/-- The two halves of a zone's BLIND schedule, in minutes (section 2.4). -/
structure BlindLen where
  calling : Nat
  idle : Nat
  deriving DecidableEq, Repr

/-- What an occupied correction slot holds (R129). -/
structure Correction where
  channel : Channel
  index : Nat
  value : Int
  deriving DecidableEq, Repr

/-- One value for every setting item of R195. -/
structure Settings where
  regime : Regime
  defaultTargets : PerRegime Int
  weights : PerZone Nat
  margins : PerZone Int
  excursionTime : Nat
  blindLen : PerZone BlindLen
  maxSpeed : Nat
  interval : Nat
  shifts : PerChannel Nat
  sag : Nat
  recover : Nat
  rejection : Nat
  ajarTime : Nat
  pairs : FallbackPairs
  deriving DecidableEq, Repr

/-- What the settings image holds one copy of (R197): the items, the target and half-band of the three BASE holds, and
the four correction slots. -/
structure ImageContents where
  settings : Settings
  bases : PerZone (Int × Int)
  corrections : List (Option Correction)
  deriving DecidableEq, Repr

namespace Config

/-- The factory defaults of R195. -/
def factorySettings : Settings where
  regime := .chilled
  defaultTargets := ⟨-10, -50, -180⟩
  weights := ⟨4, 3, 2⟩
  margins := ⟨30, 30, 50⟩
  excursionTime := 30
  blindLen := ⟨⟨15, 45⟩, ⟨10, 50⟩, ⟨20, 40⟩⟩
  maxSpeed := 100
  interval := 86400
  shifts := ⟨3, 3, 2, 1, 1, 4⟩
  sag := 2600
  recover := 2800
  rejection := 80
  ajarTime := 120
  pairs := ⟨none, none, ⟨some (.s0, -40), some (.s2, 20), some (.s2, 20)⟩⟩

/-- What a part with a bad settings image starts from (R197): the factory defaults, the BASE defaults of R7 for regime
CHILLED, and four empty correction slots. -/
def factoryContents : ImageContents where
  settings := factorySettings
  bases := ⟨(30, 10), (-10, 5), (-180, 15)⟩
  corrections := [none, none, none, none]

/-- The target range of a zone, for CHILL by its regime (R7). -/
def targetRange : Zone → Regime → Int × Int
  | .fresh, _ => (10, 70)
  | .chill, .chilled => (-20, 40)
  | .chill, .soft => (-80, -30)
  | .chill, .frozen => (-220, -140)
  | .freeze, _ => (-240, -140)

/-- The fixed default BASE half-band of each CHILL regime (R7). -/
def regimeHalfBand : Regime → Int
  | .chilled => 5
  | .soft => 5
  | .frozen => 10

/-- The built-in breakpoints Tb[0] to Tb[16] (R128). -/
def breakpoints : List Int :=
  [700, 520, 390, 300, 230, 170, 115, 65, 20, -25, -70, -118, -170, -228, -298, -390, -500]

/-- The lowest and highest temperature the part represents, in tenths (00_scope.md, Quantities). -/
def tempMin : Int := -500
def tempMax : Int := 700

/-- The largest uptime (R167). -/
def uptimeMax : Nat := 4294967295

/-- The valve's rests (R56, R163). -/
def valveFreshEnd : Nat := 0
def valveClosed : Nat := 60
def valveFreezeEnd : Nat := 120

/-- The steps of homing (R164): the valve's 140 toward the FRESH end, then 60 toward CLOSED; the damper's 440. -/
def valveHomingToStop : Nat := 140
def valveHomingSteps : Nat := 200
def damperHomingSteps : Nat := 440

/-- FREE VALUE (DESIGN CHOICE, log entry 17): the four bytes that HOLD QUERY and ZONE QUERY report for a due time that
passes the range of the uptime. R186 and R185 give the field four bytes and state nothing for such a time. -/
opaque dueBeyondRange : Nat → Quad

end Config
end Sys2Proof
end

