-- ==== Sys2Proof/Machine/State.lean ====
section
/-! DEFINITION. The state of the part: one record per block of the manual, the hand-offs in flight between the blocks, the
queue of commands, and the state after a power-on reset. All of it is plain data. -/

namespace Sys2Proof.Machine

/-- No event of the manual stops the part, so there is no fault. -/
inductive Fault
  deriving DecidableEq, Repr

inductive Refusal
  /-- Raised by `exec`'s arm of a command that has no meaning yet, and by nothing else. Safe: the model stops. No arm
  raises it now. -/
  | notModelled (mnemonic : String)
  deriving DecidableEq, Repr

/-! ### Hold table (chapter 1) -/

inductive HoldKind | base | boost | ease
  deriving DecidableEq, Repr

inductive Origin | link | internal
  deriving DecidableEq, Repr

inductive LapseCause | expired | reached | regime
  deriving DecidableEq, Repr

/-- A hold's state; the lapse cause is present exactly when the hold has lapsed (R1). -/
inductive HoldState
  | effective
  | shadowed
  | lapsed (cause : LapseCause)
  deriving DecidableEq, Repr

/-- The name of a hold, slot/generation (R1). -/
structure Handle where
  slot : Nat
  gen : Nat
  deriving DecidableEq, Repr

/-- The compliance figures of a hold (R1, section 1.8). -/
structure Compliance where
  reached : Bool
  effMinutes : Nat
  effSeconds : Nat
  outMinutes : Nat
  outSeconds : Nat
  sat : Bool
  deriving DecidableEq, Repr

/-- The hold record (R1). -/
structure Hold where
  handle : Handle
  zone : Zone
  kind : HoldKind
  target : Int
  halfBand : Int
  priority : Nat
  expiry : Option Nat
  speedFloor : Option Nat
  lapseOnReach : Bool
  origin : Origin
  state : HoldState
  figures : Compliance
  deriving DecidableEq, Repr

/-- A slot keeps its generation whether it is free or occupied (R3). -/
structure Slot where
  generation : Nat
  hold : Option Hold
  deriving DecidableEq, Repr

/-- The 24 slots and the ordered hold list of each zone (R2, R4). -/
structure HoldTable where
  slots : List Slot
  lists : PerZone (List Handle)
  deriving DecidableEq, Repr

/-- What the hold table hands to the zone evaluator (R6): the EFFECTIVE handle, T, H, the kind, the speed floor of R26
and the effective weight of R25. -/
structure Governing where
  handle : Handle
  target : Int
  halfBand : Int
  kind : HoldKind
  floor : Option Nat
  weight : Nat
  deriving DecidableEq, Repr

/-! ### Zone map (chapter 5) -/

/-- The means by which a zone receives cold air (R105); the damper carries its flap side. -/
inductive Actuator
  | ff
  | zf
  | damper (side : Path)
  deriving DecidableEq, Repr

/-- A map entry (R105). A flap side is named by the plenum's path. -/
structure MapEntry where
  path : Path
  regime : Option Regime
  sensor : Channel
  fallback : Fallback
  doors : List Door
  actuator : Actuator
  weight : Nat
  warmMargin : Int
  deriving DecidableEq, Repr

inductive TransitStep | closing | flap
  deriving DecidableEq, Repr

/-- The active entries, the shadow entry, the map settings and the regime record (R105, R106, R112, R113). -/
structure ZoneMap where
  active : PerZone MapEntry
  shadow : MapEntry
  pairs : FallbackPairs
  regime : Regime
  target : Option Regime
  step : Option TransitStep
  startUp : Bool
  defaultTargets : PerRegime Int
  deriving DecidableEq, Repr

/-! ### Measurement unit (chapter 6) -/

inductive ChannelState | seeding | good | suspect | faulted | recovering
  deriving DecidableEq, Repr

inductive FaultKind | short | open_
  deriving DecidableEq, Repr

/-- A channel record (R123). -/
structure ChannelRec where
  state : ChannelState
  raw : Nat
  faultKind : Option FaultKind
  converted : Option Int
  f : Int
  badRun : Nat
  goodRun : Nat
  shift : Nat
  deriving DecidableEq, Repr

/-- The report of a channel at the end of its conversion (R125), as step 4 of R124 left the record. -/
structure Report where
  channel : Channel
  state : ChannelState
  f : Int
  converted : Option Int
  deriving DecidableEq, Repr

inductive MainsState | normal | sag
  deriving DecidableEq, Repr

/-- The mains sense (R140, R141). -/
structure Mains where
  state : MainsState
  lowRun : Nat
  highRun : Nat
  sample : Nat
  sag : Nat
  recover : Nat
  deriving DecidableEq, Repr

structure Measurement where
  channels : PerChannel ChannelRec
  corrections : List (Option Correction)
  mains : Mains
  deriving DecidableEq, Repr

/-! ### Door unit (chapter 7) -/

inductive DoorState | closed | opened | ajar
  deriving DecidableEq, Repr

/-- The three events of a door (R150). -/
inductive DoorEvent | open_ | ajar | close
  deriving DecidableEq, Repr

/-- A door's debounced level and candidate run (R143) and its record (R145). -/
structure DoorRec where
  level : Level
  run : Nat
  state : DoorState
  openedAt : Option Nat
  lastDuration : Option Nat
  unread : Bool
  overflow : Bool
  count : Nat
  deriving DecidableEq, Repr

structure Doors where
  recs : PerDoor DoorRec
  rejection : Nat
  ajarTime : Nat
  deriving DecidableEq, Repr

/-! ### Zone evaluator (chapter 2) -/

inductive ZoneState | satisfied | calling | cooling | transit
  deriving DecidableEq, Repr

inductive Source | sensed | fallback | blind
  deriving DecidableEq, Repr

inductive BlindHalf | call | idle
  deriving DecidableEq, Repr

/-- A zone record (R31). `placeholder` is the model's own: F is still the 0 of reset, and no evaluation has taken a value of a
channel for it (R32, log entry 44). -/
structure ZoneRec where
  state : ZoneState
  source : Source
  f : Int
  handle : Handle
  t : Int
  h : Int
  weight : Nat
  floor : Option Nat
  doorPaused : Bool
  grace : Nat
  waitAge : Nat
  excess : Nat
  urgency : Nat
  sat : Bool
  warmCount : Nat
  coldCount : Nat
  warm : Bool
  cold : Bool
  half : Option BlindHalf
  blindDue : Option Nat
  placeholder : Bool
  deriving DecidableEq, Repr

/-- A path record (R31, R46). -/
structure PathRec where
  urgency : Nat
  sat : Bool
  floor : Option Nat
  deriving DecidableEq, Repr

/-- The zone and path records, the CHILL cooling demand (R43), the trigger channel of the present second (R33), and the
settings the evaluations read. `blindUsed` holds the BLIND lengths as each zone's last one-second evaluation read them (R33,
log entry 45). -/
structure Evaluator where
  zones : PerZone ZoneRec
  paths : PerPath PathRec
  demand : Bool
  trigger : PerZone Channel
  excursionTime : Nat
  blindLen : PerZone BlindLen
  blindUsed : PerZone BlindLen
  deriving DecidableEq, Repr

/-! ### Path arbiter and drive link (chapter 3) -/

inductive HaltCause | fault | sag | lockout
  deriving DecidableEq, Repr

inductive PathState
  | off
  | runFresh
  | runFreeze
  | pumpdown
  | halted (cause : HaltCause)
  deriving DecidableEq, Repr

/-- The state a path context saves (R78); for a running state its path is that of the state. -/
inductive SavedState | off | runFresh | runFreeze | pumpdown
  deriving DecidableEq, Repr

/-- A context of the protection stack (R78). -/
inductive Context
  | path (left : SavedState)
  | holdoff (seconds : Nat)
  deriving DecidableEq, Repr

/-- The arbiter record (R56), less the drive-link status; `stack` has its top first. -/
structure Arbiter where
  state : PathState
  startPath : Option Path
  speed : Nat
  speedTarget : Nat
  valveTarget : Nat
  inhibitRunning : Bool
  dwellMinMet : Bool
  dwellMaxMet : Bool
  resumePref : Option Path
  stack : List Context
  faultCount : Nat
  runSeconds : Nat
  maxSpeed : Nat
  deriving DecidableEq, Repr

/-- A DRIVE frame as sent: its sequence number and the speed it carried (R75). -/
structure SentDrive where
  seq : Nat
  speed : Nat
  deriving DecidableEq, Repr

/-- The drive receiver (R193): waiting for 5Ah, or holding the bytes taken since. -/
inductive DriveRx
  | waiting
  | body (got : List Byte)
  deriving DecidableEq, Repr

/-- The drive link (R56, R75, R76, R193). -/
structure DriveLink where
  seq : Nat
  miss : Nat
  silent : Bool
  lastCode : Nat
  actualSpeed : Nat
  last : Option SentDrive
  answered : Bool
  rx : DriveRx
  tx : List Byte
  deriving DecidableEq, Repr

/-! ### Defrost controller (chapter 4) -/

inductive Phase | idle | pending | prechill | release | heat | drip | recover
  deriving DecidableEq, Repr

/-- The defrost record (R87). -/
structure Defrost where
  phase : Phase
  accumulator : Nat
  interval : Nat
  heater : Bool
  heatStart : Nat
  timeOnly : Bool
  recovery : Bool
  deriving DecidableEq, Repr

/-! ### Timebase (chapter 9) -/

/-- An instant: uptime and millisecond count (R167). -/
structure Instant where
  sec : Nat
  ms : Nat
  deriving DecidableEq, Repr

/-- The pairs of deadline kind and owner of R169's table. -/
inductive DeadlineKey
  | holdExpiry (slot : Nat)
  | doorAjar (door : Door)
  | stage
  | inhibit
  | dwellMin
  | dwellMax
  | speedStep
  | phase
  | pendingLimit
  | coilRecovery
  | blindHalf (zone : Zone)
  | fanDelay
  deriving DecidableEq, Repr

/-- To whom an expiry is handed (R169). -/
inductive Owner
  | slot (i : Nat)
  | door (d : Door)
  | arbiter
  | defrost
  | zone (z : Zone)
  | air
  deriving DecidableEq, Repr

/-- An entry of the deadline list, or an expiry in flight (R169, R172). -/
structure Deadline where
  key : DeadlineKey
  due : Instant
  deriving DecidableEq, Repr

/-- The clock (R167), the deadline list (R169) and the expiries in flight in the order they left the list (R172). -/
structure Timebase where
  uptime : Nat
  ms : Nat
  deadlines : List Deadline
  expiries : List Deadline
  deriving DecidableEq, Repr

/-! ### Air handler (chapter 8) -/

inductive FanDelay | active | ended
  deriving DecidableEq, Repr

/-- A stepper's motion (R154); HOMING carries the steps issued so far (R164, log entry 28). -/
inductive Motion
  | atRest
  | moving
  | homing (issued : Nat)
  deriving DecidableEq, Repr

/-- The flap's motion (R154); MOVING carries the destination and the instant at which the 4 s motor timer of R162 ends. -/
inductive FlapMotion
  | atRest
  | moving (dest : Path) (ends : Instant)
  deriving DecidableEq, Repr

/-- The air handler record (R154) with the running duties of R155. `flapSide` none is UNKNOWN. `path` is the model's own
field: the arbiter's path state as the air handler last took it (R160, log entry 41). -/
structure Air where
  path : PathState
  ff : Nat
  zf : Nat
  cf : Nat
  runFf : Nat
  runZf : Nat
  runCf : Nat
  fanDelay : Option FanDelay
  damperPos : Nat
  damperTarget : Nat
  damperMotion : Motion
  flapSide : Option Path
  flapMotion : FlapMotion
  valvePos : Nat
  valveTarget : Nat
  valveMotion : Motion
  deriving DecidableEq, Repr

/-! ### Link port and notice unit (chapter 10) -/

/-- The receiver states of R179, with LEN and the characters stored. -/
inductive RxState
  | hunt
  | count
  | body (len : Nat) (got : List Byte)
  | drain
  deriving DecidableEq, Repr

inductive PortState | idle | serving | sending
  deriving DecidableEq, Repr

/-- The status codes of R181. -/
inductive Status
  | ok | accepted | unknown | length | check | stale | lapsed | fixed | full | field | busy | late | duplicate
  | nonmonotonic
  deriving DecidableEq, Repr

/-- A reply as its owning block forms it: LINKFLAGS and CHECK are added when transmission begins (R182). -/
structure Reply where
  status : Status
  clamped : Bool
  payload : List Byte
  deriving DecidableEq, Repr

/-- The link port (R179, R181 to R184, R189). -/
structure LinkPort where
  rx : RxState
  port : PortState
  overrun : Bool
  request : Option (List Byte)
  reply : Option Reply
  tx : List Byte
  restarting : Bool
  deriving DecidableEq, Repr

/-- The notice unit (R190): bit n - 1 stands for the notice of code n, as in R191's masks. -/
structure NoticeUnit where
  pending : BitVec 11
  enabled : BitVec 11
  attn : Bool
  deriving DecidableEq, Repr

/-! ### Settings store (chapter 11) -/

/-- A write in progress (R198): the copy taken and the instant it began. -/
structure StoreWrite where
  copy : ImageContents
  began : Instant
  deriving DecidableEq, Repr

/-- The settings store (R197, R198): `image` none is a bad image (log entry 16), `writing` none is IDLE. -/
structure Store where
  image : Option ImageContents
  writing : Option StoreWrite
  defaulted : Bool
  deriving DecidableEq, Repr

/-! ### Hand-offs -/

/-- What one block has handed on and another has not yet taken (log entry 3), with what it carries. -/
inductive Handoff
  /-- The report of a zone's trigger channel (R33, R125). -/
  | oneSecond (z : Zone) (r : Report)
  /-- A change of what governs a zone (R6). -/
  | holdChange (z : Zone) (g : Governing)
  /-- A door event to the zone evaluator (R150). -/
  | doorToZone (d : Door) (e : DoorEvent)
  /-- What makes the arbiter review: a hand-off of path urgencies, or a change of availability or defrost phase (R60). -/
  | review
  /-- The valve's arrival, to the arbiter (R163). -/
  | valveToArbiter (pos : Nat)
  /-- The valve's arrival, to the defrost controller (R163, R93). -/
  | valveToDefrost (pos : Nat)
  /-- A mains declaration to the arbiter (R140). -/
  | mains (m : MainsState)
  /-- A change of the arbiter's state to the defrost controller: did RUN_FRESH end, was it a halt (R60, R99). -/
  | arbiterToDefrost (endedFresh halted : Bool)
  /-- An S3 report to the defrost controller (R125). -/
  | s3Report (r : Report)
  /-- An S4 report to the defrost controller (R125). -/
  | s4Report (r : Report)
  /-- A FRESH path urgency of 1500 or more, to the defrost controller (R104). -/
  | cutShort (urgency : Nat)
  /-- A change of the arbiter's path state with its valve target, or a valve target of a start, to the air handler: was
  RUN_FREEZE entered (R57, R156, R160, log entry 10). -/
  | airPathState (entersFreeze : Bool)
  | airUrgencies
  | airDoor
  | airDefrost
  /-- An S4 report to the air handler (R125, R160). -/
  | airS4 (r : Report)
  /-- An S5 report to the air handler (R125, R159). -/
  | airS5 (r : Report)
  | airDrawer
  /-- A raise of a notice, to the notice unit (R190, R192). -/
  | raise (n : Notice)
  deriving DecidableEq, Repr

/-! ### The whole part -/

structure State where
  holds : HoldTable
  map : ZoneMap
  meas : Measurement
  doors : Doors
  eval : Evaluator
  arb : Arbiter
  drive : DriveLink
  defrost : Defrost
  air : Air
  time : Timebase
  link : LinkPort
  notice : NoticeUnit
  store : Store
  straps : Straps
  /-- The hand-offs in flight, oldest first: the model's own field (log entry 3). -/
  events : List Handoff
  /-- The commands that are waiting, first in, first out. -/
  pending : List Instr
  deriving DecidableEq, Repr

def State.setHolds (s : State) (x : HoldTable) : State := { s with holds := x }
def State.setMap (s : State) (x : ZoneMap) : State := { s with map := x }
def State.setMeas (s : State) (x : Measurement) : State := { s with meas := x }
def State.setDoors (s : State) (x : Doors) : State := { s with doors := x }
def State.setEval (s : State) (x : Evaluator) : State := { s with eval := x }
def State.setArb (s : State) (x : Arbiter) : State := { s with arb := x }
def State.setDrive (s : State) (x : DriveLink) : State := { s with drive := x }
def State.setDefrost (s : State) (x : Defrost) : State := { s with defrost := x }
def State.setAir (s : State) (x : Air) : State := { s with air := x }
def State.setTime (s : State) (x : Timebase) : State := { s with time := x }
def State.setLink (s : State) (x : LinkPort) : State := { s with link := x }
def State.setNotice (s : State) (x : NoticeUnit) : State := { s with notice := x }
def State.setStore (s : State) (x : Store) : State := { s with store := x }
def State.setEvents (s : State) (x : List Handoff) : State := { s with events := x }
def State.setPending (s : State) (x : List Instr) : State := { s with pending := x }

/-! ### The state after reset (R200) -/

/-- Cleared compliance figures (R12, R30). -/
def Compliance.zero : Compliance := ⟨false, 0, 0, 0, 0, false⟩

/-- The BASE hold that start-up builds in a zone's slot (R30). -/
def resetBase (slot : Nat) (z : Zone) (target halfBand : Int) : Hold where
  handle := ⟨slot, 1⟩
  zone := z
  kind := .base
  target := target
  halfBand := halfBand
  priority := 0
  expiry := none
  speedFloor := none
  lapseOnReach := false
  origin := .internal
  state := .effective
  figures := .zero

/-- A zone record after reset (R32). -/
def resetZone (st : ZoneState) (slot : Nat) (t h : Int) (weight : Nat) : ZoneRec where
  state := st
  source := .sensed
  f := 0
  handle := ⟨slot, 1⟩
  t := t
  h := h
  weight := weight
  floor := none
  doorPaused := false
  grace := 0
  waitAge := 0
  excess := 0
  urgency := 0
  sat := false
  warmCount := 0
  coldCount := 0
  warm := false
  cold := false
  half := none
  blindDue := none
  placeholder := true

/-- A channel record after reset (R126). -/
def resetChannel (shift : Nat) : ChannelRec := ⟨.seeding, 0, none, none, 0, 0, 0, shift⟩

/-- A door record after reset (R153). -/
def resetDoor : DoorRec := ⟨.low, 0, .closed, none, none, false, false, 0⟩

/-- The active CHILL entry of the factory regime CHILLED (R106). -/
def resetChillEntry : MapEntry := ⟨.fresh, some .chilled, .s1, some (.s0, -40), [.dr], .damper .fresh, 3, 30⟩

/-- The part right after a power-on reset whose start-up sequence (R200) found a settings image that was never written
(log entry 7) and both straps low (log entry 6). -/
def State.reset : State where
  holds :=
    { slots := ⟨1, some (resetBase 0 .fresh 30 10)⟩ :: ⟨1, some (resetBase 1 .chill (-10) 5)⟩
        :: ⟨1, some (resetBase 2 .freeze (-180) 15)⟩ :: List.replicate 21 ⟨1, none⟩
      lists := ⟨[⟨0, 1⟩], [⟨1, 1⟩], [⟨2, 1⟩]⟩ }
  map :=
    { active := ⟨⟨.fresh, none, .s0, none, [.fl, .fr], .ff, 4, 30⟩, resetChillEntry,
        ⟨.freeze, none, .s2, none, [.zd], .zf, 2, 50⟩⟩
      shadow := resetChillEntry
      pairs := ⟨none, none, ⟨some (.s0, -40), some (.s2, 20), some (.s2, 20)⟩⟩
      regime := .chilled
      target := some .chilled
      step := some .closing
      startUp := true
      defaultTargets := ⟨-10, -50, -180⟩ }
  meas :=
    { channels := ⟨resetChannel 3, resetChannel 3, resetChannel 2, resetChannel 1, resetChannel 1, resetChannel 4⟩
      corrections := [none, none, none, none]
      mains := ⟨.normal, 0, 0, 0, 2600, 2800⟩ }
  doors := ⟨⟨resetDoor, resetDoor, resetDoor, resetDoor⟩, 80, 120⟩
  eval :=
    { zones := ⟨resetZone .satisfied 0 30 10 4, resetZone .transit 1 (-10) 5 3, resetZone .satisfied 2 (-180) 15 2⟩
      paths := ⟨⟨0, false, none⟩, ⟨0, false, none⟩⟩
      demand := false
      trigger := ⟨.s0, .s1, .s2⟩
      excursionTime := 30
      blindLen := ⟨⟨15, 45⟩, ⟨10, 50⟩, ⟨20, 40⟩⟩
      blindUsed := ⟨⟨15, 45⟩, ⟨10, 50⟩, ⟨20, 40⟩⟩ }
  arb :=
    { state := .off
      startPath := none
      speed := 0
      speedTarget := 30
      valveTarget := 60
      inhibitRunning := true
      dwellMinMet := false
      dwellMaxMet := false
      resumePref := none
      stack := []
      faultCount := 0
      runSeconds := 0
      maxSpeed := 100 }
  drive := ⟨0, 0, false, 0, 0, none, false, .waiting, []⟩
  defrost := ⟨.idle, 0, 86400, false, 0, false, false⟩
  air :=
    { path := .off
      ff := 0
      zf := 0
      cf := 0
      runFf := 0
      runZf := 0
      runCf := 0
      fanDelay := none
      damperPos := 0
      damperTarget := 0
      damperMotion := .homing 0
      flapSide := none
      flapMotion := .atRest
      valvePos := 0
      valveTarget := 60
      valveMotion := .homing 0 }
  time := ⟨0, 0, [⟨.inhibit, ⟨300, 0⟩⟩], []⟩
  link := ⟨.hunt, .idle, false, none, none, [], false⟩
  notice := ⟨0, 0x7FF, false⟩
  store := ⟨none, none, true⟩
  straps := ⟨false, false⟩
  events := []
  pending := []

end Sys2Proof.Machine
end

