-- ==== Sys2Proof/Machine/Ops.lean ====
section
/-! DEFINITION. The operations every block shares: instants and the deadline list (R169 to R174), the hand-offs between
blocks, and the reads by which one block looks at another's record. -/

namespace Sys2Proof.Machine

/-! ### Arithmetic of the manual (00_scope.md, Numbers and arithmetic) -/

/-- "Clamped to a to b". -/
def clampInt (lo hi x : Int) : Int := if x < lo then lo else if hi < x then hi else x

/-- "Clamped to a to b" for a count. -/
def clampNat (lo hi x : Nat) : Nat := if x < lo then lo else if hi < x then hi else x

/-! ### Instants -/

/-- An instant as a number of milliseconds: instants are ordered by it (R169). -/
def Instant.toMs (i : Instant) : Nat := i.sec * 1000 + i.ms

/-- The instant `secs` whole seconds after `i`: a wait lasts its seconds exactly (R167). -/
def Instant.plus (i : Instant) (secs : Nat) : Instant := ⟨i.sec + secs, i.ms⟩

/-- The instant at which the present event is taken (R167). -/
def State.now (s : State) : Instant := ⟨s.time.uptime, s.time.ms⟩

/-! ### The deadline list -/

/-- The owner of a kind of deadline (R169's table). -/
def DeadlineKey.owner : DeadlineKey → Owner
  | .holdExpiry i => .slot i
  | .doorAjar d => .door d
  | .stage => .arbiter
  | .inhibit => .arbiter
  | .dwellMin => .arbiter
  | .dwellMax => .arbiter
  | .speedStep => .arbiter
  | .phase => .defrost
  | .pendingLimit => .defrost
  | .coilRecovery => .defrost
  | .blindHalf z => .zone z
  | .fanDelay => .air

/-- The list without the entry of one kind and owner; the other entries keep their order (R171). -/
def dropKey (k : DeadlineKey) (l : List Deadline) : List Deadline := l.filter fun d => decide (d.key ≠ k)

/-- An entry is placed after every entry due earlier or at the same instant, and before every later one (R170). -/
def placeDeadline (d : Deadline) : List Deadline → List Deadline
  | [] => [d]
  | e :: es => if e.due.toMs ≤ d.due.toMs then e :: placeDeadline d es else d :: e :: es

/-- Insertion with a given due instant: it replaces an entry of the same kind and owner and withdraws its expiry in
flight (R170, R174). -/
def State.insertAt (s : State) (k : DeadlineKey) (due : Instant) : State :=
  s.setTime { s.time with
    deadlines := placeDeadline ⟨k, due⟩ (dropKey k s.time.deadlines)
    expiries := dropKey k s.time.expiries }

/-- Insertion with a wait: the due instant is the instant of the inserting event plus the wait (R170). -/
def State.insertAfter (s : State) (k : DeadlineKey) (secs : Nat) : State := s.insertAt k (s.now.plus secs)

/-- Removal: the entry leaves the list and any expiry of it in flight is withdrawn (R171). -/
def State.removeDeadline (s : State) (k : DeadlineKey) : State :=
  s.setTime { s.time with deadlines := dropKey k s.time.deadlines, expiries := dropKey k s.time.expiries }

/-- Is the first entry of the list due (R172)? -/
def State.entryDue (s : State) : Bool :=
  match s.time.deadlines with
  | [] => false
  | d :: _ => decide (d.due.toMs ≤ s.now.toMs)

/-- The first entry leaves the list when it is due, and its expiry is in flight (R172). -/
def State.entryFallsDue (s : State) : State :=
  match s.time.deadlines with
  | [] => s
  | d :: ds =>
    if d.due.toMs ≤ s.now.toMs then s.setTime { s.time with deadlines := ds, expiries := s.time.expiries ++ [d] } else s

/-- The expiry that an owner takes next: the first of its own in flight (R172). -/
def nextExpiry (o : Owner) (l : List Deadline) : Option Deadline := l.find? fun d => decide (d.key.owner = o)

/-- Delivery of an expiry to its owner, which takes its expiries in the order they left the list (R172): `f` is given the
due instant and the state without the expiry. Where no such expiry is next, nothing is delivered and nothing changes
(R173, log entry 3). -/
def State.deliver (s : State) (k : DeadlineKey) (f : Instant → State → State) : State :=
  match nextExpiry k.owner s.time.expiries with
  | none => s
  | some d =>
    if d.key = k then f d.due (s.setTime { s.time with expiries := dropKey k s.time.expiries }) else s

/-- The due instant of a wait, in the list or in flight. -/
def State.dueOf (s : State) (k : DeadlineKey) : Option Instant :=
  ((s.time.deadlines ++ s.time.expiries).find? fun d => decide (d.key = k)).map (·.due)

/-! ### Hand-offs -/

/-- A block hands an event to another. -/
def State.hand (s : State) (e : Handoff) : State := s.setEvents (s.events ++ [e])

/-- The oldest hand-off that `p` accepts, with the others in their order. -/
def takeFirst {α : Type} (p : Handoff → Option α) : List Handoff → Option (α × List Handoff)
  | [] => none
  | e :: es =>
    match p e with
    | some a => some (a, es)
    | none =>
      match takeFirst p es with
      | some (a, rest) => some (a, e :: rest)
      | none => none

/-! What each block reads from a hand-off that is an event of the kind it takes. -/

/-- The hand-off itself and nothing else. -/
def onlyEvent (x e : Handoff) : Option Unit := if e = x then some () else none

def holdChangeOf (z : Zone) : Handoff → Option Governing
  | .holdChange z' g => if z' = z then some g else none
  | _ => none

def doorEventOf (d : Door) : Handoff → Option DoorEvent
  | .doorToZone d' e => if d' = d then some e else none
  | _ => none

def arbiterArrivalOf : Handoff → Option Nat
  | .valveToArbiter pos => some pos
  | _ => none

def defrostArrivalOf : Handoff → Option Nat
  | .valveToDefrost pos => some pos
  | _ => none

def mainsOf : Handoff → Option MainsState
  | .mains m => some m
  | _ => none

/-- Did RUN_FRESH end, and was it a halt? -/
def pathChangeOf : Handoff → Option (Bool × Bool)
  | .arbiterToDefrost endedFresh halted => some (endedFresh, halted)
  | _ => none

def oneSecondOf (z : Zone) : Handoff → Option Report
  | .oneSecond z' r => if z' = z then some r else none
  | _ => none

def s3ReportOf : Handoff → Option Report
  | .s3Report r => some r
  | _ => none

def s4ReportOf : Handoff → Option Report
  | .s4Report r => some r
  | _ => none

def cutShortOf : Handoff → Option Nat
  | .cutShort u => some u
  | _ => none

/-- A block takes the oldest hand-off that `p` accepts. Where none is in flight there is no event to take, and nothing
changes (log entry 3). -/
def State.takeEvent {α : Type} (s : State) (p : Handoff → Option α) (f : α → State → State) : State :=
  match takeFirst p s.events with
  | none => s
  | some (a, rest) => f a (s.setEvents rest)

/-- A block raises a notice (R190); the notice unit takes the raise as an event of its own (R192, log entry 12). -/
def State.raiseNotice (s : State) (n : Notice) : State := s.hand (.raise n)

/-! ### Reads of other blocks' records -/

def State.channel (s : State) (c : Channel) : ChannelRec := s.meas.channels.get c

/-- What a report of the channel carries (R125). -/
def State.reportOf (s : State) (c : Channel) : Report :=
  ⟨c, (s.channel c).state, (s.channel c).f, (s.channel c).converted⟩

/-- A channel as a receiver sees it: of the channel whose report it takes, what the report carries; of any other, the record
as it stands (R125). -/
def State.reading (s : State) (taken : Option Report) (c : Channel) : Report :=
  match taken with
  | some r => if r.channel = c then r else s.reportOf c
  | none => s.reportOf c

def State.door (s : State) (d : Door) : DoorRec := s.doors.recs.get d

def State.entry (s : State) (z : Zone) : MapEntry := s.map.active.get z

def State.zone (s : State) (z : Zone) : ZoneRec := s.eval.zones.get z

def State.setZone (s : State) (z : Zone) (r : ZoneRec) : State :=
  s.setEval { s.eval with zones := s.eval.zones.set z r }

/-- A door is open when its state is OPEN or AJAR (R145). -/
def DoorRec.isOpen (d : DoorRec) : Bool := decide (d.state ≠ .closed)

/-- The CHILL zone is in TRANSIT exactly while the transit step is present (R112). -/
def State.inTransit (s : State) : Bool := s.map.step.isSome

/-- For zone purposes a channel is usable in GOOD and SUSPECT (R35). -/
def Report.usable (r : Report) : Bool := decide (r.state = .good ∨ r.state = .suspect)

/-- The ambient temperature that S5 gives: its F when it is GOOD, 320 otherwise (R73, R159). -/
def Report.ambient (r : Report) : Int := if r.state = .good then r.f else 320

/-- The ambient temperature as S5's record stands (R73, R159). -/
def State.ambient (s : State) : Int := (s.reportOf .s5).ambient

/-- A zone that is CALLING or COOLING has a call (R31). -/
def ZoneRec.calls (z : ZoneRec) : Bool := decide (z.state = .calling ∨ z.state = .cooling)

/-- Does the arbiter run the path (R42)? -/
def PathState.runs : PathState → Path → Bool
  | .runFresh, .fresh => true
  | .runFreeze, .freeze => true
  | _, _ => false

/-- In RUN_FRESH, RUN_FREEZE and PUMPDOWN the compressor is commanded to run (R57, R77). -/
def PathState.commandsRun : PathState → Bool
  | .runFresh => true
  | .runFreeze => true
  | .pumpdown => true
  | _ => false

def PathState.isHalted : PathState → Bool
  | .halted _ => true
  | _ => false

end Sys2Proof.Machine
end

