-- ==== Sys2Proof/Machine/Flags.lean ====
section
/-! DEFINITION. The flags: CLAMPED of an adjustment (R8 to R10), the saturation flags of minute counts and urgencies (R27,
R45, R46), the LINKFLAGS byte (R184), and the judgement of ATTN (R190). -/

namespace Sys2Proof.Machine

/-- A value brought into range, and whether that moved it (CLAMPED). -/
structure Adjusted (α : Type) where
  val : α
  clamped : Bool
  deriving DecidableEq, Repr

/-- A clamp sets CLAMPED when it moves the value (R8). -/
def clampFlag (lo hi x : Int) : Adjusted Int := ⟨clampInt lo hi x, decide (clampInt lo hi x ≠ x)⟩

/-- A sum held at 9999, with SAT when it would pass it (R45, R46). -/
def hold9999 (u : Nat) : Nat × Bool := if 9999 < u then (9999, true) else (u, false)

/-- One second added to a minute count and its remainder (R27): at 65535 the count is held, the remainder stops and SAT
is set (log entry 14). Answers the count, the remainder and SAT. -/
def addSecond (minutes seconds : Nat) (sat : Bool) : Nat × Nat × Bool :=
  if 65535 ≤ minutes then (minutes, seconds, true)
  else if seconds + 1 < 60 then (minutes, seconds + 1, sat)
  else (minutes + 1, 0, sat || decide (minutes + 1 = 65535))

/-- The code of a notice, 1 to 11 in priority order (R190). -/
def noticeCode : Notice → Nat
  | .compressorLockout => 1
  | .compressorFault => 2
  | .mainsSag => 3
  | .sensorFault => 4
  | .warmExcursion => 5
  | .coldExcursion => 6
  | .doorAjar => 7
  | .holdLapsed => 8
  | .regimeDone => 9
  | .defrostDone => 10
  | .storeDone => 11

/-- The kinds in priority order, the highest first (R190). -/
def noticeOrder : List Notice :=
  [.compressorLockout, .compressorFault, .mainsSag, .sensorFault, .warmExcursion, .coldExcursion, .doorAjar, .holdLapsed,
    .regimeDone, .defrostDone, .storeDone]

/-- The flag of a kind in the eleven: bit n - 1 for code n (R191). -/
def noticeBit (n : Notice) : BitVec 11 := BitVec.ofNat 11 (2 ^ (noticeCode n - 1))

/-- Is the kind's flag set? -/
def noticeIn (n : Notice) (flags : BitVec 11) : Bool := flags.getLsbD (noticeCode n - 1)

/-- ATTN is asserted exactly when at least one kind is both pending and enabled; it is judged anew at each event that
changes a pending or enable flag (R190). -/
def NoticeUnit.judged (n : NoticeUnit) : NoticeUnit := { n with attn := decide (n.pending &&& n.enabled ≠ 0) }

/-- The LINKFLAGS byte: bit 0 OVERRUN, bit 1 ATTN-PENDING, bit 2 CLAMPED, bits 3 to 7 zero (R184). -/
def linkFlags (overrun attn clamped : Bool) : Byte :=
  BitVec.ofNat 8 ((if overrun then 1 else 0) + (if attn then 2 else 0) + (if clamped then 4 else 0))

end Sys2Proof.Machine
end

