-- ==== Sys2Proof/Machine/Operands.lean ====
section
/-! DEFINITION. The fields of requests and replies: the codes of R185's encoding table, read and written, the byte order
of R180, and the adjustments of R8 to R10. -/

namespace Sys2Proof.Machine

/-! ### Byte order (R180): least significant byte first -/

def byteOf (n : Nat) : Byte := BitVec.ofNat 8 n

/-- A 16-bit field, low byte first. -/
def halfBytes (v : Half) : List Byte := [v.setWidth 8, (v >>> 8).setWidth 8]

/-- A 32-bit field, low byte first. -/
def quadBytes (v : Quad) : List Byte :=
  [v.setWidth 8, (v >>> 8).setWidth 8, (v >>> 16).setWidth 8, (v >>> 24).setWidth 8]

/-- An unsigned two-byte field. -/
def u16 (n : Nat) : List Byte := halfBytes (BitVec.ofNat 16 n)

/-- A temperature: a signed two-byte field. -/
def i16 (x : Int) : List Byte := halfBytes (BitVec.ofInt 16 x)

/-- An unsigned four-byte field. -/
def u32 (n : Nat) : List Byte := quadBytes (BitVec.ofNat 32 n)

/-- A due time as reported (R186): its whole seconds, and a free value beyond the range (log entry 17). -/
def dueBytes (due : Nat) : List Byte :=
  if due ≤ Config.uptimeMax then u32 due else quadBytes (Config.dueBeyondRange due)

/-- The 8-bit sum of a list of bytes (R180, R193). -/
def byteSum : List Byte → Byte
  | [] => 0
  | b :: bs => b + byteSum bs

/-- CHECK makes the 8-bit sum of all the bytes it covers and itself 0 (R180, R193). -/
def checkOf (bs : List Byte) : Byte := 0 - byteSum bs

def bit (b : Bool) (n : Nat) : Nat := if b then 2 ^ n else 0

/-! ### Codes of R185, read from a request -/

def zoneOf (b : Byte) : Option Zone :=
  match b.toNat with
  | 0 => some .fresh
  | 1 => some .chill
  | 2 => some .freeze
  | _ => none

def kindOf (b : Byte) : Option HoldKind :=
  match b.toNat with
  | 0 => some .base
  | 1 => some .boost
  | 2 => some .ease
  | _ => none

def regimeOf (b : Byte) : Option Regime :=
  match b.toNat with
  | 0 => some .chilled
  | 1 => some .soft
  | 2 => some .frozen
  | _ => none

def channelOf (b : Byte) : Option Channel :=
  match b.toNat with
  | 0 => some .s0
  | 1 => some .s1
  | 2 => some .s2
  | 3 => some .s3
  | 4 => some .s4
  | 5 => some .s5
  | _ => none

def doorOf (b : Byte) : Option Door :=
  match b.toNat with
  | 0 => some .fl
  | 1 => some .fr
  | 2 => some .dr
  | 3 => some .zd
  | _ => none

/-- A fallback code: S0 to S5, or FFh for NONE; anything else is undefined. -/
def fallbackOf (b : Byte) : Option (Option Channel) :=
  if b = 0xFF then some none else (channelOf b).map some

/-! ### Codes of R185, written into a reply -/

def zoneCode : Zone → Nat
  | .fresh => 0
  | .chill => 1
  | .freeze => 2

def HoldKind.code : HoldKind → Nat
  | .base => 0
  | .boost => 1
  | .ease => 2

def HoldState.code : HoldState → Nat
  | .effective => 0
  | .shadowed => 1
  | .lapsed _ => 2

def HoldState.causeCode : HoldState → Nat
  | .lapsed .expired => 1
  | .lapsed .reached => 2
  | .lapsed .regime => 3
  | _ => 0

def Origin.code : Origin → Nat
  | .link => 0
  | .internal => 1

def regimeCode : Regime → Nat
  | .chilled => 0
  | .soft => 1
  | .frozen => 2

def channelCode : Channel → Nat
  | .s0 => 0
  | .s1 => 1
  | .s2 => 2
  | .s3 => 3
  | .s4 => 4
  | .s5 => 5

def doorCode : Door → Nat
  | .fl => 0
  | .fr => 1
  | .dr => 2
  | .zd => 3

def DoorState.code : DoorState → Nat
  | .closed => 0
  | .opened => 1
  | .ajar => 2

def ZoneState.code : ZoneState → Nat
  | .satisfied => 0
  | .calling => 1
  | .cooling => 2
  | .transit => 3

def Source.code : Source → Nat
  | .sensed => 0
  | .fallback => 1
  | .blind => 2

def ChannelState.code : ChannelState → Nat
  | .seeding => 0
  | .good => 1
  | .suspect => 2
  | .faulted => 3
  | .recovering => 4

def faultKindCode : Option FaultKind → Nat
  | none => 0
  | some .short => 1
  | some .open_ => 2

def pathIdx : Path → Nat
  | .fresh => 0
  | .freeze => 1

/-- A path or resume preference, FFh when absent. -/
def pathCode : Option Path → Nat
  | some p => pathIdx p
  | none => 0xFF

def PathState.code : PathState → Nat
  | .off => 0
  | .runFresh => 1
  | .runFreeze => 2
  | .pumpdown => 3
  | .halted _ => 4

def PathState.haltCode : PathState → Nat
  | .halted .fault => 1
  | .halted .sag => 2
  | .halted .lockout => 3
  | _ => 0

def SavedState.code : SavedState → Nat
  | .off => 0
  | .runFresh => 1
  | .runFreeze => 2
  | .pumpdown => 3

def Phase.code : Phase → Nat
  | .idle => 0
  | .pending => 1
  | .prechill => 2
  | .release => 3
  | .heat => 4
  | .drip => 5
  | .recover => 6

def MainsState.code : MainsState → Nat
  | .normal => 0
  | .sag => 1

def Motion.code : Motion → Nat
  | .atRest => 0
  | .moving => 1
  | .homing _ => 2

/-- The flap side: 0 FRESH, 1 FREEZE, 2 UNKNOWN. -/
def flapSideCode : Option Path → Nat
  | some p => pathIdx p
  | none => 2

def fanDelayCode : Option FanDelay → Nat
  | none => 0
  | some .active => 1
  | some .ended => 2

/-- A fallback channel code, FFh for none. -/
def fallbackCode : Fallback → Nat
  | some (c, _) => channelCode c
  | none => 0xFF

/-- A stored pair's offset: 0 with no fallback (R110). -/
def fallbackOffset : Fallback → Int
  | some (_, o) => o
  | none => 0

/-- The status codes of R181. -/
def Status.code : Status → Byte
  | .ok => 0x00
  | .accepted => 0x01
  | .unknown => 0x10
  | .length => 0x11
  | .check => 0x12
  | .stale => 0x20
  | .lapsed => 0x21
  | .fixed => 0x22
  | .full => 0x23
  | .field => 0x24
  | .busy => 0x30
  | .late => 0x31
  | .duplicate => 0x40
  | .nonmonotonic => 0x41

/-! ### Adjustments of R8 to R10 -/

/-- The nearest multiple of 5 tenths (R8): the quotient is the floor, so the remainder 0 to 4 decides. -/
def quantise (x : Int) : Int := 5 * ((x + 2) / 5)

/-- A target is quantised and then clamped to the range; only the clamp sets CLAMPED (R8). -/
def adjustTarget (z : Zone) (r : Regime) (x : Int) : Adjusted Int :=
  clampFlag (Config.targetRange z r).1 (Config.targetRange z r).2 (quantise x)

/-- A half-band is quantised and then clamped to 5 to 20 (R8). -/
def adjustHalfBand (x : Int) : Adjusted Int := clampFlag 5 20 (quantise x)

/-- A BOOST target is held at or below the BASE target, an EASE target at or above it; a BASE target is not bounded
(R9, R14). -/
def boundTarget (k : HoldKind) (base : Int) (a : Adjusted Int) : Adjusted Int :=
  match k with
  | .base => a
  | .boost => if base < a.val then ⟨base, true⟩ else a
  | .ease => if a.val < base then ⟨base, true⟩ else a

/-- The priority of a BOOST or EASE hold: 1 to 7 (R10). -/
def adjustPriority (n : Nat) : Adjusted Nat := ⟨clampNat 1 7 n, decide (clampNat 1 7 n ≠ n)⟩

/-- The speed floor of a BOOST hold: 0 is no floor, anything else is brought to 40 to 100 (R10). -/
def adjustFloor (n : Nat) : Adjusted (Option Nat) :=
  if n = 0 then ⟨none, false⟩ else ⟨some (clampNat 40 100 n), decide (clampNat 40 100 n ≠ n)⟩

/-- The due time of an expiry of `minutes` minutes asked for at `uptime`; 0 minutes is no expiry (R10). -/
def expiryDue (uptime minutes : Nat) : Option Nat := if minutes = 0 then none else some (uptime + 60 * minutes)

end Sys2Proof.Machine
end

