-- ==== Sys2Proof/Machine/Air.lean ====
section
/-! DEFINITION. The air handler (chapter 8): the fan laws, the damper law (R119), the fan delay, and the motion of damper
and valve. The flap's arrival acts on the zone map and stands in `ZoneMap.lean`. -/

namespace Sys2Proof.Machine

/-! ### Targets of the motors -/

/-- A damper target (R161): stored while HOMING; at rest it starts a motion only when it differs from the position; a
moving damper is re-aimed, and one re-aimed to its present position stops there at its next arrival. -/
def aimDamper (a : Air) (target : Nat) : Air :=
  match a.damperMotion with
  | .atRest =>
    if target = a.damperPos then { a with damperTarget := target }
    else { a with damperTarget := target, damperMotion := .moving }
  | _ => { a with damperTarget := target }

/-- The valve's arrival, with its position, is handed to the arbiter and to the defrost controller (R163). -/
def State.reportValve (s : State) : State :=
  (s.hand (.valveToArbiter s.air.valvePos)).hand (.valveToDefrost s.air.valvePos)

/-- The air handler takes the valve target that the arbiter handed, as it stands (R60, R156). A target equal to the
position of a valve at rest is reported as an arrival at once; a moving valve is re-aimed; a homing valve stores the
target (R163, R164). -/
def State.takeValve (s : State) : State :=
  let s1 := s.setAir { s.air with valveTarget := s.arb.valveTarget }
  match s.air.valveMotion with
  | .atRest => if s.air.valvePos = s.arb.valveTarget then s1.reportValve else s1.setAir { s1.air with valveMotion := .moving }
  | _ => s1

/-! ### Fan laws

The path state of the laws is the one the air handler last took (R160, section 8.8, log entry 41). -/

/-- FF (R157). -/
def ffLaw (s : State) : Nat :=
  if (s.door .fl).state = .opened ∨ (s.door .fr).state = .opened then 0
  else if s.air.path = .runFresh then min 100 (60 + s.eval.paths.fresh.urgency / 25)
  else if s.defrost.recovery then 50
  else 0

/-- ZF (R158). -/
def zfLaw (s : State) : Nat :=
  if (s.door .zd).state = .opened then 0
  else if s.defrost.phase = .heat ∨ s.defrost.phase = .drip then 0
  else if s.air.path = .runFreeze ∧ s.air.fanDelay = some .ended then 100
  else 0

/-- CF at the ambient temperature `amb` (R159): 0 where the strap says the fan is not fitted. -/
def cfLaw (s : State) (amb : Int) : Nat :=
  if s.straps.strap1 = false then 0
  else if s.air.path.commandsRun = false then 0
  else if amb < 250 then 40
  else (clampInt 40 100 (40 + 4 * ((amb - 250) / 10))).toNat

/-- The damper law (R119): the first condition that applies decides. -/
def damperLaw (s : State) : Nat :=
  let side := match (s.entry .chill).actuator with
    | .damper p => some p
    | _ => none
  if s.inTransit then 0
  else if ¬ (s.air.flapMotion = .atRest ∧ s.air.flapSide = side) then 0
  else if (s.door .dr).state = .opened then 0
  else if s.eval.demand = false then 0
  else min 400 (120 + 8 * (s.zone .chill).excess)

/-- All three set duties, at the ambient temperature `amb`, and then the damper target (R156). -/
def State.recomputeAirAt (s : State) (amb : Int) : State :=
  s.setAir (aimDamper { s.air with ff := ffLaw s, zf := zfLaw s, cf := cfLaw s amb } (damperLaw s))

/-- The recomputation from the other blocks' state as it stands (R156). -/
def State.recomputeAir (s : State) : State := s.recomputeAirAt s.ambient

/-! ### The fan delay (R160) -/

/-- Does S4 in this state and at this value hold the fan back no longer? -/
def Report.releasesFan (r : Report) : Bool := decide (r.state ≠ .good ∨ r.f ≤ -50)

/-- The entry into RUN_FREEZE: S4 is judged as it stands. -/
def State.startFanDelay (s : State) : State :=
  if (s.reportOf .s4).releasesFan then
    (s.removeDeadline .fanDelay).setAir { s.air with fanDelay := some .ended }
  else (s.insertAfter .fanDelay 90).setAir { s.air with fanDelay := some .active }

/-- Outside RUN_FREEZE the fan delay is absent, with no FAN_DELAY in the list. -/
def State.dropFanDelay (s : State) : State :=
  (s.removeDeadline .fanDelay).setAir { s.air with fanDelay := none }

/-- The fan delay on a change of the path state. -/
def State.fanDelayStep (s : State) (entersFreeze : Bool) : State :=
  if s.arb.state = .runFreeze then (if entersFreeze then s.startFanDelay else s) else s.dropFanDelay

/-- The air handler's own work on a change of the path state, which it reads as it stands (R60): the state is taken, the
fan delay follows it (R160), and the valve target is taken (R156, R163). -/
def State.airPathChange (s : State) (entersFreeze : Bool) : State :=
  ((s.setAir { s.air with path := s.arb.state }).fanDelayStep entersFreeze).takeValve

/-- The air handler's own work on an S4 report: it may end an ACTIVE fan delay. -/
def State.airS4 (s : State) (r : Report) : State :=
  if s.air.fanDelay = some .active ∧ r.releasesFan then
    (s.removeDeadline .fanDelay).setAir { s.air with fanDelay := some .ended }
  else s

/-! ### Taking a handed-on event (R156) -/

/-- What an event of the given kind brings the air handler: nothing, a path change, or a report of S4 or S5. -/
inductive AirWork
  | none
  | pathState (entersFreeze : Bool)
  | s4 (r : Report)
  | s5 (r : Report)
  deriving DecidableEq, Repr

/-- Is the hand-off an event of this kind for the air handler? -/
def airEvent (k : AirKind) (e : Handoff) : Option AirWork :=
  match k, e with
  | .pathState, .airPathState b => some (.pathState b)
  | .urgencies, .airUrgencies => some .none
  | .door, .airDoor => some .none
  | .defrostChange, .airDefrost => some .none
  | .s4Report, .airS4 r => some (.s4 r)
  | .s5Report, .airS5 r => some (.s5 r)
  | .drawerInput, .airDrawer => some .none
  | _, _ => none

/-- The event's own work comes first, then the duties and the damper target (R156); a report of S5 brings the ambient
temperature (R125). -/
def State.airTake (s : State) (w : AirWork) : State :=
  match w with
  | .none => s.recomputeAir
  | .pathState b => (s.airPathChange b).recomputeAir
  | .s4 r => (s.airS4 r).recomputeAir
  | .s5 r => s.recomputeAirAt r.ambient

/-- AIR_RECOMPUTE (R156). -/
def execAirRecompute (k : AirKind) (s : State) : Host.Outcome State Fault Refusal :=
  .next (s.takeEvent (airEvent k) fun w s1 => s1.airTake w)

/-- FAN_DELAY (R160): its delivery ends an ACTIVE delay, and the recomputation follows (R156). -/
def execFanDelay (s : State) : Host.Outcome State Fault Refusal :=
  .next (s.deliver .fanDelay fun _ s1 =>
    (if s1.air.fanDelay = some .active then s1.setAir { s1.air with fanDelay := some .ended } else s1).recomputeAir)

/-! ### Steps and arrivals -/

/-- One position step toward a target. -/
def stepToward (pos target : Nat) : Nat :=
  if pos < target then pos + 1 else if target < pos then pos - 1 else pos

/-- DAMPER_STEP (R161, R164): while MOVING one step toward the target; while HOMING one of the 440 steps toward closed,
with the position reading 0. -/
def execDamperStep (s : State) : Host.Outcome State Fault Refusal :=
  .next (match s.air.damperMotion with
    | .atRest => s
    | .moving => s.setAir { s.air with damperPos := stepToward s.air.damperPos s.air.damperTarget }
    | .homing n =>
      if n < Config.damperHomingSteps then s.setAir { s.air with damperMotion := .homing (n + 1) } else s)

/-- VALVE_STEP (R163, R164): while MOVING one step toward the target; while HOMING one of the 140 steps toward the FRESH
end, with the position reading 0, and then one of the 60 toward CLOSED. -/
def execValveStep (s : State) : Host.Outcome State Fault Refusal :=
  .next (match s.air.valveMotion with
    | .atRest => s
    | .moving => s.setAir { s.air with valvePos := stepToward s.air.valvePos s.air.valveTarget }
    | .homing n =>
      if n < Config.valveHomingSteps then
        s.setAir { s.air with valveMotion := .homing (n + 1), valvePos := n + 1 - Config.valveHomingToStop }
      else s)

/-- VALVE_ARRIVAL (R163): the position has reached the target, the motion becomes AT REST and the arrival is handed on. -/
def execValveArrival (s : State) : Host.Outcome State Fault Refusal :=
  .next (if s.air.valveMotion = .moving ∧ s.air.valvePos = s.air.valveTarget then
      (s.setAir { s.air with valveMotion := .atRest }).reportValve
    else s)

/-- The end of the valve's homing (R164): from position 60 it takes up the stored target. -/
def State.valveHomed (s : State) : State :=
  if s.air.valveTarget = Config.valveClosed then
    (s.setAir { s.air with valvePos := Config.valveClosed, valveMotion := .atRest }).reportValve
  else s.setAir { s.air with valvePos := Config.valveClosed, valveMotion := .moving }

/-- PWM_PERIOD_BOUNDARY (R155): the running duties are loaded from the set duties. -/
def execPwmPeriodBoundary (s : State) : Host.Outcome State Fault Refusal :=
  .next (s.setAir { s.air with runFf := s.air.ff, runZf := s.air.zf, runCf := s.air.cf })

end Sys2Proof.Machine
end

