-- ==== Sys2Proof/Machine/Serve.lean ====
section
/-! DEFINITION. How a request reaches its owning block and how the reply is formed (R181 to R183). -/

namespace Sys2Proof.Machine

/-- A reply that refuses: no payload, no CLAMPED (R181). -/
def refuse (st : Status) : Reply := ⟨st, false, []⟩

/-- A reply of status OK without CLAMPED. -/
def okReply (payload : List Byte) : Reply := ⟨.ok, false, payload⟩

/-- A request frame that completes while the port is not IDLE is discarded and OVERRUN is set (R183). -/
def State.discardFrame (s : State) : State := s.setLink { s.link with overrun := true }

/-- The reply is formed; it waits for its transmission to begin (R182). -/
def State.formReply (s : State) (r : Reply) : State := s.setLink { s.link with reply := some r }

/-- A request, given by its CODE and payload bytes, is taken by its owning block, which acts and forms the reply.
Where the characters of the request have been received, it waits as `request` with the port SERVING. Otherwise the
command stands for the whole frame (log entry 4): it completes now, and the port must be IDLE, or it is an overrun
(R181, R182, R183). -/
def State.serve (s : State) (code : List Byte) (act : State → State × Reply) : State :=
  if s.link.request = some code then
    let r := act (s.setLink { s.link with request := none })
    r.1.formReply r.2
  else if s.link.port = .idle then
    let r := act (s.setLink { s.link with port := .serving })
    r.1.formReply r.2
  else s.discardFrame

end Sys2Proof.Machine
end

