-- ==== Sys2Proof/Machine/Arbiter.lean ====
section
/-! DEFINITION. The path arbiter (chapter 3): availability and urgency, speed target, the changes of path state, reviews,
its timers, faults, sag and recovery, and CLEAR LOCKOUT. -/

namespace Sys2Proof.Machine

/-! ### Availability and urgency (R58, R59) -/

def State.available (s : State) (p : Path) : Bool :=
  !s.arb.state.isHalted &&
    match p with
    | .fresh => !s.defrost.recovery
    | .freeze => decide (s.defrost.phase ≠ .release ∧ s.defrost.phase ≠ .heat ∧ s.defrost.phase ≠ .drip)

/-- The urgency the arbiter uses (R59). -/
def State.countedUrgency (s : State) (p : Path) : Nat :=
  if p = .freeze ∧ s.defrost.phase = .pending then max (s.eval.paths.get p).urgency 1 else (s.eval.paths.get p).urgency

/-- A path both urgent and available. -/
def State.wanted (s : State) (p : Path) : Bool := decide (0 < s.countedUrgency p) && s.available p

def otherPath : Path → Path
  | .fresh => .freeze
  | .freeze => .fresh

/-- The end of the valve's travel that serves a path (R56). -/
def valveEnd : Path → Nat
  | .fresh => Config.valveFreshEnd
  | .freeze => Config.valveFreezeEnd

def runState : Path → PathState
  | .fresh => .runFresh
  | .freeze => .runFreeze

/-- The path that a running state serves. -/
def PathState.path : PathState → Option Path
  | .runFresh => some .fresh
  | .runFreeze => some .freeze
  | _ => none

/-! ### Speed (R72 to R74) -/

/-- The ambient derate (R73). -/
def ambientDerate (amb : Int) : Nat :=
  if amb < 400 then 100 else if amb < 430 then 100 - ((amb - 400) * 15 / 30).toNat else 85

/-- The cap (R73). -/
def State.speedCap (s : State) : Nat := min s.arb.maxSpeed (ambientDerate s.ambient)

/-- The speed target on path `p` (R72). -/
def State.targetOn (s : State) (p : Path) : Nat :=
  let base := 30 + s.countedUrgency p * 70 / 2000
  let floored := max base ((s.eval.paths.get p).floor.getD 0)
  let raised := if s.defrost.phase = .prechill then max floored 70 else floored
  min raised s.speedCap

/-- The target recomputed in RUN_FRESH and RUN_FREEZE; no other state uses one (R72). -/
def State.retarget (s : State) : State :=
  match s.arb.state.path with
  | some p => s.setArb { s.arb with speedTarget := s.targetOn p }
  | none => s

/-- A slew step (R74). -/
def slew (speed target : Nat) : Nat := if speed < target then min target (speed + 5) else max target (speed - 5)

/-! ### Changes of path state (R57, R60) -/

/-- The valve target of a path state with no start in progress (R57). -/
def PathState.valveTarget : PathState → Nat
  | .runFresh => Config.valveFreshEnd
  | .runFreeze => Config.valveFreezeEnd
  | _ => Config.valveClosed

/-- A change of state with its valve target is handed to the air handler, and the change to the defrost controller, as it is
made (R57, R60). Every change hands the target of the state entered, the change at a start's completion too (log entry 42). -/
def State.changePath (s : State) (st : PathState) : State :=
  if s.arb.state = st then s
  else
    ((s.setArb { s.arb with state := st, valveTarget := st.valveTarget }).hand
      (.airPathState (decide (st = .runFreeze)))).hand
        (.arbiterToDefrost (decide (s.arb.state = .runFresh)) st.isHalted)

/-- The valve target of a start chosen or abandoned in OFF is handed to the air handler (R63, R65, log entry 10). -/
def State.aimStart (s : State) (p : Option Path) : State :=
  (s.setArb { s.arb with
    startPath := p
    valveTarget := match p with
      | some p => valveEnd p
      | none => Config.valveClosed }).hand (.airPathState false)

/-- A stop of the compressor (R62, R71): speed 0, the run's timers removed, INHIBIT inserted. The valve target CLOSED is
handed with the state entered (R57). -/
def State.stopCompressor (s : State) : State :=
  let s1 := ((s.removeDeadline .speedStep).removeDeadline .dwellMin).removeDeadline .dwellMax
  let s2 := s1.insertAfter .inhibit 300
  s2.setArb { s2.arb with speed := 0, inhibitRunning := true }

/-- The dwell timers of a run and their flags (R61). -/
def State.startDwell (s : State) : State :=
  let s1 := (s.insertAfter .dwellMin 240).insertAfter .dwellMax 1800
  s1.setArb { s1.arb with dwellMinMet := false, dwellMaxMet := false }

/-- Entry into RUN_FRESH or RUN_FREEZE with the compressor running on (R69, R70). -/
def State.runOn (s : State) (p : Path) : State :=
  ((s.changePath (runState p)).startDwell).retarget

/-- PUMPDOWN is entered (R69). -/
def State.enterPumpdown (s : State) : State :=
  let s1 := ((s.changePath .pumpdown).removeDeadline .dwellMin).removeDeadline .dwellMax
  let s2 := s1.insertAfter .stage 45
  s2.setArb { s2.arb with speed := 40 }

/-- A stop into OFF (R69, R71). -/
def State.stopToOff (s : State) : State := (s.changePath .off).stopCompressor

/-! ### Starting (R63 to R65) -/

/-- The start choice's path (R63). -/
def State.choosePath (s : State) : Option Path :=
  match s.arb.resumePref, s.wanted .fresh, s.wanted .freeze with
  | some .fresh, true, _ => some .fresh
  | some .freeze, _, true => some .freeze
  | _, true, true => if s.countedUrgency .freeze < s.countedUrgency .fresh then some .fresh else some .freeze
  | _, true, false => some .fresh
  | _, false, true => some .freeze
  | _, false, false => none

/-- A start begins: the preference is spent, and the valve is aimed at the path's end (R63). -/
def State.beginStart (s : State) (p : Path) : State :=
  (s.setArb { s.arb with resumePref := none }).aimStart (some p)

/-- The start choice (R63). -/
def State.startChoice (s : State) : State :=
  if s.arb.inhibitRunning then s
  else
    match s.choosePath with
    | some p => s.beginStart p
    | none => s

/-- A start is abandoned (R65). -/
def State.abandonStart (s : State) : State := s.aimStart none

/-- The start-path check (R65). -/
def State.startCheck (s : State) (p : Path) : State := if s.available p then s else s.abandonStart

/-- The start is completed (R64). -/
def State.completeStart (s : State) (p : Path) : State :=
  let s1 := (s.changePath (runState p)).startDwell.insertAfter .speedStep 10
  (s1.setArb { s1.arb with startPath := none, speed := 40 }).retarget

/-! ### Decisions while running (R66 to R71) -/

inductive Decision | stay | switch | stop
  deriving DecidableEq, Repr

/-- R66's table: `up` and `uq` are the urgencies of the running path and the other, `q` says that the other is urgent and
available. -/
def decision (up uq : Nat) (q dwellMaxMet : Bool) : Decision :=
  if up = 0 then (if q then .switch else .stop)
  else if q && (decide (up + 300 ≤ uq) || dwellMaxMet) then .switch
  else .stay

/-- The decision of a review in RUN_P (R66), with RUN_FREEZE pinned in PRECHILL (R67). -/
def State.decideRun (s : State) (p : Path) : Decision :=
  if (p = .freeze ∧ s.defrost.phase = .prechill) ∨ s.arb.dwellMinMet = false then .stay
  else decision (s.countedUrgency p) (s.countedUrgency (otherPath p)) (s.wanted (otherPath p)) s.arb.dwellMaxMet

/-- A departure from RUN_P: RUN_FRESH is left through PUMPDOWN (R69), RUN_FREEZE for RUN_FRESH (R70) or OFF (R71). -/
def State.leave (s : State) (p : Path) (toOther : Bool) : State :=
  match p with
  | .fresh => s.enterPumpdown
  | .freeze => if toOther then s.runOn .fresh else s.stopToOff

/-- A review in RUN_P: forced leave (R68), decision, speed target. -/
def State.reviewRun (s : State) (p : Path) : State :=
  if s.available p = false then s.leave p (s.wanted (otherPath p))
  else
    match s.decideRun p with
    | .stay => s.retarget
    | .switch => s.leave p true
    | .stop => s.leave p false

/-- A review (R60). -/
def State.review (s : State) : State :=
  match s.arb.state with
  | .off =>
    match s.arb.startPath with
    | none => s.startChoice
    | some p => s.startCheck p
  | .runFresh => s.reviewRun .fresh
  | .runFreeze => s.reviewRun .freeze
  | .pumpdown => s
  | .halted _ => s

/-- ARBITER_REVIEW (R60). -/
def execArbiterReview (s : State) : Host.Outcome State Fault Refusal :=
  .next (s.takeEvent (onlyEvent .review) fun _ s1 => s1.review)

/-- The valve's arrival at `pos` (R64, R65, R60, log entry 25). -/
def State.valveArrives (s : State) (pos : Nat) : State :=
  match s.arb.state, s.arb.startPath with
  | .off, some p => if pos = valveEnd p ∧ s.available p then s.completeStart p else s.review
  | _, _ => s.review

/-- START_COMPLETION (R64). -/
def execStartCompletion (s : State) : Host.Outcome State Fault Refusal :=
  .next (s.takeEvent arbiterArrivalOf fun pos s1 => s1.valveArrives pos)

/-! ### Timers (R61, R62, R74) -/

/-- INHIBIT (R62). -/
def execInhibit (s : State) : Host.Outcome State Fault Refusal :=
  .next (s.deliver .inhibit fun _ s1 => (s1.setArb { s1.arb with inhibitRunning := false }).review)

/-- DWELL_MIN (R61). -/
def execDwellMin (s : State) : Host.Outcome State Fault Refusal :=
  .next (s.deliver .dwellMin fun _ s1 => (s1.setArb { s1.arb with dwellMinMet := true }).review)

/-- DWELL_MAX (R61). -/
def execDwellMax (s : State) : Host.Outcome State Fault Refusal :=
  .next (s.deliver .dwellMax fun _ s1 => (s1.setArb { s1.arb with dwellMaxMet := true }).review)

/-- The commanded speed moves in RUN_FRESH and RUN_FREEZE (R74). -/
def State.slewSpeed (s : State) : State :=
  match s.arb.state.path with
  | some _ => s.setArb { s.arb with speed := slew s.arb.speed s.arb.speedTarget }
  | none => s

/-- SPEED_STEP (R74, log entry 18). -/
def execSpeedStep (s : State) : Host.Outcome State Fault Refusal :=
  .next (s.deliver .speedStep fun due s1 => (s1.insertAt .speedStep (due.plus 10)).retarget.slewSpeed.review)

/-- The end of PUMPDOWN (R69). -/
def State.endPumpdown (s : State) : State := if s.wanted .freeze then s.runOn .freeze else s.stopToOff

/-- PUMPDOWN_STAGE (R69). -/
def execPumpdownStage (s : State) : Host.Outcome State Fault Refusal :=
  .next (if s.arb.state = .pumpdown then s.deliver .stage fun _ s1 => s1.endPumpdown else s)

/-! ### Halts (R78 to R85) -/

/-- The state a path context saves (R78). -/
def savedState : PathState → SavedState
  | .runFresh => .runFresh
  | .runFreeze => .runFreeze
  | .pumpdown => .pumpdown
  | _ => .off

/-- A push of a path context (R78). -/
def State.pushPath (s : State) : State :=
  s.setArb { s.arb with stack := .path (savedState s.arb.state) :: s.arb.stack }

/-- The halt of a running compressor (R79 steps 1 to 3, R81): the context is pushed, the compressor is stopped, and the
state becomes HALTED. -/
def State.haltRun (s : State) (cause : HaltCause) : State :=
  ((s.pushPath.stopCompressor).removeDeadline .stage).changePath (.halted cause)

/-- The third fault (R80). -/
def State.lockOut (s : State) : State :=
  let s1 := s.removeDeadline .stage
  (s1.setArb { s1.arb with state := .halted .lockout, stack := [] }).raiseNotice .compressorLockout

/-- A compressor fault (R79), taken only while the compressor is commanded to run (R77). -/
def State.takeFault (s : State) : State :=
  if s.arb.state.commandsRun = false then s
  else
    let s1 := (s.haltRun .fault).insertAfter .stage 600
    let s2 := (s1.setArb { s1.arb with faultCount := min 3 (s1.arb.faultCount + 1), runSeconds := 0 }).raiseNotice
      .compressorFault
    if 3 ≤ s2.arb.faultCount then s2.lockOut else s2

/-- The fault holdoff still to run, at least 1 (R81, log entry 36). -/
def State.holdoffLeft (s : State) : Nat :=
  match s.dueOf .stage with
  | some due => max 1 (due.sec - s.time.uptime)
  | none => 1

/-- A declaration of SAG (R81). -/
def State.takeSag (s : State) : State :=
  match s.arb.state with
  | .halted .lockout => s
  | .halted .sag => (s.removeDeadline .stage).raiseNotice .mainsSag
  | .halted .fault =>
    let s1 := (s.setArb { s.arb with stack := .holdoff s.holdoffLeft :: s.arb.stack }).removeDeadline .stage
    (s1.changePath (.halted .sag)).raiseNotice .mainsSag
  | .off =>
    let s1 := s.pushPath
    ((s1.setArb { s1.arb with startPath := none }).changePath (.halted .sag)).raiseNotice .mainsSag
  | _ => (s.haltRun .sag).raiseNotice .mainsSag

/-- The oldest declaration in flight, if it is `m`, with the other hand-offs. -/
def takeMains (m : MainsState) (es : List Handoff) : Option (List Handoff) :=
  match takeFirst mainsOf es with
  | some (m', rest) => if m' = m then some rest else none
  | none => none

/-- ARBITER_SAG (R81). -/
def execArbiterSag (s : State) : Host.Outcome State Fault Refusal :=
  .next (match takeMains .sag s.events with
    | some rest => (s.setEvents rest).takeSag
    | none => s)

/-- The recovery wait begins (R82). -/
def State.takeNormal (s : State) : State :=
  if s.arb.state = .halted .sag then s.insertAfter .stage 180 else s

/-- ARBITER_NORMAL (R82). -/
def execArbiterNormal (s : State) : Host.Outcome State Fault Refusal :=
  .next (match takeMains .normal s.events with
    | some rest => (s.setEvents rest).takeNormal
    | none => s)

/-- The resume preference a saved state gives (R83). -/
def resumeOf : SavedState → Option Path
  | .runFresh => some .fresh
  | .runFreeze => some .freeze
  | _ => none

/-- The path context on top, and the stack beneath; a HALTED arbiter outside LOCKOUT always has one (log entry 21). -/
def popPath : List Context → SavedState × List Context
  | .path l :: rest => (l, rest)
  | .holdoff _ :: rest => (.off, rest)
  | [] => (.off, [])

/-- A path context is popped and restored, and a review follows (R83). -/
def State.restore (s : State) : State :=
  let p := popPath s.arb.stack
  let s1 := s.changePath .off
  (s1.setArb { s1.arb with startPath := none, resumePref := resumeOf p.1, stack := p.2 }).review

/-- HOLDOFF_STAGE (R83). -/
def execHoldoffStage (s : State) : Host.Outcome State Fault Refusal :=
  .next (if s.arb.state = .halted .fault then s.deliver .stage fun _ s1 => s1.restore else s)

/-- The recovery STAGE pops the top context (R82): a holdoff resumes, a path context is restored. -/
def State.recover (s : State) : State :=
  match s.arb.stack with
  | .holdoff n :: rest =>
    ((s.setArb { s.arb with stack := rest }).changePath (.halted .fault)).insertAfter .stage n
  | _ => s.restore

/-- RECOVERY_STAGE (R82). -/
def execRecoveryStage (s : State) : Host.Outcome State Fault Refusal :=
  .next (if s.arb.state = .halted .sag then s.deliver .stage fun _ s1 => s1.recover else s)

/-- A lockout is cleared (R85): OFF, and then the SAG that stands, or a review (log entry 24). -/
def State.clearLockout (s : State) : State :=
  let s1 := s.changePath .off
  let s2 := s1.setArb { s1.arb with faultCount := 0, runSeconds := 0 }
  if s2.meas.mains.state = .sag then s2.takeSag else s2.review

/-- CLEAR LOCKOUT (R85). -/
def clearLockout (s : State) : State × Reply :=
  if s.arb.state = .halted .lockout then (s.clearLockout, okReply []) else (s, refuse .late)

def execClearLockout (s : State) : Host.Outcome State Fault Refusal := .next (s.serve [0x42] clearLockout)

end Sys2Proof.Machine
end

