-- ==== Sys2Proof/Machine/Defrost.lean ====
section
/-! DEFINITION. The defrost controller (chapter 4): the accumulator, the seven phases, the two host requests and fresh-coil
recovery. -/

namespace Sys2Proof.Machine

/-! ### Changes and comparisons -/

/-- Every change of phase, and every start and end of coil recovery, is handed to the arbiter and to the air handler
(R99). -/
def State.handDefrost (s : State) : State := (s.hand .review).hand .airDefrost

def State.setPhase (s : State) (p : Phase) : State := (s.setDefrost { s.defrost with phase := p }).handDefrost

/-- Is the valve's position one at which RELEASE ends (R93)? -/
def offFreezeEnd (pos : Nat) : Bool := decide (pos = Config.valveFreshEnd ∨ pos = Config.valveClosed)

/-! ### Entries into the phases -/

/-- PRECHILL is entered (R92). -/
def State.enterPrechill (s : State) : State :=
  ((s.removeDeadline .pendingLimit).setPhase .prechill).insertAfter .phase 600

/-- PENDING is entered, and left at once for PRECHILL when the arbiter is in RUN_FREEZE (R91). -/
def State.enterPending (s : State) : State :=
  let s1 := (s.setPhase .pending).insertAfter .pendingLimit 1800
  if s.arb.state = .runFreeze then s1.enterPrechill else s1

/-- The comparison of R90, made in IDLE. -/
def State.compareInterval (s : State) : State :=
  if s.defrost.phase = .idle ∧ s.defrost.interval ≤ s.defrost.accumulator then s.enterPending else s

/-- IDLE is entered (R90). -/
def State.enterIdle (s : State) : State := (s.setPhase .idle).compareInterval

/-- HEAT is entered (R94). -/
def State.enterHeat (s : State) : State :=
  let trusted := decide ((s.channel .s4).state = .good)
  let s1 := s.setDefrost { s.defrost with
    heater := true
    accumulator := 0
    heatStart := s.time.uptime
    timeOnly := !trusted }
  (s1.insertAfter .phase (if trusted then 2400 else 1500)).setPhase .heat

/-- Only arrivals reported while the phase is RELEASE count (R93): one reported before and still in flight is withdrawn as
RELEASE begins (log entry 11). -/
def State.withdrawArrivals (s : State) : State :=
  s.setEvents (s.events.filter fun e => match e with
    | .valveToDefrost _ => false
    | _ => true)

/-- Is the refrigerant kept from the freezer coil: does the valve lie between the FRESH end and CLOSED, with neither the
arbiter nor the air handler aiming it at the FREEZE end (R94, log entry 10)? -/
def State.coilSpared (s : State) : Bool :=
  decide (s.air.valvePos ≤ Config.valveClosed ∧ s.air.valveTarget ≠ Config.valveFreezeEnd ∧
    s.arb.valveTarget ≠ Config.valveFreezeEnd)

/-- Is the valve at rest off the FREEZE end (R93)? -/
def State.valveOffCoil (s : State) : Bool :=
  decide (s.air.valveMotion = .atRest) && offFreezeEnd s.air.valvePos && s.coilSpared

/-- RELEASE is entered; a valve at rest off the FREEZE end makes the phase HEAT at once (R93). -/
def State.enterRelease (s : State) : State :=
  let s1 := (s.withdrawArrivals.removeDeadline .phase).setPhase .release
  if s.valveOffCoil then s1.enterHeat else s1

/-- DRIP is entered (R97). -/
def State.enterDrip (s : State) : State := (s.setPhase .drip).insertAfter .phase 300

/-- RECOVER is entered (R98). -/
def State.enterRecover (s : State) : State := (s.setPhase .recover).insertAfter .phase 600

/-- The end of RECOVER by S4 or by PHASE (R98). -/
def State.endRecover (s : State) : State := ((s.removeDeadline .phase).raiseNotice .defrostDone).enterIdle

/-! ### The end of HEAT (R95, R96) -/

inductive HeatEnd | termination | expiry | cancel
  deriving DecidableEq, Repr

/-- The interval after a HEAT of `secs` seconds (R96). -/
def adaptInterval (interval : Nat) (how : HeatEnd) (timeOnly : Bool) (secs : Nat) : Nat :=
  match how, timeOnly with
  | .termination, false => if secs < 600 then clampNat 21600 259200 (interval * 5 / 4) else interval
  | .expiry, false => clampNat 21600 259200 (interval / 2)
  | _, _ => interval

/-- HEAT ends: heater off, interval adapted, DRIP (R95). -/
def State.endHeat (s : State) (how : HeatEnd) : State :=
  ((s.removeDeadline .phase).setDefrost { s.defrost with
    heater := false
    interval := adaptInterval s.defrost.interval how s.defrost.timeOnly (s.time.uptime - s.defrost.heatStart) }).enterDrip

/-! ### Events -/

/-- What one S4 report adds (R89, R151). -/
def State.frostTerms (s : State) : Nat :=
  (if s.arb.state = .runFreeze then 1 else 0) + (if (s.door .zd).isOpen then 8 else 0)
    + (if (s.door .dr).isOpen ∧ ((s.entry .chill).regime = some .soft ∨ (s.entry .chill).regime = some .frozen) then 8
      else 0)

/-- The count of R89, made in every phase but HEAT. -/
def State.countFrost (s : State) : State :=
  if s.defrost.phase = .heat then s
  else s.setDefrost { s.defrost with accumulator := min 999999 (s.defrost.accumulator + s.frostTerms) }

/-- The heat test on an S4 report (R95). -/
def State.heatTest (s : State) (r : Report) : State :=
  if r.state ≠ .good then s.setDefrost { s.defrost with timeOnly := true }
  else if s.defrost.timeOnly = false ∧ 80 ≤ r.f then s.endHeat .termination
  else s

/-- An S4 report: the count, then the test of the phase (R89, R90, R95, R98). -/
def State.takeS4 (s : State) (r : Report) : State :=
  let s1 := s.countFrost
  match s1.defrost.phase with
  | .idle => s1.compareInterval
  | .heat => s1.heatTest r
  | .recover => if r.state = .good ∧ r.f ≤ -50 then s1.endRecover else s1
  | _ => s1

/-- DEFROST_S4_REPORT (R89). -/
def execDefrostS4Report (s : State) : Host.Outcome State Fault Refusal :=
  .next (s.takeEvent s4ReportOf fun r s1 => s1.takeS4 r)

/-- Fresh-coil recovery starts (R103). -/
def State.startRecovery (s : State) : State :=
  ((s.setDefrost { s.defrost with recovery := true }).insertAfter .coilRecovery 600).handDefrost

/-- Fresh-coil recovery ends, if it runs (R104). -/
def State.endRecovery (s : State) : State :=
  if s.defrost.recovery then
    ((s.setDefrost { s.defrost with recovery := false }).removeDeadline .coilRecovery).handDefrost
  else s

/-- A change of the arbiter's state: RUN_FREEZE ends PENDING, a halt ends PRECHILL (R91, R92, R100). -/
def State.takePhaseChange (s : State) (halted : Bool) : State :=
  match s.defrost.phase with
  | .pending => if s.arb.state = .runFreeze then s.enterPrechill else s
  | .prechill => if halted then s.enterRelease else s
  | _ => s

/-- ARBITER_CHANGE_TO_DEFROST (R91, R92, R103). -/
def execArbiterChangeToDefrost (s : State) : Host.Outcome State Fault Refusal :=
  .next (s.takeEvent pathChangeOf fun c s1 =>
    (if c.1 then s1.startRecovery else s1).takePhaseChange c.2)

/-- RELEASE_END (R93): an arrival off the FREEZE end while the phase is RELEASE; one that the arbiter or the air handler is
about to follow with a move toward the FREEZE end leaves RELEASE waiting for the next (R94, log entry 10). -/
def execReleaseEnd (s : State) : Host.Outcome State Fault Refusal :=
  .next (s.takeEvent defrostArrivalOf fun pos s1 =>
    if s1.defrost.phase = .release ∧ offFreezeEnd pos = true ∧ s1.coilSpared = true then s1.enterHeat else s1)

/-- PENDING_LIMIT (R91). -/
def execPendingLimit (s : State) : Host.Outcome State Fault Refusal :=
  .next (s.deliver .pendingLimit fun _ s1 => if s1.defrost.phase = .pending then s1.enterRelease else s1)

/-- PRECHILL_PHASE_EXPIRY (R92). -/
def execPrechillPhaseExpiry (s : State) : Host.Outcome State Fault Refusal :=
  .next (if s.defrost.phase = .prechill then s.deliver .phase fun _ s1 => s1.enterRelease else s)

/-- HEAT_PHASE_EXPIRY (R95). -/
def execHeatPhaseExpiry (s : State) : Host.Outcome State Fault Refusal :=
  .next (if s.defrost.phase = .heat then s.deliver .phase fun _ s1 => s1.endHeat .expiry else s)

/-- DRIP_PHASE_EXPIRY (R97). -/
def execDripPhaseExpiry (s : State) : Host.Outcome State Fault Refusal :=
  .next (if s.defrost.phase = .drip then s.deliver .phase fun _ s1 => s1.enterRecover else s)

/-- RECOVER_PHASE_EXPIRY (R98). -/
def execRecoverPhaseExpiry (s : State) : Host.Outcome State Fault Refusal :=
  .next (if s.defrost.phase = .recover then s.deliver .phase fun _ s1 => s1.endRecover else s)

/-- COIL_S3_REPORT (R104). -/
def execCoilS3Report (s : State) : Host.Outcome State Fault Refusal :=
  .next (s.takeEvent s3ReportOf fun r s1 => if r.state = .good ∧ 10 ≤ r.f then s1.endRecovery else s1)

/-- COIL_RECOVERY (R104). -/
def execCoilRecovery (s : State) : Host.Outcome State Fault Refusal :=
  .next (s.deliver .coilRecovery fun _ s1 => s1.endRecovery)

/-- COIL_RECOVERY_CUT_SHORT (R104). -/
def execCoilRecoveryCutShort (s : State) : Host.Outcome State Fault Refusal :=
  .next (s.takeEvent cutShortOf fun u s1 => if 1500 ≤ u then s1.endRecovery else s1)

/-! ### Host requests (R101, R102) -/

/-- DEFROST NOW (R101). -/
def defrostNow (s : State) : State × Reply :=
  match s.defrost.phase with
  | .idle => (s.enterPending, okReply [])
  | .recover => (((s.removeDeadline .phase).raiseNotice .defrostDone).enterPending, okReply [])
  | .pending => (s, okReply [])
  | _ => (s, refuse .busy)

def execDefrostNow (s : State) : Host.Outcome State Fault Refusal := .next (s.serve [0x40] defrostNow)

/-- A cancel from PENDING or PRECHILL (R102). -/
def State.giveUpDefrost (s : State) : State :=
  let s1 := (s.removeDeadline .pendingLimit).removeDeadline .phase
  (s1.setDefrost { s1.defrost with accumulator := s1.defrost.interval - 3600 }).enterIdle

/-- DEFROST CANCEL (R102). -/
def defrostCancel (s : State) : State × Reply :=
  match s.defrost.phase with
  | .pending => (s.giveUpDefrost, okReply [])
  | .prechill => (s.giveUpDefrost, okReply [])
  | .heat => (s.endHeat .cancel, okReply [])
  | _ => (s, refuse .late)

def execDefrostCancel (s : State) : Host.Outcome State Fault Refusal := .next (s.serve [0x41] defrostCancel)

end Sys2Proof.Machine
end

