-- ==== Sys2Proof/Machine/Pins.lean ====
section
/-! DEFINITION. The output pins, read from the state: ATTN (R190), HTR (R99), FLP1 and FLP2 (R162), and the pulse-width
modulated fan outputs (R155); and the two serial lines, sampled in and driven out (R178). -/

namespace Sys2Proof.Machine

/-- ATTN is pulled low exactly while it is asserted (R190). -/
def State.attnLow (s : State) : Bool := s.notice.attn

/-- HTR is driven directly from the heater field (R99). -/
def State.htr (s : State) : Bool := s.defrost.heater

/-- FLP1 drives the flap toward the FREEZE side (R162). -/
def State.flp1 (s : State) : Bool :=
  match s.air.flapMotion with
  | .moving .freeze _ => true
  | _ => false

/-- FLP2 drives the flap toward the FRESH side (R162). -/
def State.flp2 (s : State) : Bool :=
  match s.air.flapMotion with
  | .moving .fresh _ => true
  | _ => false

/-! ### The fan outputs (R155) -/

/-- The period counter of the fan outputs at place `k` of a period, of 200 places of 0.2 microseconds: it runs up from 0 to
100 in the first half and back down in the second, and is 0 again at the period boundary, place 0 of the next (R155). -/
def pwmCounter (k : Nat) : Nat := if k ≤ 100 then k else 200 - k

/-- Is an output with this running duty active at place `k` of a period? The compare point is 100 minus the duty; counting up
the output is active from the compare point on, counting down until the counter has come back to it (R155, log entry 22). -/
def pwmActive (duty k : Nat) : Bool :=
  if k < 100 then decide (100 - duty ≤ pwmCounter k) else decide (100 - duty < pwmCounter k)

/-- The output PFF at place `k` of the present period, by FF's running duty (R155). -/
def State.pff (s : State) (k : Nat) : Bool := pwmActive s.air.runFf k

/-- The output PZF at place `k` of the present period, by ZF's running duty (R155). -/
def State.pzf (s : State) (k : Nat) : Bool := pwmActive s.air.runZf k

/-- The output PCF at place `k` of the present period, by CF's running duty; the three counters run together (R155). -/
def State.pcf (s : State) (k : Nat) : Bool := pwmActive s.air.runCf k

/-- The level at least two of three samples show (R142, R178). -/
def vote (a b c : Level) : Level :=
  if (a = .high ∧ b = .high) ∨ (a = .high ∧ c = .high) ∨ (b = .high ∧ c = .high) then .high else .low

/-! ### The serial lines (R178, and R193 for the drive link, whose characters have the same format)

The rows of the command table begin at a whole character, so what a line's samples make of themselves is said here as
functions: `lineCommands` gives the commands that a recording of CRXD stands for (log entry 46). -/

/-- What the receiver makes of a falling edge and the bit periods after it. -/
inductive LineDecision
  | falseStart
  | framingError
  | character (b : Byte)
  deriving DecidableEq, Repr

/-- A bit is decided by its 7th, 8th and 9th samples of 16: bit `i` counted from the start bit, on the samples from the
falling edge on. -/
def decideBit (samples : List Level) (i : Nat) : Level :=
  vote (samples.getD (16 * i + 6) .high) (samples.getD (16 * i + 7) .high) (samples.getD (16 * i + 8) .high)

/-- The value of data bits sent least significant first. -/
def dataValue : List Level → Nat
  | [] => 0
  | x :: xs => (if x = .high then 1 else 0) + 2 * dataValue xs

/-- A start bit decided high is a false start; a stop bit decided low is a framing error; otherwise the eight data bits
are handed on. -/
def decideCharacter (samples : List Level) : LineDecision :=
  if decideBit samples 0 = .high then .falseStart
  else if decideBit samples 9 = .low then .framingError
  else .character (BitVec.ofNat 8 (dataValue ((List.range 8).map fun i => decideBit samples (i + 1))))

/-- The samples after which the receiver looks for the next falling edge: the false start bit is discarded; a character ends
at the centre of its stop bit, its 9th sample. -/
def LineDecision.samplesTaken : LineDecision → Nat
  | .falseStart => 16
  | .framingError => 153
  | .character _ => 153

/-- What the receiver makes of a line whose latest sample was `last` and whose next ones are listed; the first argument
bounds the samples looked at. A character whose stop bit is not yet decided is not yet heard. -/
def hearLine : Nat → Level → List Level → List LineDecision
  | 0, _, _ => []
  | _ + 1, _, [] => []
  | n + 1, last, x :: xs =>
    if last = .high ∧ x = .low then
      if (x :: xs).length < 153 then []
      else
        let d := decideCharacter (x :: xs)
        d :: hearLine n ((x :: xs).getD (d.samplesTaken - 1) .high) ((x :: xs).drop d.samplesTaken)
    else hearLine n x xs

/-- The command the link port receives for a decision on CRXD: a false start is discarded (R178, R179). -/
def LineDecision.command : LineDecision → Option Instr
  | .falseStart => none
  | .framingError => some .framingError
  | .character b => some (.characterReceived b)

/-- The command the drive receiver receives for a decision on DRXD (R193). -/
def LineDecision.driveCommand : LineDecision → Option Instr
  | .falseStart => none
  | .framingError => some (.driveReceiverByte .framingError)
  | .character b => some (.driveReceiverByte (.char b))

/-- The commands that the samples of CRXD, from an idle line on, stand for. -/
def lineCommands (samples : List Level) : List Instr :=
  (hearLine samples.length .high samples).filterMap LineDecision.command

/-- The levels of a character as sent, one for each bit time: the start bit low, the data bits least significant first, no
parity bit, the stop bit high. -/
def characterLevels (b : Byte) : List Level :=
  .low :: (List.range 8).map (fun i => if b.getLsbD i then .high else .low) ++ [.high]

/-- The levels on CTXD of the frame that the link port holds (R178, R182). -/
def State.ctxd (s : State) : List Level := s.link.tx.flatMap characterLevels

/-- The levels on DTXD of the latest DRIVE frame (R193). -/
def State.dtxd (s : State) : List Level := s.drive.tx.flatMap characterLevels

/-- Sixteen samples of each bit time. -/
def sampled (levels : List Level) : List Level := levels.flatMap fun x => List.replicate 16 x

/-- The control link's rate by the link-rate strap as read (R178, R199). -/
def State.linkBaud (s : State) : Nat := if s.straps.strap0 then 57600 else 19200

/-- The drive link's rate (section 3.7). -/
def driveBaud : Nat := 9600

end Sys2Proof.Machine
end

