-- ==== Sys2Proof/Machine/Doors.lean ====
section
/-! DEFINITION. The door unit (chapter 7): sampling and debouncing, the open, ajar and close events, and DOOR QUERY. -/

namespace Sys2Proof.Machine

/-- The samples a rejection time requires (R143). -/
def samplesRequired (rejection : Nat) : Nat :=
  if rejection = 0 then 1 else if rejection = 40 then 4 else if rejection = 80 then 8 else 16

/-- The debounced level and run after a sample, and whether the level changed (R143). -/
def DoorRec.debounced (r : DoorRec) (sample : Level) (required : Nat) : DoorRec × Bool :=
  if sample = r.level then ({ r with run := 0 }, false)
  else if required ≤ r.run + 1 then ({ r with level := sample, run := 0 }, true)
  else ({ r with run := r.run + 1 }, false)

/-- The open event's work on the record (R146 steps 1 to 3). -/
def DoorRec.opened (r : DoorRec) (uptime : Nat) : DoorRec :=
  { r with state := .opened, openedAt := some uptime, count := min 65535 (r.count + 1) }

/-- The seconds a door has been open (R148, R152). -/
def DoorRec.openFor (r : DoorRec) (uptime : Nat) : Nat := min 65535 (uptime - r.openedAt.getD uptime)

/-- The close event's work on the record (R148 steps 2 to 5). -/
def DoorRec.closed (r : DoorRec) (uptime : Nat) : DoorRec :=
  { r with
    state := .closed
    lastDuration := some (r.openFor uptime)
    overflow := r.overflow || r.unread
    unread := true }

def State.setDoor (s : State) (d : Door) (r : DoorRec) : State :=
  s.setDoors { s.doors with recs := s.doors.recs.set d r }

/-- A door event is handed to the zone evaluator and to the air handler (R150). -/
def State.handDoor (s : State) (d : Door) (e : DoorEvent) : State := (s.hand (.doorToZone d e)).hand .airDoor

/-- An open event (R146): its DOOR_AJAR deadline is due the ajar time after it. -/
def State.openDoor (s : State) (d : Door) : State :=
  ((s.setDoor d ((s.door d).opened s.time.uptime)).insertAfter (.doorAjar d) s.doors.ajarTime).handDoor d .open_

/-- A close event (R148). -/
def State.closeDoor (s : State) (d : Door) : State :=
  ((s.setDoor d ((s.door d).closed s.time.uptime)).removeDeadline (.doorAjar d)).handDoor d .close

/-- A vote of three sub-samples taken into the debounce (R142, R143). -/
def State.sampleDoor (s : State) (d : Door) (sample : Level) : State :=
  let r := (s.door d).debounced sample (samplesRequired s.doors.rejection)
  let s1 := s.setDoor d r.1
  if r.2 then
    match sample with
    | .high => s1.openDoor d
    | .low => s1.closeDoor d
  else s1

/-- DOOR_SAMPLE (R142, R143). -/
def execDoorSample (d : Door) (a b c : Level) (s : State) : Host.Outcome State Fault Refusal :=
  .next (s.sampleDoor d (vote a b c))

/-- DOOR_AJAR (R147): an OPEN door becomes AJAR. -/
def execDoorAjar (d : Door) (s : State) : Host.Outcome State Fault Refusal :=
  .next (s.deliver (.doorAjar d) fun _ s1 =>
    if (s1.door d).state = .opened then
      ((s1.setDoor d { s1.door d with state := .ajar }).raiseNotice .doorAjar).handDoor d .ajar
    else s1)

/-- The 13 bytes of DOOR QUERY (R185), before the query acts on the record. -/
def DoorRec.bytes (r : DoorRec) (d : Door) (uptime : Nat) : List Byte :=
  [byteOf (doorCode d), byteOf r.state.code,
    byteOf (bit r.openedAt.isSome 0 + bit r.lastDuration.isSome 1 + bit r.unread 2 + bit r.overflow 3)]
    ++ u32 (r.openedAt.getD 0) ++ u16 (r.lastDuration.getD 0) ++ u16 r.count
    ++ u16 (if r.isOpen then r.openFor uptime else 0)

/-- What the query does to the record: UNREAD is cleared, and with the clear option OVERFLOW and the count (R152). -/
def DoorRec.queried (r : DoorRec) (clear : Bool) : DoorRec :=
  if clear then { r with unread := false, overflow := false, count := 0 } else { r with unread := false }

/-- DOOR QUERY (R152). -/
def doorQuery (door clear : Byte) (s : State) : State × Reply :=
  match doorOf door with
  | none => (s, refuse .field)
  | some d =>
    (s.setDoor d ((s.door d).queried (decide (clear ≠ 0))), okReply ((s.door d).bytes d s.time.uptime))

def execDoorQuery (door clear : Byte) (s : State) : Host.Outcome State Fault Refusal :=
  .next (s.serve [0x32, door, clear] (doorQuery door clear))

end Sys2Proof.Machine
end

