-- ==== Sys2Proof/Machine/Drive.lean ====
section
/-! DEFINITION. The drive link (section 3.7, R193): the tick, the STATUS frame and its receiver. -/

namespace Sys2Proof.Machine

/-- The DRIVE frame (R193): SYNC A5h, sequence number, commanded speed, CHECK. -/
def driveFrame (seq speed : Nat) : List Byte :=
  [0xA5, byteOf seq, byteOf speed, checkOf [byteOf seq, byteOf speed]]

/-- Step 1 of a tick (R75, R76): a DRIVE without a valid STATUS raises the miss count, and 5 set SILENT. -/
def DriveLink.judgeMiss (d : DriveLink) : DriveLink :=
  if d.last = none ∨ d.answered = true then d
  else { d with miss := min 5 (d.miss + 1), silent := d.silent || decide (5 ≤ d.miss + 1) }

/-- Did the latest DRIVE carry a speed above 0 (R77)? -/
def DriveLink.askedToRun (d : DriveLink) : Bool :=
  match d.last with
  | some f => decide (0 < f.speed)
  | none => false

/-- Step 2 of a tick (R77). -/
def State.judgeSilence (s : State) : State := if s.drive.silent && s.drive.askedToRun then s.takeFault else s

/-- Step 3 of a tick (R84). -/
def State.countRunSecond (s : State) : State :=
  if 0 < s.arb.speed ∧ 0 < s.arb.faultCount then
    if 1800 ≤ s.arb.runSeconds + 1 then s.setArb { s.arb with faultCount := 0, runSeconds := 0 }
    else s.setArb { s.arb with runSeconds := s.arb.runSeconds + 1 }
  else s

/-- Step 4 of a tick: the DRIVE frame is sent with the next sequence number (R75, log entry 9), and the receiver returns to
waiting (R193). -/
def State.sendDrive (s : State) : State :=
  s.setDrive { s.drive with
    seq := (s.drive.seq + 1) % 256
    last := some ⟨s.drive.seq, s.arb.speed⟩
    answered := false
    rx := .waiting
    tx := driveFrame s.drive.seq s.arb.speed }

/-- DRIVE_LINK_TICK (R75). -/
def execDriveLinkTick (s : State) : Host.Outcome State Fault Refusal :=
  .next (s.setDrive s.drive.judgeMiss).judgeSilence.countRunSecond.sendDrive

/-- Is the STATUS frame valid (R76)? The latest DRIVE is the one it must name. -/
def DriveLink.accepts (d : DriveLink) (seq actual code check : Byte) : Bool :=
  match d.last with
  | some f => decide (seq + actual + code + check = 0) && decide (seq.toNat = f.seq)
  | none => false

/-- What a valid STATUS stores (R76). -/
def DriveLink.stored (d : DriveLink) (actual code : Byte) : DriveLink :=
  { d with lastCode := code.toNat, actualSpeed := actual.toNat, miss := 0, silent := false, answered := true }

/-- A complete STATUS frame is judged (R76, R77). -/
def State.takeStatus (s : State) (seq actual code check : Byte) : State :=
  if s.drive.accepts seq actual code check then
    let s1 := s.setDrive (s.drive.stored actual code)
    if code ≠ 0 ∧ s.drive.askedToRun = true then s1.takeFault else s1
  else s

/-- STATUS_FRAME (R76): the five bytes have been received, and the receiver waits again (R193). -/
def execStatusFrame (seq actual code check : Byte) (s : State) : Host.Outcome State Fault Refusal :=
  .next ((s.setDrive { s.drive with rx := .waiting }).takeStatus seq actual code check)

/-- A character at the drive receiver (R193). -/
def State.driveByte (s : State) (b : Byte) : State :=
  match s.drive.rx with
  | .waiting => if b = 0x5A then s.setDrive { s.drive with rx := .body [] } else s
  | .body [seq, actual, code] => (s.setDrive { s.drive with rx := .waiting }).takeStatus seq actual code b
  | .body got => s.setDrive { s.drive with rx := .body (got ++ [b]) }

/-- DRIVE_RECEIVER_BYTE (R193): a framing error in the four bytes discards the frame. -/
def execDriveReceiverByte (c : DriveChar) (s : State) : Host.Outcome State Fault Refusal :=
  .next (match c with
    | .char b => s.driveByte b
    | .framingError => s.setDrive { s.drive with rx := .waiting })

end Sys2Proof.Machine
end

