-- ==== Sys2Proof/Machine/Holds.lean ====
section
/-! DEFINITION. The hold table (chapter 1): lookup, resolution and hand-on, lapsing, compliance figures, and the five
requests on holds. -/

namespace Sys2Proof.Machine

/-! ### Lookup -/

/-- The record in a slot, if the slot is occupied. -/
def HoldTable.at (t : HoldTable) (slot : Nat) : Option Hold := t.slots[slot]?.bind (·.hold)

/-- The record a handle names: the slot exists, is occupied, and its generation is the handle's (R3). -/
def HoldTable.named (t : HoldTable) (h : Handle) : Option Hold :=
  match t.slots[h.slot]? with
  | none => none
  | some sl => if sl.generation = h.gen then sl.hold else none

/-- The slot a zone's BASE hold is built in and never leaves (R30, R2). -/
def baseSlot : Zone → Nat
  | .fresh => 0
  | .chill => 1
  | .freeze => 2

/-- The target the zone's BASE hold carries (R9); a zone always has one (log entry 21). -/
def State.baseTarget (s : State) (z : Zone) : Int :=
  match s.holds.at (baseSlot z) with
  | some h => h.target
  | none => 0

def HoldState.isLapsed : HoldState → Bool
  | .lapsed _ => true
  | _ => false

/-- The lowest-numbered free slot (R2). -/
def HoldTable.freeSlot (t : HoldTable) : Option Nat := t.slots.findIdx? (·.hold.isNone)

/-- Replace the record in a slot. -/
def HoldTable.put (t : HoldTable) (slot : Nat) (h : Option Hold) : HoldTable :=
  match t.slots[slot]? with
  | none => t
  | some sl => { t with slots := t.slots.set slot { sl with hold := h } }

/-! ### Resolution and hand-on (R5, R6) -/

/-- The first hold of a list that is not LAPSED (R5). -/
def HoldTable.firstLive (t : HoldTable) : List Handle → Option Hold
  | [] => none
  | h :: hs =>
    match t.named h with
    | some r => if r.state.isLapsed then t.firstLive hs else some r
    | none => t.firstLive hs

/-- The zone's EFFECTIVE hold (R5). -/
def State.effectiveHold (s : State) (z : Zone) : Option Hold := s.holds.firstLive (s.holds.lists.get z)

/-- The effective weight by the kind of the EFFECTIVE hold (R25). -/
def effectiveWeight : HoldKind → Nat → Nat
  | .base, w => w
  | .boost, w => 2 * w
  | .ease, w => max 1 (w / 2)

/-- The speed floor a hold makes available while it governs: a BOOST's, if it has one (R26). -/
def Hold.floorGiven (h : Hold) : Option Nat :=
  match h.kind with
  | .boost => h.speedFloor
  | _ => none

/-- What governs a zone (R6): read from its EFFECTIVE hold and the weight of its active map entry (R25). -/
def State.governing (s : State) (z : Zone) : Option Governing :=
  (s.effectiveHold z).map fun h =>
    { handle := h.handle, target := h.target, halfBand := h.halfBand, kind := h.kind, floor := h.floorGiven,
      weight := effectiveWeight h.kind (s.entry z).weight }

/-- A record's state rewritten to agree with R5. -/
def restate (z : Zone) (eff : Option Handle) (h : Hold) : Hold :=
  if h.zone = z ∧ h.state.isLapsed = false then
    { h with state := if some h.handle = eff then .effective else .shadowed }
  else h

/-- The states of the zone's records rewritten (R5). -/
def State.resolve (s : State) (z : Zone) : State :=
  let eff := (s.effectiveHold z).map (·.handle)
  s.setHolds { s.holds with slots := s.holds.slots.map fun sl => { sl with hold := sl.hold.map (restate z eff) } }

/-- A change of what governs the zone is handed to the zone evaluator (R6). -/
def State.handChange (s : State) (z : Zone) (before : Option Governing) : State :=
  match s.governing z with
  | none => s
  | some g => if before = some g then s else s.hand (.holdChange z g)

/-- A change to the zone's holds, followed by the re-resolution (R5) and the hand-on of a change (R6). -/
def State.regovern (s : State) (z : Zone) (change : State → State) : State :=
  ((change s).resolve z).handChange z (s.governing z)

/-! ### Hold lists (R4) -/

/-- A handle enters before every hold of its own priority or a lower one: at the first place among its priority (R4). -/
def enterList (t : HoldTable) (prio : Nat) (h : Handle) : List Handle → List Handle
  | [] => [h]
  | x :: xs =>
    match t.named x with
    | some r => if r.priority ≤ prio then h :: x :: xs else x :: enterList t prio h xs
    | none => x :: enterList t prio h xs

def leaveList (h : Handle) (l : List Handle) : List Handle := l.filter fun x => decide (x ≠ h)

/-! ### Lapsing (R20 to R23) -/

/-- A lapse: the state and cause are set, every other field keeps its value, any HOLD_EXPIRY deadline of the slot is
removed, and HOLD_LAPSED is raised (R21 to R23). A hold that has lapsed keeps its cause. -/
def State.lapse (s : State) (slot : Nat) (cause : LapseCause) : State :=
  match s.holds.at slot with
  | none => s
  | some h =>
    if h.state.isLapsed then s
    else
      ((s.setHolds (s.holds.put slot (some { h with state := .lapsed cause }))).removeDeadline (.holdExpiry slot)).raiseNotice
        .holdLapsed

/-- HOLD_EXPIRY (R20): the hold lapses with cause EXPIRED and its zone is re-resolved. -/
def execHoldExpiry (slot : Nat) (s : State) : Host.Outcome State Fault Refusal :=
  .next (s.deliver (.holdExpiry slot) fun _ s1 =>
    match s1.holds.at slot with
    | none => s1
    | some h => s1.regovern h.zone fun s2 => s2.lapse slot .expired)

/-! ### Compliance figures (section 1.8) -/

/-- One second of effective time (R27). -/
def Compliance.countEffective (c : Compliance) : Compliance :=
  let r := addSecond c.effMinutes c.effSeconds c.sat
  { c with effMinutes := r.1, effSeconds := r.2.1, sat := r.2.2 }

/-- One second out of band (R28). -/
def Compliance.countOut (c : Compliance) : Compliance :=
  let r := addSecond c.outMinutes c.outSeconds c.sat
  { c with outMinutes := r.1, outSeconds := r.2.1, sat := r.2.2 }

/-- F outside the widened band (R28). -/
def outOfBand (t h f : Int) : Bool := decide (f < t - h - 10 ∨ t + h + 10 < f)

/-- F inside the band, both ends included (R29). -/
def inBand (t h f : Int) : Bool := decide (t - h ≤ f ∧ f ≤ t + h)

/-- A one-second evaluation's count on the EFFECTIVE hold (R27 to R29): `tested` says that the zone has a usable F and is
not in TRANSIT. -/
def Hold.complied (h : Hold) (f : Int) (tested suppressed : Bool) : Hold :=
  let c1 := h.figures.countEffective
  let c2 := if tested && !suppressed && outOfBand h.target h.halfBand f then c1.countOut else c1
  { h with figures := { c2 with reached := c2.reached || (tested && inBand h.target h.halfBand f) } }

/-- Does this second set the reached flag of a BOOST hold that carries lapse-on-reach (R21, R29)? -/
def Hold.lapsesByReach (h : Hold) (f : Int) (tested : Bool) : Bool :=
  decide (h.kind = .boost) && h.lapseOnReach && !h.figures.reached && tested && inBand h.target h.halfBand f

/-- Step 8 of a one-second evaluation (R33): the figures are counted, and a hold that reaches lapses. -/
def State.comply (s : State) (z : Zone) (f : Int) (tested suppressed : Bool) : State :=
  match s.effectiveHold z with
  | none => s
  | some h =>
    let s1 := s.setHolds (s.holds.put h.handle.slot (some (h.complied f tested suppressed)))
    if h.lapsesByReach f tested then s1.regovern z fun s2 => s2.lapse h.handle.slot .reached else s1

/-! ### The commit of a regime change (R22) -/

/-- A CHILL hold that is not BASE and has not lapsed. -/
def Hold.endsAtCommit (h : Hold) : Bool :=
  decide (h.zone = .chill) && decide (h.kind ≠ .base) && !h.state.isLapsed

/-- Lapse with cause REGIME the holds of the given slots that end at the commit. -/
def State.lapseAtCommit (s : State) : List Nat → State
  | [] => s
  | i :: is =>
    match s.holds.at i with
    | none => s.lapseAtCommit is
    | some h => if h.endsAtCommit then (s.lapse i .regime).lapseAtCommit is else s.lapseAtCommit is

/-- The CHILL BASE hold takes the regime's default target, adjusted by R8, and its default half-band; its figures are
cleared. -/
def State.retargetChillBase (s : State) (r : Regime) : State :=
  match s.holds.at (baseSlot .chill) with
  | none => s
  | some h =>
    s.setHolds (s.holds.put (baseSlot .chill) (some { h with
      target := (adjustTarget .chill r (s.map.defaultTargets.get r)).val
      halfBand := Config.regimeHalfBand r
      figures := .zero }))

/-- The hold table's part of the commit into regime `r` (R22). -/
def State.commitHolds (s : State) (r : Regime) : State :=
  ((s.lapseAtCommit (List.range 24)).retargetChillBase r).resolve .chill

/-! ### Requests on holds (section 1.5) -/

def handleOf (slot gen : Byte) : Handle := ⟨slot.toNat, gen.toNat⟩

/-- HOLD OPEN carried out (R12). -/
def State.openHold (s : State) (i : Nat) (z : Zone) (k : HoldKind) (target : Half) (halfBand priority flags : Byte)
    (minutes : Half) (floor : Byte) : State × Reply :=
  let t := boundTarget k (s.baseTarget z) (adjustTarget z s.map.regime target.toInt)
  let h := adjustHalfBand halfBand.toNat
  let p := adjustPriority priority.toNat
  let fl := if flags.getLsbD 1 then adjustFloor floor.toNat else ⟨none, false⟩
  let due := if flags.getLsbD 0 then expiryDue s.time.uptime minutes.toNat else none
  let hd : Handle := ⟨i, ((s.holds.slots[i]?).map (·.generation)).getD 1⟩
  let rec_ : Hold :=
    { handle := hd, zone := z, kind := k, target := t.val, halfBand := h.val, priority := p.val, expiry := due,
      speedFloor := fl.val, lapseOnReach := flags.getLsbD 2, origin := .link, state := .shadowed, figures := .zero }
  let s1 := s.regovern z fun s0 =>
    let listed := s0.setHolds
      { s0.holds.put i (some rec_) with
        lists := s0.holds.lists.set z (enterList s0.holds p.val hd (s0.holds.lists.get z)) }
    match due with
    | none => listed
    | some d => listed.insertAt (.holdExpiry i) ⟨d, s0.time.ms⟩
  (s1, ⟨.ok, t.clamped || h.clamped || p.clamped || fl.clamped,
    [byteOf i, byteOf hd.gen, byteOf (((s1.holds.at i).map (·.state.code)).getD 0)]⟩)

/-- HOLD OPEN's checks in order (R11), then R12. -/
def holdOpen (zone kind : Byte) (target : Half) (halfBand priority flags : Byte) (minutes : Half) (floor : Byte)
    (s : State) : State × Reply :=
  match zoneOf zone, kindOf kind with
  | some z, some k =>
    if k = .base then (s, refuse .fixed)
    else if k = .ease ∧ (flags.getLsbD 1 = true ∨ flags.getLsbD 2 = true) then (s, refuse .field)
    else if z = .chill ∧ s.inTransit then (s, refuse .busy)
    else
      match s.holds.freeSlot with
      | none => (s, refuse .full)
      | some i => s.openHold i z k target halfBand priority flags minutes floor
  | _, _ => (s, refuse .field)

def execHoldOpen (zone kind : Byte) (target : Half) (halfBand priority flags : Byte) (minutes : Half) (floor : Byte)
    (s : State) : Host.Outcome State Fault Refusal :=
  .next (s.serve ([0x10, zone, kind] ++ halfBytes target ++ [halfBand, priority, flags] ++ halfBytes minutes ++ [floor])
    (holdOpen zone kind target halfBand priority flags minutes floor))

/-- The target and half-band of an amendment (R14): adjusted, with the figures cleared when either value changes.
Answers the record and whether a value was moved into range. -/
def State.amendBand (s : State) (h : Hold) (mask : Byte) (target : Half) (halfBand : Byte) : Hold × Bool :=
  let t : Adjusted Int :=
    if mask.getLsbD 0 then boundTarget h.kind (s.baseTarget h.zone) (adjustTarget h.zone s.map.regime target.toInt)
    else ⟨h.target, false⟩
  let b : Adjusted Int := if mask.getLsbD 1 then adjustHalfBand halfBand.toNat else ⟨h.halfBand, false⟩
  ({ h with
      target := t.val
      halfBand := b.val
      figures := if t.val = h.target ∧ b.val = h.halfBand then h.figures else .zero },
    t.clamped || b.clamped)

/-- The priority of an amendment (R15): a changed priority moves the handle to the first place among the new one's. -/
def State.amendPriority (s : State) (h : Hold) (mask priority : Byte) : State × Hold × Bool :=
  if mask.getLsbD 2 then
    let p := adjustPriority priority.toNat
    if p.val = h.priority then (s, h, p.clamped)
    else
      let l := leaveList h.handle (s.holds.lists.get h.zone)
      (s.setHolds { s.holds with lists := s.holds.lists.set h.zone (enterList s.holds p.val h.handle l) },
        { h with priority := p.val }, p.clamped)
  else (s, h, false)

/-- The expiry of an amendment (R16). -/
def State.amendExpiry (s : State) (h : Hold) (mask : Byte) (minutes : Half) : State × Hold :=
  if mask.getLsbD 3 then
    let due := expiryDue s.time.uptime minutes.toNat
    let s1 := s.removeDeadline (.holdExpiry h.handle.slot)
    (match due with
      | none => s1
      | some d => s1.insertAt (.holdExpiry h.handle.slot) ⟨d, s.time.ms⟩, { h with expiry := due })
  else (s, h)

/-- The speed floor and lapse-on-reach of an amendment (R16). -/
def Hold.amendBoost (h : Hold) (mask floor reach : Byte) : Hold × Bool :=
  let f : Adjusted (Option Nat) := if mask.getLsbD 4 then adjustFloor floor.toNat else ⟨h.speedFloor, false⟩
  ({ h with speedFloor := f.val, lapseOnReach := if mask.getLsbD 5 then decide (reach ≠ 0) else h.lapseOnReach },
    f.clamped)

/-- HOLD AMEND carried out on the record `h` (R14 to R16). -/
def State.amendHold (s : State) (h : Hold) (mask : Byte) (target : Half) (halfBand priority : Byte) (minutes : Half)
    (floor reach : Byte) : State × Reply :=
  let band := s.amendBand h mask target halfBand
  let boost := band.1.amendBoost mask floor reach
  let clampedPrio := (s.amendPriority boost.1 mask priority).2.2
  let s1 := s.regovern h.zone fun s0 =>
    let pr := s0.amendPriority boost.1 mask priority
    let ex := pr.1.amendExpiry pr.2.1 mask minutes
    let s2 := ex.1.setHolds (ex.1.holds.put h.handle.slot (some ex.2))
    if ex.2.lapseOnReach ∧ ex.2.figures.reached then s2.lapse h.handle.slot .reached else s2
  (s1, ⟨.ok, band.2 || boost.2 || clampedPrio,
    [byteOf (((s1.holds.at h.handle.slot).map (·.state.code)).getD 0)]⟩)

/-- HOLD AMEND's checks in order (R13), then R14 to R16. -/
def holdAmend (slot gen mask : Byte) (target : Half) (halfBand priority : Byte) (minutes : Half) (floor reach : Byte)
    (s : State) : State × Reply :=
  match s.holds.named (handleOf slot gen) with
  | none => (s, refuse .stale)
  | some h =>
    if h.state.isLapsed then (s, refuse .lapsed)
    else if h.kind = .base ∧
        (mask.getLsbD 2 = true ∨ mask.getLsbD 3 = true ∨ mask.getLsbD 4 = true ∨ mask.getLsbD 5 = true) then
      (s, refuse .fixed)
    else if h.kind = .ease ∧ (mask.getLsbD 4 = true ∨ mask.getLsbD 5 = true) then (s, refuse .field)
    else if h.zone = .chill ∧ s.inTransit then (s, refuse .busy)
    else s.amendHold h mask target halfBand priority minutes floor reach

def execHoldAmend (slot gen mask : Byte) (target : Half) (halfBand priority : Byte) (minutes : Half) (floor reach : Byte)
    (s : State) : Host.Outcome State Fault Refusal :=
  .next (s.serve
    ([0x11, slot, gen, mask] ++ halfBytes target ++ [halfBand, priority] ++ halfBytes minutes ++ [floor, reach])
    (holdAmend slot gen mask target halfBand priority minutes floor reach))

/-- A slot's generation advances when it is freed; 255 becomes 1 (R3). -/
def nextGeneration (g : Nat) : Nat := if 255 ≤ g then 1 else g + 1

/-- The slot is freed and its generation advanced (R17). -/
def HoldTable.free (t : HoldTable) (slot : Nat) : HoldTable :=
  match t.slots[slot]? with
  | none => t
  | some sl => { t with slots := t.slots.set slot ⟨nextGeneration sl.generation, none⟩ }

/-- HOLD RETIRE (R17). -/
def holdRetire (slot gen : Byte) (s : State) : State × Reply :=
  match s.holds.named (handleOf slot gen) with
  | none => (s, refuse .stale)
  | some h =>
    if h.kind = .base then (s, refuse .fixed)
    else
      (s.regovern h.zone fun s0 =>
          (s0.setHolds { s0.holds.free slot.toNat with
              lists := s0.holds.lists.set h.zone (leaveList h.handle (s0.holds.lists.get h.zone)) }).removeDeadline
            (.holdExpiry slot.toNat),
        okReply [if h.state.isLapsed then 1 else 0])

def execHoldRetire (slot gen : Byte) (s : State) : Host.Outcome State Fault Refusal :=
  .next (s.serve [0x12, slot, gen] (holdRetire slot gen))

/-- The 21 bytes of HOLD QUERY (R186). -/
def Hold.bytes (h : Hold) : List Byte :=
  [byteOf h.handle.slot, byteOf h.handle.gen, byteOf (zoneCode h.zone), byteOf h.kind.code] ++ i16 h.target
    ++ [BitVec.ofInt 8 h.halfBand, byteOf h.priority, byteOf h.origin.code, byteOf h.state.code, byteOf h.state.causeCode,
      byteOf (bit h.expiry.isSome 0 + bit h.speedFloor.isSome 1 + bit h.lapseOnReach 2 + bit h.figures.reached 3
        + bit h.figures.sat 4)]
    ++ (match h.expiry with
      | some d => dueBytes d
      | none => u32 0)
    ++ [byteOf (h.speedFloor.getD 0)] ++ u16 h.figures.effMinutes ++ u16 h.figures.outMinutes

/-- HOLD QUERY (R18). -/
def holdQuery (slot gen : Byte) (s : State) : State × Reply :=
  match s.holds.named (handleOf slot gen) with
  | none => (s, refuse .stale)
  | some h => (s, okReply h.bytes)

def execHoldQuery (slot gen : Byte) (s : State) : Host.Outcome State Fault Refusal :=
  .next (s.serve [0x13, slot, gen] (holdQuery slot gen))

/-- One entry of HOLD LIST: the slot in bits 0 to 4 and the state in bits 5 and 6, then the generation (R186). -/
def HoldTable.listEntry (t : HoldTable) (h : Handle) : List Byte :=
  [byteOf (h.slot + 32 * (((t.named h).map (·.state.code)).getD 0)), byteOf h.gen]

/-- HOLD LIST (R19). -/
def holdList (zone : Byte) (s : State) : State × Reply :=
  match zoneOf zone with
  | none => (s, refuse .field)
  | some z =>
    let l := s.holds.lists.get z
    (s, okReply (byteOf l.length :: l.flatMap s.holds.listEntry))

def execHoldList (zone : Byte) (s : State) : Host.Outcome State Fault Refusal :=
  .next (s.serve [0x14, zone] (holdList zone))

end Sys2Proof.Machine
end

