-- ==== Sys2Proof/Machine/Settings.lean ====
section
/-! DEFINITION. The settings store (chapter 11): the setting items, the range rule of each, reads and writes, and the
settings image. -/

namespace Sys2Proof.Machine

/-! ### Items (R195) -/

inductive SettingItem
  | regime
  | defaultTarget (r : Regime)
  | weight (z : Zone)
  | margin (z : Zone)
  | excursionTime
  | blindCalling (z : Zone)
  | blindIdle (z : Zone)
  | maxSpeed
  | interval
  | shift (c : Channel)
  | sag
  | recover
  | rejection
  | ajarTime
  | freshPair
  | freezePair
  | chillPair (r : Regime)
  deriving DecidableEq, Repr

/-- The item of a code (R195). -/
def itemOf (b : Byte) : Option SettingItem :=
  match b.toNat with
  | 0x00 => some .regime
  | 0x01 => some (.defaultTarget .chilled)
  | 0x02 => some (.defaultTarget .soft)
  | 0x03 => some (.defaultTarget .frozen)
  | 0x04 => some (.weight .fresh)
  | 0x05 => some (.weight .chill)
  | 0x06 => some (.weight .freeze)
  | 0x07 => some (.margin .fresh)
  | 0x08 => some (.margin .chill)
  | 0x09 => some (.margin .freeze)
  | 0x0A => some .excursionTime
  | 0x0B => some (.blindCalling .fresh)
  | 0x0C => some (.blindIdle .fresh)
  | 0x0D => some (.blindCalling .chill)
  | 0x0E => some (.blindIdle .chill)
  | 0x0F => some (.blindCalling .freeze)
  | 0x10 => some (.blindIdle .freeze)
  | 0x11 => some .maxSpeed
  | 0x12 => some .interval
  | 0x13 => some (.shift .s0)
  | 0x14 => some (.shift .s1)
  | 0x15 => some (.shift .s2)
  | 0x16 => some (.shift .s3)
  | 0x17 => some (.shift .s4)
  | 0x18 => some (.shift .s5)
  | 0x19 => some .sag
  | 0x1A => some .recover
  | 0x1B => some .rejection
  | 0x1C => some .ajarTime
  | 0x1D => some .freshPair
  | 0x1E => some .freezePair
  | 0x1F => some (.chillPair .chilled)
  | 0x20 => some (.chillPair .soft)
  | 0x21 => some (.chillPair .frozen)
  | _ => none

/-! ### Range rules -/

/-- An unsigned item clamped to its range (R195). -/
def clampSetting (lo hi : Nat) (v : Int) : Adjusted Nat :=
  ⟨(clampInt lo hi v).toNat, decide (clampInt lo hi v ≠ v)⟩

/-- The smallest allowed rejection time at or above the value, or 160 (R144). -/
def adjustRejection (v : Int) : Adjusted Nat :=
  let n := if v ≤ 0 then 0 else if v ≤ 40 then 40 else if v ≤ 80 then 80 else 160
  ⟨n, decide ((n : Int) ≠ v)⟩

/-- The sag threshold: its value, and the recover threshold raised if need be (R141). -/
def adjustSag (recover : Nat) (v : Int) : Nat × Adjusted Nat :=
  let a := clampSetting 1000 3800 v
  (max recover (a.val + 100), ⟨a.val, a.clamped || decide (recover < a.val + 100)⟩)

/-- The recover threshold (R141). -/
def adjustRecover (sag : Nat) (v : Int) : Adjusted Nat :=
  let a := clampSetting 1100 3900 v
  ⟨max a.val (sag + 100), a.clamped || decide (a.val < sag + 100)⟩

/-! ### SETTINGS WRITE (R195) -/

/-- A change of a zone's entry, for CHILL in the shadow entry too (R108). -/
def ZoneMap.editEntry (m : ZoneMap) (z : Zone) (f : MapEntry → MapEntry) : ZoneMap :=
  { m with active := m.active.set z (f (m.active.get z)), shadow := if z = .chill then f m.shadow else m.shadow }

def State.setEntry (s : State) (z : Zone) (f : MapEntry → MapEntry) : State := s.setMap (s.map.editEntry z f)

/-- A new weight is handed on when it changes the effective weight (R6, R25, R108). -/
def State.writeWeight (s : State) (z : Zone) (w : Nat) : State :=
  (s.setEntry z fun e => { e with weight := w }).handChange z (s.governing z)

def State.writeMargin (s : State) (z : Zone) (v : Int) : State := s.setEntry z fun e => { e with warmMargin := v }

def State.writeBlind (s : State) (z : Zone) (f : BlindLen → BlindLen) : State :=
  s.setEval { s.eval with blindLen := s.eval.blindLen.set z (f (s.eval.blindLen.get z)) }

def State.setChannel (s : State) (c : Channel) (r : ChannelRec) : State :=
  s.setMeas { s.meas with channels := s.meas.channels.set c r }

def State.writeMains (s : State) (sag recover : Nat) : State :=
  s.setMeas { s.meas with mains := { s.meas.mains with sag := sag, recover := recover } }

/-- A write brought into range and put in place: the state and CLAMPED, or none for a read-only item (R195). -/
def State.writeSetting (s : State) (i : SettingItem) (v : Int) : Option (State × Bool) :=
  match i with
  | .regime => none
  | .defaultTarget r =>
    let a := adjustTarget .chill r v
    some (s.setMap { s.map with defaultTargets := s.map.defaultTargets.set r a.val }, a.clamped)
  | .weight z => let a := clampSetting 1 8 v; some (s.writeWeight z a.val, a.clamped)
  | .margin z => let a := clampSetting 20 80 v; some (s.writeMargin z a.val, a.clamped)
  | .excursionTime => let a := clampSetting 10 120 v; some (s.setEval { s.eval with excursionTime := a.val }, a.clamped)
  | .blindCalling z =>
    let a := clampSetting 1 120 v
    some (s.writeBlind z fun b => { b with calling := a.val }, a.clamped)
  | .blindIdle z => let a := clampSetting 1 120 v; some (s.writeBlind z fun b => { b with idle := a.val }, a.clamped)
  | .maxSpeed => let a := clampSetting 60 100 v; some (s.setArb { s.arb with maxSpeed := a.val }, a.clamped)
  | .interval =>
    let a := clampSetting 21600 259200 v
    some ((s.setDefrost { s.defrost with interval := a.val }).compareInterval, a.clamped)
  | .shift c => let a := clampSetting 0 4 v; some (s.setChannel c { s.channel c with shift := a.val }, a.clamped)
  | .sag => let a := adjustSag s.meas.mains.recover v; some (s.writeMains a.2.val a.1, a.2.clamped)
  | .recover => let a := adjustRecover s.meas.mains.sag v; some (s.writeMains s.meas.mains.sag a.val, a.clamped)
  | .rejection => let a := adjustRejection v; some (s.setDoors { s.doors with rejection := a.val }, a.clamped)
  | .ajarTime => let a := clampSetting 60 600 v; some (s.setDoors { s.doors with ajarTime := a.val }, a.clamped)
  | .freshPair => none
  | .freezePair => none
  | .chillPair _ => none

/-! ### Values -/

def valueBytes (v : Int) : List Byte := quadBytes (BitVec.ofInt 32 v)

/-- A fallback pair as four value bytes (R195). -/
def pairBytes (p : Fallback) : List Byte := [byteOf (fallbackCode p), 0] ++ i16 (fallbackOffset p)

/-- The live value of an item, in the four value bytes (R196). -/
def State.settingBytes (s : State) (i : SettingItem) : List Byte :=
  match i with
  | .regime => valueBytes (regimeCode s.map.regime)
  | .defaultTarget r => valueBytes (s.map.defaultTargets.get r)
  | .weight z => valueBytes (s.entry z).weight
  | .margin z => valueBytes (s.entry z).warmMargin
  | .excursionTime => valueBytes s.eval.excursionTime
  | .blindCalling z => valueBytes (s.eval.blindLen.get z).calling
  | .blindIdle z => valueBytes (s.eval.blindLen.get z).idle
  | .maxSpeed => valueBytes s.arb.maxSpeed
  | .interval => valueBytes s.defrost.interval
  | .shift c => valueBytes (s.channel c).shift
  | .sag => valueBytes s.meas.mains.sag
  | .recover => valueBytes s.meas.mains.recover
  | .rejection => valueBytes s.doors.rejection
  | .ajarTime => valueBytes s.doors.ajarTime
  | .freshPair => pairBytes s.map.pairs.fresh
  | .freezePair => pairBytes s.map.pairs.freeze
  | .chillPair r => pairBytes (s.map.pairs.chill.get r)

/-- SETTINGS WRITE (R195). -/
def settingsWrite (item : Byte) (value : Quad) (s : State) : State × Reply :=
  match itemOf item with
  | none => (s, refuse .field)
  | some i =>
    match s.writeSetting i value.toInt with
    | none => (s, refuse .field)
    | some (s1, clamped) => (s1, ⟨.ok, clamped, item :: s1.settingBytes i⟩)

def execSettingsWrite (item : Byte) (value : Quad) (s : State) : Host.Outcome State Fault Refusal :=
  .next (s.serve ([0x60, item] ++ quadBytes value) (settingsWrite item value))

/-- SETTINGS READ (R196). -/
def settingsRead (item : Byte) (s : State) : State × Reply :=
  match itemOf item with
  | none => (s, refuse .field)
  | some i => (s, okReply (item :: s.settingBytes i))

def execSettingsRead (item : Byte) (s : State) : Host.Outcome State Fault Refusal :=
  .next (s.serve [0x61, item] (settingsRead item))

/-! ### The settings image (R197, R198) -/

/-- The live value of every item. -/
def State.liveSettings (s : State) : Settings where
  regime := s.map.regime
  defaultTargets := s.map.defaultTargets
  weights := ⟨(s.entry .fresh).weight, (s.entry .chill).weight, (s.entry .freeze).weight⟩
  margins := ⟨(s.entry .fresh).warmMargin, (s.entry .chill).warmMargin, (s.entry .freeze).warmMargin⟩
  excursionTime := s.eval.excursionTime
  blindLen := s.eval.blindLen
  maxSpeed := s.arb.maxSpeed
  interval := s.defrost.interval
  shifts := ⟨(s.channel .s0).shift, (s.channel .s1).shift, (s.channel .s2).shift, (s.channel .s3).shift,
    (s.channel .s4).shift, (s.channel .s5).shift⟩
  sag := s.meas.mains.sag
  recover := s.meas.mains.recover
  rejection := s.doors.rejection
  ajarTime := s.doors.ajarTime
  pairs := s.map.pairs

/-- The target and half-band of a zone's BASE hold. -/
def State.basePair (s : State) (z : Zone) : Int × Int :=
  match s.holds.at (baseSlot z) with
  | some h => (h.target, h.halfBand)
  | none => (0, 0)

/-- What a store copies (R198). -/
def State.liveContents (s : State) : ImageContents where
  settings := s.liveSettings
  bases := ⟨s.basePair .fresh, s.basePair .chill, s.basePair .freeze⟩
  corrections := s.meas.corrections

/-- SETTINGS STORE (R198): the copy is taken, and the write first marks the image bad. -/
def settingsStore (s : State) : State × Reply :=
  match s.store.writing with
  | some _ => (s, refuse .busy)
  | none =>
    (s.setStore { s.store with image := none, writing := some ⟨s.liveContents, s.now⟩ }, ⟨.accepted, false, []⟩)

def execSettingsStore (s : State) : Host.Outcome State Fault Refusal := .next (s.serve [0x62] settingsStore)

/-- The end of a write (R198). -/
def State.endStore (s : State) (w : StoreWrite) : State :=
  (s.setStore { s.store with image := some w.copy, writing := none }).raiseNotice .storeDone

/-- STORE_WRITE_END (R198). -/
def execStoreWriteEnd (s : State) : Host.Outcome State Fault Refusal :=
  .next (match s.store.writing with
    | some w => s.endStore w
    | none => s)

/-! ### The contents that start-up takes (R197) -/

def clampCount (lo hi n : Nat) : Nat := (clampSetting lo hi n).val

def blindInRange (b : BlindLen) : BlindLen := ⟨clampCount 1 120 b.calling, clampCount 1 120 b.idle⟩

def fallbackInRange (p : Fallback) : Fallback := p.map fun x => (x.1, clampInt (-200) 200 x.2)

/-- Each item passes through the same range rule as a write (R197). -/
def settingsInRange (c : Settings) : Settings where
  regime := c.regime
  defaultTargets := ⟨(adjustTarget .chill .chilled c.defaultTargets.chilled).val,
    (adjustTarget .chill .soft c.defaultTargets.soft).val, (adjustTarget .chill .frozen c.defaultTargets.frozen).val⟩
  weights := ⟨clampCount 1 8 c.weights.fresh, clampCount 1 8 c.weights.chill, clampCount 1 8 c.weights.freeze⟩
  margins := ⟨clampInt 20 80 c.margins.fresh, clampInt 20 80 c.margins.chill, clampInt 20 80 c.margins.freeze⟩
  excursionTime := clampCount 10 120 c.excursionTime
  blindLen := ⟨blindInRange c.blindLen.fresh, blindInRange c.blindLen.chill, blindInRange c.blindLen.freeze⟩
  maxSpeed := clampCount 60 100 c.maxSpeed
  interval := clampCount 21600 259200 c.interval
  shifts := ⟨clampCount 0 4 c.shifts.s0, clampCount 0 4 c.shifts.s1, clampCount 0 4 c.shifts.s2,
    clampCount 0 4 c.shifts.s3, clampCount 0 4 c.shifts.s4, clampCount 0 4 c.shifts.s5⟩
  sag := clampCount 1000 3800 c.sag
  recover := (adjustRecover (clampCount 1000 3800 c.sag) c.recover).val
  rejection := (adjustRejection c.rejection).val
  ajarTime := clampCount 60 600 c.ajarTime
  pairs :=
    { fresh := fallbackInRange c.pairs.fresh
      freeze := fallbackInRange c.pairs.freeze
      chill := ⟨fallbackInRange c.pairs.chill.chilled, fallbackInRange c.pairs.chill.soft,
        fallbackInRange c.pairs.chill.frozen⟩ }

/-- A BASE target and half-band as the hold table builds them (R30). -/
def adjustBase (z : Zone) (r : Regime) (p : Int × Int) : Int × Int :=
  ((adjustTarget z r p.1).val, (adjustHalfBand p.2).val)

/-- What start-up takes from an image: each value in range, the BASE holds against the stored regime; the factory contents
when the image is bad (R197, R30). -/
def loadContents (image : Option ImageContents) : ImageContents :=
  match image with
  | none => Config.factoryContents
  | some c =>
    { settings := settingsInRange c.settings
      bases := ⟨adjustBase .fresh c.settings.regime c.bases.fresh, adjustBase .chill c.settings.regime c.bases.chill,
        adjustBase .freeze c.settings.regime c.bases.freeze⟩
      corrections := c.corrections }

end Sys2Proof.Machine
end

