-- ==== Sys2Proof/Machine/Zones.lean ====
section
/-! DEFINITION. The zone evaluator (chapter 2): source of F, call, cooling, wait age, excess and urgency, excursions, path
urgencies, the five kinds of evaluation, and ZONE QUERY. -/

namespace Sys2Proof.Machine

/-! ### The source of F (R35 to R38) -/

/-- The channel on whose report the zone's next one-second evaluation is taken (R33, R111). -/
def triggerChannel (e : MapEntry) (src : Source) : Channel :=
  match src, e.fallback with
  | .fallback, some (c, _) => c
  | _, _ => e.sensor

/-- The trigger channels are those that hold at the second's boundary (R33, log entry 23). -/
def State.latchTriggers (s : State) : State :=
  s.setEval { s.eval with
    trigger := ⟨triggerChannel (s.entry .fresh) (s.zone .fresh).source,
      triggerChannel (s.entry .chill) (s.zone .chill).source,
      triggerChannel (s.entry .freeze) (s.zone .freeze).source⟩ }

/-- The source and F by R35's table, `f` being the last value and `rep` the report taken, if any (R125). -/
def State.sourceOf (s : State) (rep : Option Report) (e : MapEntry) (f : Int) : Source × Int :=
  let sensor := s.reading rep e.sensor
  match sensor.state with
  | .good => (.sensed, sensor.f)
  | .suspect => (.sensed, sensor.f)
  | .seeding => (.sensed, f)
  | _ =>
    match e.fallback with
    | none => (.blind, f)
    | some (c, offset) =>
      if (s.reading rep c).usable then
        (.fallback, clampInt Config.tempMin Config.tempMax ((s.reading rep c).f + offset))
      else (.blind, f)

/-- Is the zone's map sensor in SEEDING (R35)? -/
def State.sensorSeeding (s : State) (rep : Option Report) (z : Zone) : Bool :=
  decide ((s.reading rep (s.entry z).sensor).state = .seeding)

/-- A one-second evaluation reads the zone's BLIND lengths; no other evaluation does (R33, log entry 45). -/
def State.readBlindLen (s : State) (z : Zone) : State :=
  s.setEval { s.eval with blindUsed := s.eval.blindUsed.set z (s.eval.blindLen.get z) }

/-- Entry into BLIND, or its restart at a commit (R38, R54): the half is CALL, with a BLIND_HALF deadline. A commit uses the
calling-half length that the zone's last one-second evaluation read (R33, log entry 45). -/
def State.enterBlind (s : State) (z : Zone) (r : ZoneRec) : State :=
  let secs := 60 * (s.eval.blindUsed.get z).calling
  (s.insertAfter (.blindHalf z) secs).setZone z
    { r with half := some .call, blindDue := some (s.time.uptime + secs) }

/-- Leaving BLIND (R37): the deadline is removed and the half becomes absent. -/
def State.leaveBlind (s : State) (z : Zone) (r : ZoneRec) : State :=
  (s.removeDeadline (.blindHalf z)).setZone z { r with half := none, blindDue := none }

/-- Step 1 of a one-second evaluation, and step 4 of the end of TRANSIT, where a source of BLIND restarts the schedule
(R35 to R38, R54). F is no placeholder from the first value on that a channel gives it (R32). -/
def State.selectSource (s : State) (rep : Option Report) (z : Zone) (restart : Bool) : State :=
  let r := s.zone z
  let c := s.sourceOf rep (s.entry z) r.f
  let r1 := { r with
    source := c.1, f := c.2, placeholder := r.placeholder && (decide (c.1 = .blind) || s.sensorSeeding rep z) }
  if c.1 = .blind then (if r.source ≠ .blind ∨ restart then s.enterBlind z r1 else s.setZone z r1)
  else if r.source = .blind then s.leaveBlind z r1
  else s.setZone z r1

/-- Is the call judged afresh after this change of source (R37)? -/
def judgedAfresh : Source → Source → Bool
  | .fallback, .sensed => true
  | .blind, .sensed => true
  | .blind, .fallback => true
  | _, _ => false

/-! ### Call, cooling, wait age, excess, urgency (steps 3 to 6) -/

/-- The call of a zone outside TRANSIT (R41, and R35, R37, R39 where they apply); `untested` says that F gives no test. -/
def callOf (r : ZoneRec) (afresh untested : Bool) : Bool :=
  if r.source = .blind then decide (r.half = some .call)
  else if untested then r.calls
  else if afresh ∨ r.calls = false then decide (r.t + r.h ≤ r.f)
  else decide (r.t - r.h < r.f)

/-- Is the air actuator delivering (R42)? The duties are those set. -/
def State.delivering (s : State) : Actuator → Bool
  | .ff => decide (0 < s.air.ff)
  | .zf => decide (0 < s.air.zf)
  | .damper .fresh => decide (0 < s.air.damperPos) && decide (0 < s.air.ff)
  | .damper .freeze => decide (0 < s.air.damperPos) && decide (0 < s.air.zf)

/-- The state that steps 3 and 4 leave (R41, R42, R53). -/
def stateOf (r : ZoneRec) (call served : Bool) : ZoneState :=
  if r.state = .transit then .transit
  else if call = false then .satisfied
  else if served && !r.doorPaused then .cooling
  else .calling

/-- The wait age (R44): kept from CALLING to CALLING, otherwise started from 0, and raised by a one-second evaluation that
leaves the zone CALLING (log entry 13). -/
def waitOf (before after : ZoneState) (age : Nat) (oneSecond : Bool) : Nat :=
  let kept := if before = .calling ∧ after = .calling then age else 0
  if after = .calling ∧ oneSecond then min 1800 (kept + 1) else kept

/-- The excess (R45). -/
def excessOf (r : ZoneRec) : Nat := (r.f - r.t + r.h).toNat

/-- The urgency and SAT of a zone in the given state (R45, R39). -/
def urgencyOf (st : ZoneState) (src : Source) (weight excess age : Nat) : Nat × Bool :=
  match st with
  | .satisfied => (0, false)
  | .transit => (0, false)
  | _ => if src = .blind then (200, false) else hold9999 (weight * excess + age / 6)

/-- Steps 3 to 6 on a record: `served` says that the arbiter runs the zone's path and its actuator delivers. -/
def ZoneRec.settled (r : ZoneRec) (afresh untested served oneSecond : Bool) : ZoneRec :=
  let st := stateOf r (callOf r afresh untested) served
  let age := waitOf r.state st r.waitAge oneSecond
  let u := urgencyOf st r.source r.weight (excessOf r) age
  { r with state := st, waitAge := age, excess := excessOf r, urgency := u.1, sat := u.2 }

/-- Is there no F to test: is the map sensor in SEEDING (R35), or F still the placeholder (R32)? After the sensor has left
SEEDING, a hold or door change that comes before F has taken a value keeps the call (log entry 44). -/
def State.callUntested (s : State) (rep : Option Report) (z : Zone) : Bool :=
  s.sensorSeeding rep z || (s.zone z).placeholder

/-- Steps 3 to 6 on a zone. -/
def State.settleZone (s : State) (rep : Option Report) (z : Zone) (afresh oneSecond : Bool) : State :=
  s.setZone z ((s.zone z).settled afresh (s.callUntested rep z)
    (s.arb.state.runs (s.entry z).path && s.delivering (s.entry z).actuator) oneSecond)

/-! ### Path urgencies and the CHILL cooling demand (R43, R46) -/

/-- The zones the map places on a path (R46). -/
def State.members (s : State) (p : Path) : List Zone :=
  [Zone.fresh, .chill, .freeze].filter fun z => decide ((s.entry z).path = p)

/-- The larger of two speed floors, an absent one being none. -/
def maxFloor : Option Nat → Option Nat → Option Nat
  | none, b => b
  | a, none => a
  | some a, some b => some (max a b)

/-- The path floor: the largest floor of a calling member. -/
def pathFloor : List ZoneRec → Option Nat
  | [] => none
  | r :: rs => maxFloor (if r.calls then r.floor else none) (pathFloor rs)

/-- The urgency, SAT flag and floor of a path, from its members' records (R46). -/
def pathFigures (rs : List ZoneRec) : PathRec :=
  let u := hold9999 ((rs.map (·.urgency)).sum)
  ⟨u.1, u.2, pathFloor rs⟩

/-- One path's record recomputed. -/
def State.recomputePath (s : State) (p : Path) : State :=
  s.setEval { s.eval with paths := s.eval.paths.set p (pathFigures ((s.members p).map s.zone)) }

/-- Both path urgencies, SAT flags and floors are handed on: to the arbiter as a review (R46, R60), to the air handler
(R156), and to the defrost controller where the FRESH figure is 1500 or more (R104, log entry 27). -/
def State.handUrgencies (s : State) : State :=
  let s1 := (s.hand .review).hand .airUrgencies
  if 1500 ≤ s.eval.paths.fresh.urgency then s1.hand (.cutShort s.eval.paths.fresh.urgency) else s1

/-- The CHILL cooling demand as its three conditions stand (R43). -/
def State.demandNow (s : State) : Bool :=
  (s.zone .chill).calls && s.arb.state.runs (s.entry .chill).path && !(s.zone .chill).doorPaused

/-- Every CHILL evaluation recomputes the demand and hands on the excess and the demand (R43, R120). -/
def State.handDrawer (s : State) (z : Zone) : State :=
  if z = .chill then (s.setEval { s.eval with demand := s.demandNow }).hand .airDrawer else s

/-- The end of an evaluation (step 9). -/
def State.handOn (s : State) (z : Zone) : State :=
  ((s.handDrawer z).recomputePath (s.entry z).path).handUrgencies

/-! ### Doors, suppression, excursions -/

def State.anyDoorOpen (s : State) (z : Zone) : Bool := (s.entry z).doors.any fun d => (s.door d).isOpen

/-- door-paused (R47): at least one door of the zone is in state OPEN. -/
def State.pausedNow (s : State) (z : Zone) : Bool := (s.entry z).doors.any fun d => decide ((s.door d).state = .opened)

/-- Suppression (R49). -/
def State.suppressed (s : State) (z : Zone) : Bool :=
  s.anyDoorOpen z || decide (0 < (s.zone z).grace)
    || (decide ((s.entry z).path = .freeze)
      && decide (s.defrost.phase = .heat ∨ s.defrost.phase = .drip ∨ s.defrost.phase = .recover))

/-- Step 2's lowering of the grace count (R48). -/
def State.lowerGrace (s : State) (z : Zone) : State :=
  if s.anyDoorOpen z then s else s.setZone z { s.zone z with grace := (s.zone z).grace - 1 }

/-- The warm excursion (R50, log entry 26): the record after step 7's warm side, and whether the notice is raised. -/
def warmStep (r : ZoneRec) (margin : Int) (limit : Nat) (suppressed : Bool) : ZoneRec × Bool :=
  if r.t + r.h + margin < r.f then
    if suppressed then (r, false)
    else
      let n := min limit (r.warmCount + 1)
      if limit ≤ n ∧ r.warm = false then ({ r with warmCount := n, warm := true }, true)
      else ({ r with warmCount := n }, false)
  else ({ r with warmCount := 0, warm := r.warm && decide (r.t + r.h < r.f) }, false)

/-- The cold excursion of FRESH and CHILL (R51). -/
def coldStep (r : ZoneRec) (suppressed : Bool) : ZoneRec × Bool :=
  if r.f < r.t - r.h - 30 then
    if suppressed then (r, false)
    else
      let n := min 900 (r.coldCount + 1)
      if 900 ≤ n ∧ r.cold = false then ({ r with coldCount := n, cold := true }, true)
      else ({ r with coldCount := n }, false)
  else ({ r with coldCount := 0, cold := r.cold && decide (r.f < r.t - r.h) }, false)

/-- Step 7, warm side. -/
def State.timeWarm (s : State) (z : Zone) (suppressed : Bool) : State :=
  let w := warmStep (s.zone z) (s.entry z).warmMargin (60 * s.eval.excursionTime) suppressed
  let s1 := s.setZone z w.1
  if w.2 then s1.raiseNotice .warmExcursion else s1

/-- Step 7, cold side; the FREEZE zone has none. -/
def State.timeCold (s : State) (z : Zone) (suppressed : Bool) : State :=
  if z = .freeze then s
  else
    let c := coldStep (s.zone z) suppressed
    let s1 := s.setZone z c.1
    if c.2 then s1.raiseNotice .coldExcursion else s1

/-- Is F tested by steps 7 and 8 (section 2.8, R28, R29, R35, R53)? -/
def State.fTested (s : State) (rep : Option Report) (z : Zone) : Bool :=
  decide ((s.zone z).source ≠ .blind) && !s.sensorSeeding rep z && decide ((s.zone z).state ≠ .transit)

/-- Steps 7 and 8. -/
def State.timeAndCount (s : State) (rep : Option Report) (z : Zone) (suppressed : Bool) : State :=
  let s1 := if s.fTested rep z then (s.timeWarm z suppressed).timeCold z suppressed else s
  s1.comply z (s.zone z).f (s.fTested rep z) suppressed

/-! ### The evaluations -/

/-- A one-second evaluation on the report `r` (R33, R125), with the settings as they stand. -/
def State.evaluateSecond (s : State) (z : Zone) (r : Report) : State :=
  let s1 := (s.readBlindLen z).selectSource (some r) z false
  let sup := s1.suppressed z
  let s2 := (s1.lowerGrace z).settleZone (some r) z (judgedAfresh (s.zone z).source (s1.zone z).source) true
  (s2.timeAndCount (some r) z sup).handOn z

/-- ONE_SECOND_EVALUATION (R33): taken on a report of the zone's trigger channel. -/
def execOneSecondEvaluation (z : Zone) (s : State) : Host.Outcome State Fault Refusal :=
  .next (s.takeEvent (oneSecondOf z) fun r s1 => s1.evaluateSecond z r)

/-- What the hold table hands on is stored (R34). -/
def ZoneRec.store (r : ZoneRec) (g : Governing) : ZoneRec :=
  { r with handle := g.handle, t := g.target, h := g.halfBand, weight := g.weight, floor := g.floor }

/-- A hold-change evaluation (R34); one that finds CHILL in TRANSIT stores and does nothing else. -/
def State.evaluateHoldChange (s : State) (z : Zone) (g : Governing) : State :=
  let s1 := s.setZone z ((s.zone z).store g)
  if (s.zone z).state = .transit then s1 else (s1.settleZone none z false false).handOn z

/-- HOLD_CHANGE_EVALUATION (R34). -/
def execHoldChangeEvaluation (z : Zone) (s : State) : Host.Outcome State Fault Refusal :=
  .next (s.takeEvent (holdChangeOf z) fun g s1 => s1.evaluateHoldChange z g)

/-- The zone that the active entries give a door (R150). -/
def State.zoneOfDoor (s : State) (d : Door) : Option Zone :=
  [Zone.fresh, .chill, .freeze].find? fun z => decide (d ∈ (s.entry z).doors)

/-- The grace count after a door event (R48). -/
def graceAfter (e : DoorEvent) (grace : Nat) (anyOpen : Bool) : Nat :=
  match e with
  | .open_ => 0
  | .ajar => grace
  | .close => if anyOpen then grace else 600

/-- A door-change evaluation (R34, R47, R48). -/
def State.evaluateDoor (s : State) (z : Zone) (e : DoorEvent) : State :=
  let r := s.zone z
  let s1 := s.setZone z
    { r with doorPaused := s.pausedNow z, grace := graceAfter e r.grace (s.anyDoorOpen z) }
  (s1.settleZone none z false false).handOn z

/-- DOOR_CHANGE_EVALUATION (R150): the oldest event of the door in flight. -/
def execDoorChangeEvaluation (d : Door) (s : State) : Host.Outcome State Fault Refusal :=
  .next (s.takeEvent (doorEventOf d) fun ev s1 =>
    match s1.zoneOfDoor d with
    | some z => s1.evaluateDoor z ev
    | none => s1)

/-- The BLIND half that follows, and its length in seconds (R40). -/
def nextHalf (len : BlindLen) : BlindHalf → BlindHalf × Nat
  | .call => (.idle, 60 * len.idle)
  | .idle => (.call, 60 * len.calling)

/-- A schedule evaluation (R40): the next due time is reckoned from the delivered one, by the BLIND
lengths that the zone's last one-second evaluation read (R33, log entry 45). -/
def State.evaluateSchedule (s : State) (z : Zone) (half : BlindHalf) (due : Instant) : State :=
  let n := nextHalf (s.eval.blindUsed.get z) half
  let s1 := (s.insertAt (.blindHalf z) (due.plus n.2)).setZone z
    { s.zone z with half := some n.1, blindDue := some (due.sec + n.2) }
  (s1.settleZone none z false false).handOn z

/-- BLIND_HALF (R40). -/
def execBlindHalf (z : Zone) (s : State) : Host.Outcome State Fault Refusal :=
  .next (s.deliver (.blindHalf z) fun due s1 =>
    match (s1.zone z).half with
    | some half => s1.evaluateSchedule z half due
    | none => s1)

/-- CHILL enters TRANSIT (R53). -/
def State.enterTransit (s : State) : State :=
  let s1 := s.setZone .chill
    { s.zone .chill with state := .transit, waitAge := 0, urgency := 0, excess := 0, sat := false }
  let s2 := s1.setEval { s1.eval with demand := false }
  let s3 := if s.eval.demand then s2.hand .airDrawer else s2
  (s3.recomputePath (s.entry .chill).path).handUrgencies

/-- The record with which CHILL leaves TRANSIT (R54, steps 1 to 3). -/
def ZoneRec.leaveTransit (r : ZoneRec) (g : Option Governing) : ZoneRec :=
  let r1 := match g with
    | some g => { r.store g with floor := none }
    | none => r
  { r1 with warmCount := 0, coldCount := 0, warm := false, cold := false, state := .satisfied }

/-- The end-of-TRANSIT evaluation (R54). It is no one-second evaluation, so a restart of BLIND uses the length that CHILL's
last one-second evaluation read (R33, log entry 45). -/
def State.evaluateEndOfTransit (s : State) : State :=
  let s1 := (s.setZone .chill ((s.zone .chill).leaveTransit (s.governing .chill))).selectSource none .chill true
  let s2 := (s1.settleZone none .chill false false).handDrawer .chill
  ((s2.recomputePath .fresh).recomputePath .freeze).handUrgencies

/-! ### ZONE QUERY (R55) -/

/-- The 32 bytes of ZONE QUERY (R185). -/
def State.zoneBytes (s : State) (z : Zone) : List Byte :=
  let r := s.zone z
  let p := (s.entry z).path
  [byteOf (zoneCode z), byteOf r.state.code, byteOf r.source.code] ++ i16 r.f
    ++ [byteOf r.handle.slot, byteOf r.handle.gen] ++ i16 r.t
    ++ [BitVec.ofInt 8 r.h, byteOf r.weight, byteOf (r.floor.getD 0),
      byteOf (bit r.doorPaused 0 + bit r.sat 1 + bit r.warm 2 + bit r.cold 3 + bit r.half.isSome 4
        + bit (decide (r.half = some .call)) 5 + bit (s.eval.paths.get p).sat 6)]
    ++ u16 r.grace ++ u16 r.waitAge ++ u16 r.excess ++ u16 r.urgency ++ u16 r.warmCount ++ u16 r.coldCount
    ++ (match r.blindDue with
      | some d => dueBytes d
      | none => u32 0)
    ++ [byteOf (pathIdx p)] ++ u16 (s.eval.paths.get p).urgency

/-- ZONE QUERY (R55). -/
def zoneQuery (zone : Byte) (s : State) : State × Reply :=
  match zoneOf zone with
  | none => (s, refuse .field)
  | some z => (s, okReply (s.zoneBytes z))

def execZoneQuery (zone : Byte) (s : State) : Host.Outcome State Fault Refusal :=
  .next (s.serve [0x20, zone] (zoneQuery zone))

end Sys2Proof.Machine
end

