-- ==== Sys2Proof/Machine/ZoneMap.lean ====
section
/-! DEFINITION. The zone map (chapter 5): building entries, MAP SET, REGIME SET, the two steps of a regime change, its
commit, and the arrivals of damper and flap that drive it. -/

namespace Sys2Proof.Machine

/-! ### Building entries (R106) -/

def freshEntry (pair : Fallback) (weight : Nat) (margin : Int) : MapEntry :=
  ⟨.fresh, none, .s0, pair, [.fl, .fr], .ff, weight, margin⟩

def freezeEntry (pair : Fallback) (weight : Nat) (margin : Int) : MapEntry :=
  ⟨.freeze, none, .s2, pair, [.zd], .zf, weight, margin⟩

/-- The path and flap side of a regime (R113). -/
def regimePath : Regime → Path
  | .chilled => .fresh
  | .soft => .freeze
  | .frozen => .freeze

def chillEntry (r : Regime) (pair : Fallback) (weight : Nat) (margin : Int) : MapEntry :=
  ⟨regimePath r, some r, .s1, pair, [.dr], .damper (regimePath r), weight, margin⟩

/-- A zone's own channel (R106). -/
def ownSensor : Zone → Channel
  | .fresh => .s0
  | .chill => .s1
  | .freeze => .s2

/-! ### MAP SET (R109, R110) -/

/-- The pair stored for a fallback and an offset, and whether the offset was moved (R110). -/
def storedPair (fallback : Option Channel) (offset : Int) : Fallback × Bool :=
  match fallback with
  | none => (none, false)
  | some c => (some (c, clampInt (-200) 200 offset), decide (clampInt (-200) 200 offset ≠ offset))

/-- An entry of the given regime takes the pair; another keeps its own (R110). -/
def MapEntry.repaired (e : MapEntry) (r : Regime) (pair : Fallback) : MapEntry :=
  if e.regime = some r then { e with fallback := pair } else e

/-- The pair reaches the map settings and the entries (R110). -/
def ZoneMap.storePair (m : ZoneMap) (z : Zone) (r : Regime) (pair : Fallback) : ZoneMap :=
  match z with
  | .fresh =>
    { m with
      pairs := { m.pairs with fresh := pair }
      active := m.active.set .fresh { m.active.fresh with fallback := pair } }
  | .freeze =>
    { m with
      pairs := { m.pairs with freeze := pair }
      active := m.active.set .freeze { m.active.freeze with fallback := pair } }
  | .chill =>
    { m with
      pairs := { m.pairs with chill := m.pairs.chill.set r pair }
      active := m.active.set .chill (m.active.chill.repaired r pair)
      shadow := m.shadow.repaired r pair }

/-- The regime that MAP SET reads: the named one for CHILL alone (R109); for another zone it is not read. -/
def mapRegime (z : Zone) (regime : Byte) : Option Regime := if z = .chill then regimeOf regime else some .chilled

/-- MAP SET (R109, R110). The reply's regime is 0 for a zone other than CHILL. -/
def mapSet (zone regime fallback : Byte) (offset : Half) (s : State) : State × Reply :=
  match zoneOf zone with
  | none => (s, refuse .field)
  | some z =>
    match mapRegime z regime with
    | none => (s, refuse .field)
    | some r =>
      match fallbackOf fallback with
      | none => (s, refuse .field)
      | some c =>
        if c = some (ownSensor z) then (s, refuse .field)
        else
          let p := storedPair c offset.toInt
          (s.setMap (s.map.storePair z r p.1),
            ⟨.ok, p.2, [byteOf (zoneCode z), byteOf (if z = .chill then regimeCode r else 0),
              byteOf (fallbackCode p.1)] ++ i16 (fallbackOffset p.1)⟩)

def execMapSet (zone regime fallback : Byte) (offset : Half) (s : State) : Host.Outcome State Fault Refusal :=
  .next (s.serve ([0x22, zone, regime, fallback] ++ halfBytes offset) (mapSet zone regime fallback offset))

/-! ### The commit (R117) -/

/-- Step 1: the shadow entry becomes active. -/
def ZoneMap.committed (m : ZoneMap) : ZoneMap :=
  { m with
    active := m.active.set .chill m.shadow
    regime := m.target.getD m.regime
    target := none
    step := none }

/-- A change of CHILL's holds still in flight is part of what the commit hands on (R117, log entry 20). -/
def State.withdrawChillChange (s : State) : State :=
  s.setEvents (s.events.filter fun e => match e with
    | .holdChange .chill _ => false
    | _ => true)

/-- Step 2: the hold table's part, unless start-up is set. -/
def State.commitChillHolds (s : State) (startUp : Bool) : State :=
  if startUp then s else s.commitHolds s.map.regime

/-- The commit (R117): entries, holds, end-of-TRANSIT evaluation, air handler, notice; start-up is then cleared (R121). -/
def State.commitRegime (s : State) : State :=
  let startUp := s.map.startUp
  let s1 := (s.setMap s.map.committed).commitChillHolds startUp
  let s2 := s1.withdrawChillChange.evaluateEndOfTransit.recomputeAir
  let s3 := if startUp then s2 else s2.raiseNotice .regimeDone
  s3.setMap { s3.map with startUp := false }

/-! ### The steps of a regime change (R115, R116) -/

/-- The flap side of the target regime, as the shadow entry carries it (R116). -/
def State.targetSide (s : State) : Path :=
  match s.map.shadow.actuator with
  | .damper p => p
  | _ => s.map.shadow.path

/-- Entry into FLAP (R116): a flap at rest on the side commits at once, any other is driven for 4 s (R162). -/
def State.enterFlap (s : State) : State :=
  let s1 := s.setMap { s.map with step := some .flap }
  if s.air.flapMotion = .atRest ∧ s.air.flapSide = some s.targetSide then s1.commitRegime
  else (s1.setAir { s1.air with flapMotion := .moving s.targetSide (s.now.plus 4) }).recomputeAir

/-- The damper at rest at 0 ends CLOSING (R115). -/
def State.closingEnds (s : State) : State :=
  if s.map.step = some .closing ∧ s.air.damperMotion = .atRest ∧ s.air.damperPos = 0 then s.enterFlap else s

/-- The shadow entry written for a regime (R114 step 1, R106). -/
def State.writeShadow (s : State) (r : Regime) : MapEntry :=
  chillEntry r (s.map.pairs.chill.get r) (s.entry .chill).weight (s.entry .chill).warmMargin

/-- A change that begins (R114 steps 1 to 4); a damper already at rest at 0 ends CLOSING within the request (R115). -/
def State.beginRegime (s : State) (r : Regime) : State :=
  let s1 := s.setMap { s.map with target := some r, shadow := s.writeShadow r, step := some .closing, startUp := false }
  s1.enterTransit.recomputeAir.closingEnds

/-- REGIME SET (R114). -/
def regimeSet (regime : Byte) (s : State) : State × Reply :=
  match regimeOf regime with
  | none => (s, refuse .field)
  | some r =>
    if s.inTransit then (s, refuse .busy)
    else if r = s.map.regime then (s, okReply [])
    else (s.beginRegime r, ⟨.accepted, false, []⟩)

def execRegimeSet (regime : Byte) (s : State) : Host.Outcome State Fault Refusal :=
  .next (s.serve [0x21, regime] (regimeSet regime))

/-! ### Arrivals -/

/-- DAMPER_ARRIVAL (R161): a moving damper that has reached its target comes to rest and is reported to the zone map. -/
def execDamperArrival (s : State) : Host.Outcome State Fault Refusal :=
  .next (if s.air.damperMotion = .moving ∧ s.air.damperPos = s.air.damperTarget then
      (s.setAir { s.air with damperMotion := .atRest }).closingEnds
    else s)

/-- The end of a flap drive (R162): the arrival is reported to the zone map, and the damper target is then recomputed
(R120). -/
def State.flapArrives (s : State) (dest : Path) : State :=
  let s1 := s.setAir { s.air with flapSide := some dest, flapMotion := .atRest }
  (if s.map.step = some .flap then s1.commitRegime else s1).recomputeAir

/-- Has a flap drive run its 4 s? Its destination. -/
def State.flapDue (s : State) : Option Path :=
  match s.air.flapMotion with
  | .atRest => none
  | .moving dest ends => if ends.toMs ≤ s.now.toMs then some dest else none

/-- FLAP_ARRIVAL (R162). -/
def execFlapArrival (s : State) : Host.Outcome State Fault Refusal :=
  .next (match s.flapDue with
    | some dest => s.flapArrives dest
    | none => s)

/-- The end of the damper's homing (R164): from position 0 it takes up the stored target. -/
def State.damperHomed (s : State) : State :=
  if s.air.damperTarget = 0 then (s.setAir { s.air with damperPos := 0, damperMotion := .atRest }).closingEnds
  else s.setAir { s.air with damperPos := 0, damperMotion := .moving }

/-- HOMING_END (R164): the motor's homing steps have all been issued. -/
def execHomingEnd (m : HomingMotor) (s : State) : Host.Outcome State Fault Refusal :=
  .next (match m, s.air.valveMotion, s.air.damperMotion with
    | .valve, .homing n, _ => if Config.valveHomingSteps ≤ n then s.valveHomed else s
    | .damper, _, .homing n => if Config.damperHomingSteps ≤ n then s.damperHomed else s
    | _, _, _ => s)

end Sys2Proof.Machine
end

