-- ==== Sys2Proof/Machine/StartUp.lean ====
section
/-! DEFINITION. The start-up sequence (R200) and the two resets that are commands: POWER_ON_RESET and
UPTIME_WRAP_RESTART. -/

namespace Sys2Proof.Machine

/-! ### The blocks as start-up sets them -/

/-- Step 3 (R30). -/
def startHolds (c : ImageContents) : HoldTable where
  slots := ⟨1, some (resetBase 0 .fresh c.bases.fresh.1 c.bases.fresh.2)⟩
    :: ⟨1, some (resetBase 1 .chill c.bases.chill.1 c.bases.chill.2)⟩
    :: ⟨1, some (resetBase 2 .freeze c.bases.freeze.1 c.bases.freeze.2)⟩ :: List.replicate 21 ⟨1, none⟩
  lists := ⟨[⟨0, 1⟩], [⟨1, 1⟩], [⟨2, 1⟩]⟩

/-- The CHILL entry of the loaded regime, active and shadow alike (R121). -/
def startChillEntry (c : Settings) : MapEntry :=
  chillEntry c.regime (c.pairs.chill.get c.regime) c.weights.chill c.margins.chill

/-- Step 4 (R121). -/
def startMap (c : Settings) : ZoneMap where
  active := ⟨freshEntry c.pairs.fresh c.weights.fresh c.margins.fresh, startChillEntry c,
    freezeEntry c.pairs.freeze c.weights.freeze c.margins.freeze⟩
  shadow := startChillEntry c
  pairs := c.pairs
  regime := c.regime
  target := some c.regime
  step := some .closing
  startUp := true
  defaultTargets := c.defaultTargets

/-- Step 4, the zone records (R32). -/
def startEvaluator (c : ImageContents) : Evaluator where
  zones := ⟨resetZone .satisfied 0 c.bases.fresh.1 c.bases.fresh.2 c.settings.weights.fresh,
    resetZone .transit 1 c.bases.chill.1 c.bases.chill.2 c.settings.weights.chill,
    resetZone .satisfied 2 c.bases.freeze.1 c.bases.freeze.2 c.settings.weights.freeze⟩
  paths := ⟨⟨0, false, none⟩, ⟨0, false, none⟩⟩
  demand := false
  trigger := ⟨.s0, .s1, .s2⟩
  excursionTime := c.settings.excursionTime
  blindLen := c.settings.blindLen
  blindUsed := c.settings.blindLen

/-- Step 6 (R126, R132, R141). -/
def startMeasurement (c : ImageContents) : Measurement where
  channels := ⟨resetChannel c.settings.shifts.s0, resetChannel c.settings.shifts.s1, resetChannel c.settings.shifts.s2,
    resetChannel c.settings.shifts.s3, resetChannel c.settings.shifts.s4, resetChannel c.settings.shifts.s5⟩
  corrections := c.corrections
  mains := ⟨.normal, 0, 0, 0, c.settings.sag, c.settings.recover⟩

/-- Step 9 (R86): `lockout` and `faults` are what survives of the arbiter. -/
def startArbiter (c : Settings) (lockout : Bool) (faults : Nat) : Arbiter where
  state := if lockout then .halted .lockout else .off
  startPath := none
  speed := 0
  speedTarget := 30
  valveTarget := Config.valveClosed
  inhibitRunning := true
  dwellMinMet := false
  dwellMaxMet := false
  resumePref := none
  stack := []
  faultCount := faults
  runSeconds := 0
  maxSpeed := c.maxSpeed

/-- Step 5 (R165); the air handler has taken the arbiter's state `path` (log entry 41). -/
def startAir (path : PathState) : Air where
  path := path
  ff := 0
  zf := 0
  cf := 0
  runFf := 0
  runZf := 0
  runCf := 0
  fanDelay := none
  damperPos := 0
  damperTarget := 0
  damperMotion := .homing 0
  flapSide := none
  flapMotion := .atRest
  valvePos := 0
  valveTarget := Config.valveClosed
  valveMotion := .homing 0

/-! ### The sequence (R200) -/

/-- The part right after a start-up sequence. The image stays as it is; a write in progress has left it bad (R198). No
hand-off or expiry is in flight (R175, log entry 29), and the commands that wait go on waiting (log entry 33). -/
def State.startUp (s : State) (straps : Straps) (lockout : Bool) (faults : Nat) : State :=
  let c := loadContents s.store.image
  { holds := startHolds c
    map := startMap c.settings
    meas := startMeasurement c
    doors := ⟨⟨resetDoor, resetDoor, resetDoor, resetDoor⟩, c.settings.rejection, c.settings.ajarTime⟩
    eval := startEvaluator c
    arb := startArbiter c.settings lockout faults
    drive := ⟨0, 0, false, 0, 0, none, false, .waiting, []⟩
    defrost := ⟨.idle, 0, c.settings.interval, false, 0, false, false⟩
    air := startAir (startArbiter c.settings lockout faults).state
    time := ⟨0, 0, [⟨.inhibit, ⟨300, 0⟩⟩], []⟩
    link := ⟨.hunt, .idle, false, none, none, [], false⟩
    notice := ⟨0, 0x7FF, false⟩
    store := ⟨s.store.image, none, s.store.image.isNone⟩
    straps := straps
    events := []
    pending := s.pending }

/-- A RESTART, or the restart of R168: a LOCKOUT and the fault count survive (R86). -/
def State.restart (s : State) (straps : Straps) : State :=
  s.startUp straps (decide (s.arb.state = .halted .lockout)) s.arb.faultCount

/-- POWER_ON_RESET (R200). -/
def execPowerOnReset (straps : Straps) (s : State) : Host.Outcome State Fault Refusal :=
  .next (s.startUp straps false 0)

/-- Is this the last instant of the uptime's range (R168)? -/
def State.atLastInstant (s : State) : Bool := decide (Config.uptimeMax ≤ s.time.uptime ∧ 999 ≤ s.time.ms)

/-- UPTIME_WRAP_RESTART (R168): the count passes the end of its range. -/
def execUptimeWrapRestart (straps : Straps) (s : State) : Host.Outcome State Fault Refusal :=
  .next (if s.atLastInstant then s.restart straps else s)

end Sys2Proof.Machine
end

