-- ==== Sys2Proof/Machine/Link.lean ====
section
/-! DEFINITION. The link port (chapter 10): frame assembly and judgement, the reply, IDENT, SYSTEM QUERY and RESTART. -/

namespace Sys2Proof.Machine

/-! ### Judging a frame (R181) -/

/-- The LEN that each request code requires (R185). -/
def requestLen (code : Byte) : Option Nat :=
  match code.toNat with
  | 0x01 => some 1
  | 0x02 => some 1
  | 0x03 => some 1
  | 0x10 => some 11
  | 0x11 => some 12
  | 0x12 => some 3
  | 0x13 => some 3
  | 0x14 => some 2
  | 0x20 => some 2
  | 0x21 => some 2
  | 0x22 => some 6
  | 0x30 => some 2
  | 0x31 => some 7
  | 0x32 => some 3
  | 0x40 => some 1
  | 0x41 => some 1
  | 0x42 => some 1
  | 0x50 => some 1
  | 0x51 => some 3
  | 0x60 => some 6
  | 0x61 => some 2
  | 0x62 => some 1
  | _ => none

/-- A reply formed by the link port itself (R181 rows 2 to 5, R182). -/
def State.refuseFrame (s : State) (st : Status) : State :=
  s.setLink { s.link with port := .serving, reply := some (refuse st) }

/-- A request is handed to its owning block (R181 row 6). -/
def State.handRequest (s : State) (request : List Byte) : State :=
  s.setLink { s.link with port := .serving, request := some request }

/-- What a frame of length LEN with these bytes after LEN asks for, the port being IDLE (R181 rows 3 to 6): a refusal, or
none for a request to hand on. `got` is CODE, the payload and CHECK. -/
def judgeFrame (len : Nat) (got : List Byte) : Option Status :=
  if byteOf len + byteSum got ≠ 0 then some .check
  else
    match requestLen (got.headD 0) with
    | none => some .unknown
    | some n => if n = len then none else some .length

/-- A complete frame (R181). -/
def State.completeFrame (s : State) (len : Nat) (got : List Byte) : State :=
  if s.link.port ≠ .idle then s.discardFrame
  else
    match judgeFrame len got with
    | some st => s.refuseFrame st
    | none => s.handRequest got.dropLast

/-- A LENGTH frame (R179, R181 rows 1 and 2). -/
def State.lengthFrame (s : State) : State := if s.link.port ≠ .idle then s.discardFrame else s.refuseFrame .length

/-! ### The receiver (R179) -/

def State.setRx (s : State) (rx : RxState) : State := s.setLink { s.link with rx := rx }

/-- A complete character. -/
def State.receive (s : State) (b : Byte) : State :=
  match s.link.rx with
  | .hunt => if b = 0x5C then s.setRx .count else s
  | .count =>
    if 1 ≤ b.toNat ∧ b.toNat ≤ 60 then s.setRx (.body b.toNat []) else (s.setRx .drain).lengthFrame
  | .body len got =>
    if len + 1 ≤ (got ++ [b]).length then (s.setRx .hunt).completeFrame len (got ++ [b])
    else s.setRx (.body len (got ++ [b]))
  | .drain => s

/-- CHARACTER_RECEIVED (R179). -/
def execCharacterReceived (b : Byte) (s : State) : Host.Outcome State Fault Refusal := .next (s.receive b)

/-- FRAMING_ERROR (R179): in COUNT and BODY the frame is dropped. -/
def execFramingError (s : State) : Host.Outcome State Fault Refusal :=
  .next (match s.link.rx with
    | .hunt => s
    | .count => s.setRx .drain
    | .body _ _ => s.setRx .drain
    | .drain => s)

/-- BYTE_GAP_TIMEOUT (R179): a gap of more than 4 ms drops a frame and ends DRAIN. -/
def execByteGapTimeout (s : State) : Host.Outcome State Fault Refusal := .next (s.setRx .hunt)

/-! ### Frames as a whole (log entry 4) -/

def refusalStatus : FrameRefusal → Status
  | .lengthFrame => .length
  | .length => .length
  | .check => .check
  | .unknown => .unknown

/-- The receiver after a whole refused frame (R179): a LENGTH frame leaves it in DRAIN; a frame received to its CHECK began
and ends in HUNT, so the receiver stands as it did. -/
def State.rxRefused (s : State) (why : FrameRefusal) : State :=
  match why with
  | .lengthFrame => s.setRx .drain
  | _ => s

/-- FRAME_REFUSED (R179, R181 rows 1 to 5). -/
def execFrameRefused (why : FrameRefusal) (s : State) : Host.Outcome State Fault Refusal :=
  .next (if s.link.port ≠ .idle then (s.rxRefused why).discardFrame
    else (s.rxRefused why).refuseFrame (refusalStatus why))

/-- OVERRUN (R183): a frame that completes while the port is SERVING or SENDING. -/
def execOverrun (s : State) : Host.Outcome State Fault Refusal :=
  .next (if s.link.port ≠ .idle then s.discardFrame else s)

/-! ### The reply (R180, R182, R184) -/

/-- The bytes from LEN on of a reply, CHECK last (R180). -/
def replyBody (r : Reply) (flags : Byte) : List Byte := byteOf (r.payload.length + 2) :: r.status.code :: flags :: r.payload

/-- A reply frame (R180). -/
def replyFrame (r : Reply) (flags : Byte) : List Byte := 0x5D :: (replyBody r flags ++ [checkOf (replyBody r flags)])

/-- Transmission begins: LINKFLAGS is formed, and OVERRUN is cleared (R184). -/
def State.beginReply (s : State) (r : Reply) : State :=
  s.setLink { s.link with
    port := .sending
    overrun := false
    reply := none
    tx := replyFrame r (linkFlags s.link.overrun s.notice.attn r.clamped) }

/-- REPLY_START (R182). -/
def execReplyStart (s : State) : Host.Outcome State Fault Refusal :=
  .next (match s.link.port, s.link.reply with
    | .serving, some r => s.beginReply r
    | _, _ => s)

/-- REPLY_SENT (R182): the CHECK byte has been sent; after RESTART's reply the part restarts (R189). -/
def execReplySent (straps : Straps) (s : State) : Host.Outcome State Fault Refusal :=
  .next (if s.link.port = .sending then
      if s.link.restarting then s.restart straps else s.setLink { s.link with port := .idle, tx := [] }
    else s)

/-! ### Requests of the link port -/

/-- The 7 bytes of IDENT (R188). -/
def State.identBytes (s : State) : List Byte :=
  u16 0x4856 ++ u16 0x0330 ++ [1, byteOf (bit s.straps.strap0 0 + bit s.straps.strap1 1), byteOf (bit s.store.defaulted 0)]

/-- IDENT (R188). -/
def ident (s : State) : State × Reply := (s, okReply s.identBytes)

def execIdent (s : State) : Host.Outcome State Fault Refusal := .next (s.serve [0x01] ident)

/-- A context of the protection stack, or none, in three bytes (R187). -/
def contextBytes : Option Context → List Byte
  | none => [0, 0, 0]
  | some (.path l) => [1, byteOf l.code, 0]
  | some (.holdoff n) => [2] ++ u16 n

/-- The flap's destination while MOVING (R187). -/
def FlapMotion.destCode : FlapMotion → Nat
  | .atRest => 0xFF
  | .moving d _ => pathIdx d

def FlapMotion.code : FlapMotion → Nat
  | .atRest => 0
  | .moving _ _ => 1

def Arbiter.bytes (a : Arbiter) : List Byte :=
  [byteOf a.state.code, byteOf a.state.haltCode, byteOf a.speed, byteOf (pathCode a.resumePref), byteOf a.stack.length]
    ++ contextBytes a.stack.reverse[0]? ++ contextBytes a.stack.reverse[1]? ++ [byteOf a.faultCount] ++ u16 a.runSeconds

def DriveLink.bytes (d : DriveLink) : List Byte :=
  [byteOf d.seq, byteOf d.miss, byteOf (bit d.silent 0), byteOf d.lastCode, byteOf d.actualSpeed]

def Defrost.bytes (d : Defrost) : List Byte :=
  [byteOf d.phase.code] ++ u32 d.accumulator ++ u32 d.interval ++ [byteOf (bit d.recovery 0)]

def Air.bytes (a : Air) : List Byte :=
  [byteOf a.ff, byteOf a.zf, byteOf a.cf, byteOf (fanDelayCode a.fanDelay)] ++ u16 a.damperPos ++ u16 a.damperTarget
    ++ [byteOf a.damperMotion.code, byteOf (flapSideCode a.flapSide), byteOf a.flapMotion.code,
      byteOf a.flapMotion.destCode, 0xFF, byteOf a.valvePos, byteOf a.valveTarget, byteOf a.valveMotion.code]

/-- The 50 bytes of SYSTEM QUERY (R187). -/
def State.systemBytes (s : State) : List Byte :=
  s.arb.bytes ++ s.drive.bytes ++ [byteOf s.meas.mains.state.code] ++ s.defrost.bytes ++ u32 s.time.uptime ++ s.air.bytes

/-- SYSTEM QUERY (R187). -/
def systemQuery (s : State) : State × Reply := (s, okReply s.systemBytes)

def execSystemQuery (s : State) : Host.Outcome State Fault Refusal := .next (s.serve [0x02] systemQuery)

/-- RESTART (R189): the part restarts when its reply has been sent. -/
def restartRequest (s : State) : State × Reply := (s.setLink { s.link with restarting := true }, okReply [])

def execRestart (s : State) : Host.Outcome State Fault Refusal := .next (s.serve [0x03] restartRequest)

end Sys2Proof.Machine
end

