-- ==== Sys2Proof/Machine/Measurement.lean ====
section
/-! DEFINITION. The measurement unit (chapter 6): conversion, correction slots, filter, fault states and reports of the six
channels, and the mains sense. -/

namespace Sys2Proof.Machine

/-! ### Conversion (R127, R128, R129) -/

/-- The class of a count (R127, log entry 39): none for a good conversion. -/
def badKind (count : Nat) : Option FaultKind :=
  if count < 48 then some .short else if 4047 < count then some .open_ else none

/-- Does the slot hold this channel and index? Its value. -/
def slotValue (c : Channel) (i : Nat) : Option Correction → Option Int
  | some k => if k.channel = c ∧ k.index = i then some k.value else none
  | none => none

/-- A channel's effective breakpoint (R129). -/
def breakpoint (slots : List (Option Correction)) (c : Channel) (i : Nat) : Int :=
  (slots.findSome? (slotValue c i)).getD (Config.breakpoints.getD i 0)

/-- The interpolation of a good count (R128). -/
def interpolate (b : Nat → Int) (count : Nat) : Int :=
  let i := count / 256
  b i + ((b (i + 1) - b i) * ((count % 256 : Nat) : Int) + 128) / 256

/-- A filter step: d divided by 2 to the power k, to the nearest, halves away from zero (R133). -/
def filterStep (k : Nat) (d : Int) : Int :=
  if k = 0 then d else d.sign * (((d.natAbs + 2 ^ (k - 1)) / 2 ^ k : Nat) : Int)

/-! ### Fault states (R135 to R137) -/

def ChannelRec.filtered (r : ChannelRec) (v : Int) : Int := r.f + filterStep r.shift (v - r.f)

/-- A good conversion to the value `v`. -/
def ChannelRec.good (r : ChannelRec) (v : Int) : ChannelRec :=
  match r.state with
  | .seeding => { r with state := .good, f := v, badRun := 0 }
  | .good => { r with f := r.filtered v, badRun := 0 }
  | .suspect => { r with state := .good, f := r.filtered v, badRun := 0 }
  | .faulted => { r with state := .recovering, goodRun := 1, badRun := 0 }
  | .recovering =>
    if 5 ≤ r.goodRun + 1 then { r with state := .good, goodRun := 0, f := v } else { r with goodRun := r.goodRun + 1 }

/-- A bad conversion; F is held. -/
def ChannelRec.bad (r : ChannelRec) : ChannelRec :=
  match r.state with
  | .seeding =>
    if 3 ≤ r.badRun + 1 then { r with state := .faulted, badRun := 3 } else { r with badRun := r.badRun + 1 }
  | .good => { r with state := .suspect, badRun := 1 }
  | .suspect =>
    if 3 ≤ r.badRun + 1 then { r with state := .faulted, badRun := 3 } else { r with badRun := r.badRun + 1 }
  | .faulted => { r with badRun := min 3 (r.badRun + 1) }
  | .recovering => { r with state := .faulted, goodRun := 0, badRun := 1 }

/-- Steps 1 to 4 of a conversion (R124). -/
def ChannelRec.afterCount (r : ChannelRec) (b : Nat → Int) (count : Nat) : ChannelRec :=
  match badKind count with
  | some k => ({ r with raw := count, faultKind := some k }).bad
  | none => ({ r with raw := count, converted := some (interpolate b count) }).good (interpolate b count)

/-- Every entry into FAULTED raises SENSOR_FAULT (R138). -/
def entersFaulted (before after : ChannelRec) : Bool :=
  decide (before.state ≠ .faulted ∧ after.state = .faulted)

/-! ### The report (R125) -/

/-- A zone whose trigger channel is reported is evaluated (R33). -/
def State.reportToZone (s : State) (c : Channel) (z : Zone) : State :=
  if s.eval.trigger.get z = c then s.hand (.oneSecond z (s.reportOf c)) else s

/-- The report's hand-offs to the defrost controller and the air handler. -/
def State.reportToOthers (s : State) (c : Channel) : State :=
  match c with
  | .s3 => s.hand (.s3Report (s.reportOf c))
  | .s4 => (s.hand (.s4Report (s.reportOf c))).hand (.airS4 (s.reportOf c))
  | .s5 => s.hand (.airS5 (s.reportOf c))
  | _ => s

/-- The report of a channel to each of its receivers. -/
def State.report (s : State) (c : Channel) : State :=
  (((s.reportToZone c .fresh).reportToZone c .chill).reportToZone c .freeze).reportToOthers c

/-- CHANNEL_CONVERSION (R124). -/
def execChannelConversion (c : Channel) (count : Nat) (s : State) : Host.Outcome State Fault Refusal :=
  let r := (s.channel c).afterCount (breakpoint s.meas.corrections c) count
  let s1 := s.setMeas { s.meas with channels := s.meas.channels.set c r }
  .next ((if entersFaulted (s.channel c) r then s1.raiseNotice .sensorFault else s1).report c)

/-! ### Correction slots (R130, R131) -/

/-- Are all 17 effective breakpoints of the channel strictly decreasing? -/
def decreasing (slots : List (Option Correction)) (c : Channel) : Bool :=
  (List.range 16).all fun i => decide (breakpoint slots c (i + 1) < breakpoint slots c i)

/-- The channels whose effective breakpoints a write of `new` over `old` would change (R130). -/
def touchedChannels (old new : Option Correction) : List Channel :=
  (old.map (·.channel)).toList ++ (new.map (·.channel)).toList

/-- Does a slot other than `slot` hold this channel and index (R130, check 3)? -/
def heldElsewhere (slots : List (Option Correction)) (slot : Nat) (k : Correction) : Bool :=
  (List.range 4).any fun i => decide (i ≠ slot) && (slotValue k.channel k.index (slots.getD i none)).isSome

/-- The slot as it now stands (R131, R185). -/
def correctionBytes (slot : Nat) : Option Correction → List Byte
  | none => [byteOf slot, 0, 0, 0] ++ i16 0
  | some k => [byteOf slot, 1, byteOf (channelCode k.channel), byteOf k.index] ++ i16 k.value

/-- Check 5 and the write (R130, R131). -/
def State.writeCorrection (s : State) (slot : Nat) (k : Option Correction) : State × Reply :=
  let slots := s.meas.corrections.set slot k
  if (touchedChannels (s.meas.corrections.getD slot none) k).all (decreasing slots) then
    (s.setMeas { s.meas with corrections := slots }, okReply (correctionBytes slot k))
  else (s, refuse .nonmonotonic)

/-- CORRECTION SET's checks in order (R130), then R131. -/
def correctionSet (slot op channel index : Byte) (value : Half) (s : State) : State × Reply :=
  if 3 < slot.toNat ∨ 1 < op.toNat then (s, refuse .field)
  else if op = 0 then s.writeCorrection slot.toNat none
  else
    match channelOf channel with
    | none => (s, refuse .field)
    | some c =>
      let k : Correction := ⟨c, index.toNat, value.toInt⟩
      if 16 < index.toNat then (s, refuse .field)
      else if heldElsewhere s.meas.corrections slot.toNat k then (s, refuse .duplicate)
      else if k.value < Config.tempMin ∨ Config.tempMax < k.value then (s, refuse .nonmonotonic)
      else s.writeCorrection slot.toNat (some k)

def execCorrectionSet (slot op channel index : Byte) (value : Half) (s : State) : Host.Outcome State Fault Refusal :=
  .next (s.serve ([0x31, slot, op, channel, index] ++ halfBytes value) (correctionSet slot op channel index value))

/-! ### SENSOR QUERY (R139) -/

/-- The correction slots that name the channel, each with its number (R139). The model's choice: they are listed by rising
slot number, where R139 and R185 give no order (log entry 43). -/
def correctionsOf (slots : List (Option Correction)) (c : Channel) : List (Nat × Correction) :=
  (List.range 4).filterMap fun i =>
    match slots.getD i none with
    | some k => if k.channel = c then some (i, k) else none
    | none => none

def State.channelBytes (s : State) (c : Channel) : List Byte :=
  let r := s.channel c
  let ks := correctionsOf s.meas.corrections c
  [byteOf (channelCode c), byteOf r.state.code] ++ u16 r.raw
    ++ [byteOf (faultKindCode r.faultKind), byteOf (bit r.converted.isSome 0)] ++ i16 (r.converted.getD 0) ++ i16 r.f
    ++ [byteOf r.badRun, byteOf r.goodRun, byteOf r.shift, byteOf ks.length]
    ++ ks.flatMap fun k => [byteOf k.1, byteOf k.2.index] ++ i16 k.2.value

def Mains.bytes (m : Mains) : List Byte :=
  [6] ++ u16 m.sample ++ [byteOf m.state.code, byteOf m.lowRun, byteOf m.highRun] ++ u16 m.sag ++ u16 m.recover

/-- SENSOR QUERY (R139): code 6 is MS. -/
def sensorQuery (channel : Byte) (s : State) : State × Reply :=
  if channel = 6 then (s, okReply s.meas.mains.bytes)
  else
    match channelOf channel with
    | none => (s, refuse .field)
    | some c => (s, okReply (s.channelBytes c))

def execSensorQuery (channel : Byte) (s : State) : Host.Outcome State Fault Refusal :=
  .next (s.serve [0x30, channel] (sensorQuery channel))

/-! ### Mains sense (R140) -/

/-- One sample: the record that follows, and the state it declares, if any. -/
def Mains.sampled (m : Mains) (count : Nat) : Mains × Option MainsState :=
  match m.state with
  | .normal =>
    if count < m.sag then
      if 2 ≤ m.lowRun + 1 then ({ m with sample := count, state := .sag, lowRun := 0, highRun := 0 }, some .sag)
      else ({ m with sample := count, lowRun := m.lowRun + 1 }, none)
    else ({ m with sample := count, lowRun := 0 }, none)
  | .sag =>
    if count < m.recover then ({ m with sample := count, highRun := 0 }, none)
    else if 50 ≤ m.highRun + 1 then
      ({ m with sample := count, state := .normal, lowRun := 0, highRun := 0 }, some .normal)
    else ({ m with sample := count, highRun := m.highRun + 1 }, none)

/-- MAINS_SAMPLE (R140): a declaration is handed to the arbiter. -/
def execMainsSample (count : Nat) (s : State) : Host.Outcome State Fault Refusal :=
  let r := s.meas.mains.sampled count
  let s1 := s.setMeas { s.meas with mains := r.1 }
  .next (match r.2 with
    | some m => s1.hand (.mains m)
    | none => s1)

end Sys2Proof.Machine
end

