-- ==== Sys2Proof/Machine/Notices.lean ====
section
/-! DEFINITION. The notice unit (section 10.5). -/

namespace Sys2Proof.Machine

/-- A raise sets the pending flag and ATTN is judged anew (R190). -/
def NoticeUnit.raised (u : NoticeUnit) (n : Notice) : NoticeUnit := { u with pending := u.pending ||| noticeBit n }.judged

/-- NOTICE_RAISE (R190, R192): a raise of the kind is taken. -/
def execNoticeRaise (n : Notice) (s : State) : Host.Outcome State Fault Refusal :=
  .next (s.takeEvent (onlyEvent (.raise n)) fun _ s1 => s1.setNotice (s1.notice.raised n))

/-- The kind of highest priority that is both pending and enabled (R192). -/
def NoticeUnit.first (u : NoticeUnit) : Option Notice := noticeOrder.find? fun n => noticeIn n (u.pending &&& u.enabled)

/-- The collection of a kind (R192). -/
def NoticeUnit.collected (u : NoticeUnit) (n : Notice) : NoticeUnit :=
  { u with pending := u.pending &&& ~~~noticeBit n }.judged

/-- NOTICE NEXT (R192). -/
def noticeNext (s : State) : State × Reply :=
  match s.notice.first with
  | none => (s, okReply [0])
  | some n => (s.setNotice (s.notice.collected n), okReply [byteOf (noticeCode n)])

def execNoticeNext (s : State) : Host.Outcome State Fault Refusal := .next (s.serve [0x50] noticeNext)

/-- The mask replaces the enable flags; bits 11 to 15 are ignored (R191). -/
def NoticeUnit.enabledBy (u : NoticeUnit) (mask : Half) : NoticeUnit := { u with enabled := mask.setWidth 11 }.judged

/-- NOTICE ENABLE (R191). -/
def noticeEnable (mask : Half) (s : State) : State × Reply :=
  let u := s.notice.enabledBy mask
  (s.setNotice u, okReply (halfBytes (u.enabled.setWidth 16) ++ halfBytes (u.pending.setWidth 16)))

def execNoticeEnable (mask : Half) (s : State) : Host.Outcome State Fault Refusal :=
  .next (s.serve ([0x51] ++ halfBytes mask) (noticeEnable mask))

end Sys2Proof.Machine
end

