-- ==== Sys2Proof/Machine/Timebase.lean ====
section
/-! DEFINITION. The timebase (chapter 9): a deadline that falls due, and what the part's clock does while no command
waits (log entry 1). -/

namespace Sys2Proof.Machine

/-- DEADLINE_FALLS_DUE (R172). -/
def execDeadlineFallsDue (s : State) : Host.Outcome State Fault Refusal := .next s.entryFallsDue

/-- The clock moves by one millisecond; at a second boundary the trigger channels are those that then hold (R167, R33).
At the last instant of the range the clock stands until the restart of R168 (log entry 2). -/
def State.tickClock (s : State) : State :=
  if s.time.ms < 999 then s.setTime { s.time with ms := s.time.ms + 1 }
  else if s.atLastInstant then s
  else (s.setTime { s.time with uptime := s.time.uptime + 1, ms := 0 }).latchTriggers

/-- Has a store run its 400 ms (R198)? -/
def State.storeDue (s : State) : Option StoreWrite :=
  match s.store.writing with
  | none => none
  | some w => if w.began.toMs + 400 ≤ s.now.toMs then some w else none

/-- What happens while no command waits (log entry 1): what is due at this instant (R172, R162, R198), and otherwise a
millisecond of the clock. -/
def State.idle (s : State) : State :=
  if s.entryDue then s.entryFallsDue
  else
    match s.flapDue with
    | some dest => s.flapArrives dest
    | none =>
      match s.storeDue with
      | some w => s.endStore w
      | none => s.tickClock

end Sys2Proof.Machine
end

