-- ==== Sys2Proof/Machine/Dispatch.lean ====
section
/-! DEFINITION. One arm for each command. -/

namespace Sys2Proof.Machine

def exec (i : Instr) (s : State) : Host.Outcome State Fault Refusal :=
  match i with
  | .powerOnReset straps => Sys2Proof.Machine.execPowerOnReset straps s
  | .uptimeWrapRestart straps => Sys2Proof.Machine.execUptimeWrapRestart straps s
  | .ident => Sys2Proof.Machine.execIdent s
  | .systemQuery => Sys2Proof.Machine.execSystemQuery s
  | .restart => Sys2Proof.Machine.execRestart s
  | .holdOpen zone kind target halfBand priority flags minutes floor => Sys2Proof.Machine.execHoldOpen zone kind target halfBand priority flags minutes floor s
  | .holdAmend slot gen mask target halfBand priority minutes floor reach => Sys2Proof.Machine.execHoldAmend slot gen mask target halfBand priority minutes floor reach s
  | .holdRetire slot gen => Sys2Proof.Machine.execHoldRetire slot gen s
  | .holdQuery slot gen => Sys2Proof.Machine.execHoldQuery slot gen s
  | .holdList zone => Sys2Proof.Machine.execHoldList zone s
  | .zoneQuery zone => Sys2Proof.Machine.execZoneQuery zone s
  | .regimeSet regime => Sys2Proof.Machine.execRegimeSet regime s
  | .mapSet zone regime fallback offset => Sys2Proof.Machine.execMapSet zone regime fallback offset s
  | .sensorQuery channel => Sys2Proof.Machine.execSensorQuery channel s
  | .correctionSet slot op channel index value => Sys2Proof.Machine.execCorrectionSet slot op channel index value s
  | .doorQuery door clear => Sys2Proof.Machine.execDoorQuery door clear s
  | .defrostNow => Sys2Proof.Machine.execDefrostNow s
  | .defrostCancel => Sys2Proof.Machine.execDefrostCancel s
  | .clearLockout => Sys2Proof.Machine.execClearLockout s
  | .noticeNext => Sys2Proof.Machine.execNoticeNext s
  | .noticeEnable mask => Sys2Proof.Machine.execNoticeEnable mask s
  | .settingsWrite item value => Sys2Proof.Machine.execSettingsWrite item value s
  | .settingsRead item => Sys2Proof.Machine.execSettingsRead item s
  | .settingsStore => Sys2Proof.Machine.execSettingsStore s
  | .storeWriteEnd => Sys2Proof.Machine.execStoreWriteEnd s
  | .frameRefused why => Sys2Proof.Machine.execFrameRefused why s
  | .overrun => Sys2Proof.Machine.execOverrun s
  | .framingError => Sys2Proof.Machine.execFramingError s
  | .byteGapTimeout => Sys2Proof.Machine.execByteGapTimeout s
  | .replyStart => Sys2Proof.Machine.execReplyStart s
  | .replySent straps => Sys2Proof.Machine.execReplySent straps s
  | .holdExpiry slot => Sys2Proof.Machine.execHoldExpiry slot s
  | .holdChangeEvaluation zone => Sys2Proof.Machine.execHoldChangeEvaluation zone s
  | .channelConversion channel count => Sys2Proof.Machine.execChannelConversion channel count s
  | .oneSecondEvaluation zone => Sys2Proof.Machine.execOneSecondEvaluation zone s
  | .blindHalf zone => Sys2Proof.Machine.execBlindHalf zone s
  | .doorSample door a b c => Sys2Proof.Machine.execDoorSample door a b c s
  | .doorAjar door => Sys2Proof.Machine.execDoorAjar door s
  | .doorChangeEvaluation door => Sys2Proof.Machine.execDoorChangeEvaluation door s
  | .airRecompute kind => Sys2Proof.Machine.execAirRecompute kind s
  | .fanDelay => Sys2Proof.Machine.execFanDelay s
  | .damperArrival => Sys2Proof.Machine.execDamperArrival s
  | .flapArrival => Sys2Proof.Machine.execFlapArrival s
  | .homingEnd motor => Sys2Proof.Machine.execHomingEnd motor s
  | .valveArrival => Sys2Proof.Machine.execValveArrival s
  | .startCompletion => Sys2Proof.Machine.execStartCompletion s
  | .releaseEnd => Sys2Proof.Machine.execReleaseEnd s
  | .arbiterReview => Sys2Proof.Machine.execArbiterReview s
  | .pumpdownStage => Sys2Proof.Machine.execPumpdownStage s
  | .holdoffStage => Sys2Proof.Machine.execHoldoffStage s
  | .recoveryStage => Sys2Proof.Machine.execRecoveryStage s
  | .inhibit => Sys2Proof.Machine.execInhibit s
  | .dwellMin => Sys2Proof.Machine.execDwellMin s
  | .dwellMax => Sys2Proof.Machine.execDwellMax s
  | .speedStep => Sys2Proof.Machine.execSpeedStep s
  | .driveLinkTick => Sys2Proof.Machine.execDriveLinkTick s
  | .statusFrame seq actual code check => Sys2Proof.Machine.execStatusFrame seq actual code check s
  | .mainsSample count => Sys2Proof.Machine.execMainsSample count s
  | .arbiterSag => Sys2Proof.Machine.execArbiterSag s
  | .arbiterNormal => Sys2Proof.Machine.execArbiterNormal s
  | .arbiterChangeToDefrost => Sys2Proof.Machine.execArbiterChangeToDefrost s
  | .defrostS4Report => Sys2Proof.Machine.execDefrostS4Report s
  | .pendingLimit => Sys2Proof.Machine.execPendingLimit s
  | .prechillPhaseExpiry => Sys2Proof.Machine.execPrechillPhaseExpiry s
  | .heatPhaseExpiry => Sys2Proof.Machine.execHeatPhaseExpiry s
  | .dripPhaseExpiry => Sys2Proof.Machine.execDripPhaseExpiry s
  | .recoverPhaseExpiry => Sys2Proof.Machine.execRecoverPhaseExpiry s
  | .coilS3Report => Sys2Proof.Machine.execCoilS3Report s
  | .coilRecovery => Sys2Proof.Machine.execCoilRecovery s
  | .coilRecoveryCutShort => Sys2Proof.Machine.execCoilRecoveryCutShort s
  | .deadlineFallsDue => Sys2Proof.Machine.execDeadlineFallsDue s
  | .noticeRaise kind => Sys2Proof.Machine.execNoticeRaise kind s
  | .characterReceived b => Sys2Proof.Machine.execCharacterReceived b s
  | .driveReceiverByte c => Sys2Proof.Machine.execDriveReceiverByte c s
  | .damperStep => Sys2Proof.Machine.execDamperStep s
  | .valveStep => Sys2Proof.Machine.execValveStep s
  | .pwmPeriodBoundary => Sys2Proof.Machine.execPwmPeriodBoundary s

end Sys2Proof.Machine
end

