-- ==== Sys2Proof/Safety.lean ====
section
/-! DEFINITION. What a safe state is: the invariants that every step keeps, and the terms the statements use. -/

namespace Sys2Proof.Safety

open Sys2Proof.Machine

/-! ### Heater, ATTN, speed, stack -/

/-- The heater is on exactly in HEAT (R87, R94). -/
abbrev HeaterSafe (s : State) : Prop := s.defrost.heater = true ↔ s.defrost.phase = .heat

/-- ATTN is asserted exactly when a kind is both pending and enabled (R190). -/
abbrev AttnSafe (s : State) : Prop := s.notice.attn = true ↔ s.notice.pending &&& s.notice.enabled ≠ 0

/-- The commanded speed is 0 unless the path state runs the compressor, and then 30 to 100, in PUMPDOWN 40 (R57), with the
maximum-speed setting and the speed target in their ranges (R73, R56). -/
abbrev SpeedSafe (s : State) : Prop :=
  (s.arb.state.commandsRun = false → s.arb.speed = 0) ∧
  (s.arb.state.commandsRun = true → 30 ≤ s.arb.speed ∧ s.arb.speed ≤ 100) ∧
  (s.arb.state = .pumpdown → s.arb.speed = 40) ∧
  (30 ≤ s.arb.speedTarget ∧ s.arb.speedTarget ≤ 100) ∧ (60 ≤ s.arb.maxSpeed ∧ s.arb.maxSpeed ≤ 100)

/-- The shapes of the protection stack that each path state admits (R78): empty outside a halt and in LOCKOUT, one path
context in HALTED(FAULT), and in HALTED(SAG) a path context with or without a holdoff of at least 1 s above it. -/
def stackShape : PathState → List Context → Bool
  | .halted .fault, [.path _] => true
  | .halted .fault, _ => false
  | .halted .sag, [.path _] => true
  | .halted .sag, [.holdoff n, .path _] => decide (1 ≤ n)
  | .halted .sag, _ => false
  | _, [] => true
  | _, _ => false

/-- The protection stack has the shape of the path state (R78), and the fault count is at most 3 (R56). -/
abbrev StackSafe (s : State) : Prop := stackShape s.arb.state s.arb.stack = true ∧ s.arb.faultCount ≤ 3

/-! ### Zones -/

/-- A zone's urgency is at most 9999, and 0 when it is SATISFIED or in TRANSIT (R45); its wait age and grace count lie in
their ranges (R31), and only CHILL is ever in TRANSIT. -/
abbrev ZoneSafe (r : ZoneRec) : Prop :=
  r.urgency ≤ 9999 ∧ (r.state = .satisfied ∨ r.state = .transit → r.urgency = 0) ∧ r.waitAge ≤ 1800 ∧ r.grace ≤ 600

/-- Every zone urgency and path urgency is in range (R45). -/
abbrev UrgencySafe (s : State) : Prop :=
  ZoneSafe s.eval.zones.fresh ∧ ZoneSafe s.eval.zones.chill ∧ ZoneSafe s.eval.zones.freeze ∧
  s.eval.paths.fresh.urgency ≤ 9999 ∧ s.eval.paths.freeze.urgency ≤ 9999

/-- CHILL is in TRANSIT exactly while a transit step is present, and FRESH and FREEZE never are (R112, R31). -/
abbrev TransitSafe (s : State) : Prop :=
  (s.eval.zones.chill.state = .transit ↔ s.map.step ≠ none) ∧ s.eval.zones.fresh.state ≠ .transit ∧
  s.eval.zones.freeze.state ≠ .transit

/-- The accumulator and the interval lie in their ranges (R87). -/
abbrev DefrostSafe (s : State) : Prop :=
  s.defrost.accumulator ≤ 999999 ∧ 21600 ≤ s.defrost.interval ∧ s.defrost.interval ≤ 259200

/-! ### The deadline list -/

/-- The list is ordered by due instant (R169), and no kind and owner stands twice among its entries and the expiries in
flight (R169, R170, R172). -/
abbrev DeadlinesSafe (s : State) : Prop :=
  s.time.deadlines.Pairwise (fun a b => a.due.toMs ≤ b.due.toMs) ∧
  ((s.time.deadlines ++ s.time.expiries).map (·.key)).Nodup

/-! ### Valve and freezer coil -/

/-- The valve target that a path state and a start in progress ask for (R57). -/
def valveAim : PathState → Option Path → Nat
  | .runFresh, _ => 0
  | .runFreeze, _ => 120
  | .off, some .fresh => 0
  | .off, some .freeze => 120
  | _, _ => 60

/-- The steps of a homing valve and its position agree (R164). -/
def homingAgrees : Motion → Nat → Bool
  | .homing n, pos => decide (n ≤ 200 ∧ pos = n - 140)
  | _, pos => decide (pos ≤ 120)

/-- The arbiter's valve target is the one the path state asks for, the air handler's is one of the three rests, a start is
in progress only in OFF, and a valve at rest is at the target the air handler has taken (R57, R163). -/
abbrev ValveSafe (s : State) : Prop :=
  (s.air.valveTarget = 0 ∨ s.air.valveTarget = 60 ∨ s.air.valveTarget = 120) ∧
  s.arb.valveTarget = valveAim s.arb.state s.arb.startPath ∧
  (s.arb.state ≠ .off → s.arb.startPath = none) ∧ (s.air.valveMotion = .atRest → s.air.valvePos = s.air.valveTarget) ∧
  homingAgrees s.air.valveMotion s.air.valvePos = true

/-- The refrigerant is off the freezer coil: the path state is not RUN_FREEZE, the valve is not aimed at the FREEZE end by
either block and lies between the FRESH end and CLOSED (R94). -/
abbrev OffCoil (s : State) : Prop :=
  s.arb.state ≠ .runFreeze ∧ s.arb.valveTarget ≠ 120 ∧ s.air.valveTarget ≠ 120 ∧ s.air.valvePos ≤ 60

/-- The refrigerant is kept out of the freezer coil in HEAT and DRIP (R94). -/
abbrev CoilSafe (s : State) : Prop :=
  ValveSafe s ∧ (s.defrost.phase = .heat ∨ s.defrost.phase = .drip → OffCoil s)

/-! ### Damper and flap -/

/-- The side a moving flap is driven to (R162). -/
def flapDest : FlapMotion → Option Path
  | .atRest => none
  | .moving d _ => some d

/-- The damper is at position 0 whenever the flap moves, and outside TRANSIT the flap rests on the side of CHILL's path
(R162), with what keeps it so: the damper target is 0 while a transit step is present (R115), a damper at rest is at its
target and a homing one reads 0 (R161, R164), a CHILL entry's flap side is its path (R113), and the flap moves exactly in
step FLAP, to the side of the target regime (R116). -/
abbrev DamperSafe (s : State) : Prop :=
  (flapDest s.air.flapMotion ≠ none → s.air.damperPos = 0) ∧
  (s.map.step = none → s.air.flapMotion = .atRest ∧ s.air.flapSide = some s.map.active.chill.path) ∧
  (s.map.step ≠ none → s.air.damperTarget = 0) ∧
  (s.air.damperMotion = .atRest → s.air.damperPos = s.air.damperTarget) ∧
  (s.air.damperMotion ≠ .atRest → s.air.damperMotion ≠ .moving → s.air.damperPos = 0) ∧
  (s.air.damperPos ≤ 400 ∧ s.air.damperTarget ≤ 400) ∧
  s.map.active.chill.actuator = .damper s.map.active.chill.path ∧ s.map.shadow.actuator = .damper s.map.shadow.path ∧
  (s.map.step = some .flap → flapDest s.air.flapMotion = some s.map.shadow.path ∧ s.air.damperMotion = .atRest) ∧
  (s.map.step ≠ some .flap → s.air.flapMotion = .atRest)

/-! ### Holds -/

/-- Does the slot at index `i` stand as R1 to R3 have it: its generation lies in 1 to 255, a record's handle is its number and
generation, and only slots 0 to 2 hold a BASE record? -/
def slotAgrees (slots : List Slot) (i : Nat) : Bool :=
  match slots[i]? with
  | some sl =>
    decide (1 ≤ sl.generation) && decide (sl.generation ≤ 255) &&
      match sl.hold with
      | some h => decide (h.handle = ⟨i, sl.generation⟩) && decide (i < 3 ∨ h.kind ≠ .base)
      | none => true
  | none => true

/-- The zone's BASE hold stands in its slot, has not lapsed, carries neither expiry nor lapse-on-reach (R1, R2), and its
handle is in the zone's list (R4). -/
def baseStands (t : HoldTable) (z : Zone) : Bool :=
  (match t.named ⟨baseSlot z, 1⟩ with
    | some h =>
      decide (h.kind = .base) && decide (h.zone = z) && !h.state.isLapsed && !h.lapseOnReach && h.expiry.isNone
    | none => false) && decide (⟨baseSlot z, 1⟩ ∈ t.lists.get z)

/-- A HOLD_EXPIRY names one of the slots 3 to 23 (R169). -/
def namesOpenSlot (d : Deadline) : Bool :=
  match d.key with
  | .holdExpiry i => decide (3 ≤ i)
  | _ => true

/-- A record with the state that R5 gives it in `t`: of the zone's holds that are not LAPSED, the first in the zone's list is
EFFECTIVE and every other is SHADOWED. A LAPSED record, and one of another zone, stands as it is. -/
def asResolved (t : State) (z : Zone) (h : Hold) : Hold :=
  if h.zone = z ∧ h.state.isLapsed = false then
    { h with state := if (t.effectiveHold z).map (·.handle) = some h.handle then .effective else .shadowed }
  else h

/-- The zone's list names records of the zone, each once, the higher priority first (R4). -/
def listOrdered (t : HoldTable) (z : Zone) : Bool :=
  decide (t.lists.get z).Nodup
    && ((t.lists.get z).all fun x => match t.named x with
      | some h => decide (h.zone = z)
      | none => false)
    && decide ((((t.lists.get z).filterMap t.named).map (·.priority)).Pairwise (fun a b => b ≤ a))

/-- The record's handle stands in its zone's list (R4), and its state is the one R5 gives it. -/
def recordStands (s : State) (h : Hold) : Bool :=
  decide (h.handle ∈ s.holds.lists.get h.zone) && decide (asResolved s h.zone h = h)

/-- Each zone's list holds its zone's records, each once, in the order of R4, and each record has the state of R5. -/
abbrev ListsSafe (s : State) : Prop :=
  (listOrdered s.holds .fresh = true ∧ listOrdered s.holds .chill = true ∧ listOrdered s.holds .freeze = true) ∧
  (s.holds.slots.filterMap (·.hold)).all (recordStands s) = true

/-- The three BASE holds occupy their slots at all times and no other record is BASE, the slots stand as R1 to R3 have them,
and lists and records agree (R4, R5). -/
abbrev BaseSafe (s : State) : Prop :=
  (baseStands s.holds .fresh = true ∧ baseStands s.holds .chill = true ∧ baseStands s.holds .freeze = true) ∧
  (s.holds.slots.length = 24 ∧ (List.range 24).all (slotAgrees s.holds.slots) = true) ∧
  (s.time.deadlines ++ s.time.expiries).all namesOpenSlot = true ∧ ListsSafe s

/-! ### Terms of the statements: deadlines -/

/-- The clock stands, and the entries and expiries of every other kind and owner stay, in their order (R171). -/
abbrev TimeKept (keys : List DeadlineKey) (s t : State) : Prop :=
  let others (l : List Deadline) : List Deadline := l.filter fun d => decide (d.key ∉ keys)
  t.time.uptime = s.time.uptime ∧ t.time.ms = s.time.ms ∧ others t.time.deadlines = others s.time.deadlines ∧
  others t.time.expiries = others s.time.expiries

/-- No entry and no expiry in flight is of one of these kinds and owners. -/
abbrev NoneOf (keys : List DeadlineKey) (t : State) : Prop :=
  ∀ e ∈ t.time.deadlines ++ t.time.expiries, e.key ∉ keys

/-- The entry of `k` stands in the list, due `secs` seconds after the present instant (R170). -/
abbrev DueAfter (k : DeadlineKey) (secs : Nat) (s t : State) : Prop :=
  ⟨k, ⟨s.time.uptime + secs, s.time.ms⟩⟩ ∈ t.time.deadlines

/-! ### Terms of the statements: holds -/

/-- What the hold table hands on when the holds of `s` have become those of `t`: nothing, or what now governs the zone where
that has changed (R6). -/
def governmentHanded (s t : State) (z : Zone) : List Handoff :=
  match t.governing z with
  | some g => if s.governing z = some g then [] else [.holdChange z g]
  | none => []

/-- The list `l'` is `l` with the handle entered at the first place among the holds of its priority (R4): each before it has a
higher priority, and the next its own or a lower one. -/
abbrev EntersAt (t : HoldTable) (priority : Nat) (hd : Handle) (l l' : List Handle) : Prop :=
  ∃ k ≤ l.length, l' = l.take k ++ hd :: l.drop k ∧
    (∀ x ∈ l.take k, ∀ h ∈ t.named x, priority < h.priority) ∧
    (∀ x ∈ (l.drop k).head?, ∀ h ∈ t.named x, h.priority ≤ priority)

/-! ### Terms of the statements: evaluations -/

/-- The call that step 3 decides outside TRANSIT: by the BLIND half (R39), kept while F gives no test (R35, R32), judged afresh
(R37), or by the two limits (R41). -/
def callDue (r : ZoneRec) (afresh untested : Bool) : Bool :=
  if r.source = .blind then decide (r.half = some .call)
  else if untested then r.calls
  else if r.calls && !afresh then decide (r.t - r.h < r.f)
  else decide (r.t + r.h ≤ r.f)

/-- Steps 3 to 6 of an evaluation that decides the call `call` on the record `r` of the zone (R41 to R45, R39, R53): state,
wait age (raised where `second` says a one-second evaluation), excess, urgency and SAT. -/
abbrev Settles (s t : State) (z : Zone) (r : ZoneRec) (call second : Bool) : Prop :=
  let r' := t.zone z
  let served := s.arb.state.runs (s.entry z).path = true ∧ r.doorPaused = false ∧ s.delivering (s.entry z).actuator = true
  let kept := if r.state = .calling then r.waitAge else 0
  let u := r.weight * r'.excess + r'.waitAge / 6
  (r.state = .transit → r'.state = .transit) ∧
  (r.state ≠ .transit → (call = false → r'.state = .satisfied) ∧ (call = true → served → r'.state = .cooling) ∧
    (call = true → ¬ served → r'.state = .calling)) ∧
  r'.waitAge = (if r'.state ≠ .calling then 0 else if second then min 1800 (kept + 1) else kept) ∧
  r'.excess = (r.f - r.t + r.h).toNat ∧
  (r'.urgency, r'.sat) = (if r'.calls = false then (0, false) else if r.source = .blind then (200, false)
    else (min 9999 u, decide (9999 < u)))

/-- The zones that the map places on a path (R46). -/
def membersOf (t : State) (p : Path) : List Zone :=
  [Zone.fresh, .chill, .freeze].filter fun z => decide ((t.entry z).path = p)

/-- The path's record is the one its members give (R46): the sum of their urgencies held at 9999, SAT where it passes that,
and as floor the largest floor of a calling member, absent where none has one. -/
abbrev PathFormed (t : State) (p : Path) : Prop :=
  let r := t.eval.paths.get p
  let sum := ((membersOf t p).map fun z => (t.zone z).urgency).sum
  r.urgency = min 9999 sum ∧ (r.sat = true ↔ 9999 < sum) ∧
  (∀ v ∈ r.floor, ∃ z ∈ membersOf t p, (t.zone z).calls = true ∧ (t.zone z).floor = some v) ∧
  (∀ z ∈ membersOf t p, (t.zone z).calls = true → ∀ v ∈ (t.zone z).floor, ∃ w ∈ r.floor, v ≤ w)

/-- What an evaluation of the zone leaves beside its record: its path's record formed anew and the other as it was (R46), and
the cooling demand, which a CHILL evaluation recomputes from its three conditions (R43). -/
abbrev EndsEvaluation (s t : State) (z : Zone) : Prop :=
  PathFormed t (s.entry z).path ∧ (∀ p, p ≠ (s.entry z).path → t.eval.paths.get p = s.eval.paths.get p) ∧
  t.eval.demand = (if z = .chill then (t.zone .chill).calls && s.arb.state.runs (s.entry .chill).path
    && !(t.zone .chill).doorPaused else s.eval.demand)

/-- What an evaluation of the zone hands on last: CHILL's excess and demand (R120), then the path figures, to the arbiter and
the air handler, and to the defrost controller where the FRESH urgency is 1500 or more (R46, R104). -/
def handedOn (t : State) (z : Zone) : List Handoff :=
  (if z = .chill then [.airDrawer] else []) ++ [.review, .airUrgencies]
    ++ (if 1500 ≤ t.eval.paths.fresh.urgency then [.cutShort t.eval.paths.fresh.urgency] else [])

/-- Is the zone suppressed (R49)? -/
def suppressedIn (s : State) (z : Zone) : Bool :=
  ((s.entry z).doors.any fun d => decide ((s.door d).state ≠ .closed)) || decide (0 < (s.zone z).grace)
    || (decide ((s.entry z).path = .freeze)
      && decide (s.defrost.phase = .heat ∨ s.defrost.phase = .drip ∨ s.defrost.phase = .recover))

/-- The source and F that R35 gives for the readings `now` of the channels' states and values, `f` being the last value. -/
def sourceDue (now : Channel → ChannelState × Int) (e : MapEntry) (f : Int) : Source × Int :=
  let usable (c : Channel) : Bool := decide ((now c).1 = .good ∨ (now c).1 = .suspect)
  if usable e.sensor then (.sensed, (now e.sensor).2)
  else if (now e.sensor).1 = .seeding then (.sensed, f)
  else
    match e.fallback with
    | some (c, offset) =>
      if usable c then
        (.fallback, if (now c).2 + offset < -500 then -500 else if 700 < (now c).2 + offset then 700 else (now c).2 + offset)
      else (.blind, f)
    | none => (.blind, f)

/-- A channel's state and value as its record stands. -/
def standing (s : State) (c : Channel) : ChannelState × Int := ((s.channel c).state, (s.channel c).f)

/-- A channel's state and value as the receiver of the report `r` sees them (R125). -/
def seenWith (r : Report) (s : State) (c : Channel) : ChannelState × Int :=
  if c = r.channel then (r.state, r.f) else standing s c

/-! ### Terms of the statements: air and speed -/

/-- The ambient temperature that a state and value of S5 give (R73, R159). -/
def ambientOf (x : ChannelState × Int) : Int := if x.1 = .good then x.2 else 320

/-- The air handler of `t` is that of `s`, which has the event's own work done, recomputed: duties, damper target and damper
motion by their laws (R156 to R159, R119, R161), from the other blocks' state in `s` and the ambient temperature `amb`. -/
abbrev Recomputed (s t : State) (amb : Int) : Prop :=
  let runs := s.air.path = .runFresh ∨ s.air.path = .runFreeze ∨ s.air.path = .pumpdown
  let onSide := s.air.flapMotion = .atRest ∧ ∃ p ∈ s.air.flapSide, (s.entry .chill).actuator = .damper p
  t.air = { s.air with
    ff := t.air.ff, zf := t.air.zf, cf := t.air.cf, damperTarget := t.air.damperTarget, damperMotion := t.air.damperMotion } ∧
  t.air.ff = (if (s.door .fl).state = .opened ∨ (s.door .fr).state = .opened then 0
    else if s.air.path = .runFresh then min 100 (60 + s.eval.paths.fresh.urgency / 25)
    else if s.defrost.recovery = true then 50 else 0) ∧
  t.air.zf = (if (s.door .zd).state = .opened then 0
    else if s.defrost.phase = .heat ∨ s.defrost.phase = .drip then 0
    else if s.air.path = .runFreeze ∧ s.air.fanDelay = some .ended then 100 else 0) ∧
  (s.straps.strap1 = false ∨ ¬ runs → t.air.cf = 0) ∧
  (s.straps.strap1 = true → runs → (amb < 250 → t.air.cf = 40) ∧
    (250 ≤ amb → (t.air.cf : Int) = clampInt 40 100 (40 + 4 * ((amb - 250) / 10)))) ∧
  (s.map.step ≠ none ∨ (s.door .dr).state = .opened ∨ s.eval.demand = false → t.air.damperTarget = 0) ∧
  ((s.entry .chill).actuator ≠ .ff → (s.entry .chill).actuator ≠ .zf → ¬ onSide → t.air.damperTarget = 0) ∧
  (s.map.step = none → onSide → (s.door .dr).state ≠ .opened → s.eval.demand = true →
    t.air.damperTarget = min 400 (120 + 8 * (s.zone .chill).excess)) ∧
  t.air.damperMotion = (if s.air.damperMotion = .atRest ∧ t.air.damperTarget ≠ s.air.damperPos then .moving
    else s.air.damperMotion)

/-- The speed target on a path (R72, R73, R59): the base of its urgency, its floor, 70 in PRECHILL, and the cap. -/
def speedAim (s : State) (p : Path) : Nat :=
  let u := match p with
    | .fresh => s.eval.paths.fresh.urgency
    | .freeze => if s.defrost.phase = .pending then max s.eval.paths.freeze.urgency 1 else s.eval.paths.freeze.urgency
  let amb := ambientOf (standing s .s5)
  let derate := if amb < 400 then 100 else if amb < 430 then 100 - ((amb - 400) * 15 / 30).toNat else 85
  let base := max (30 + u * 70 / 2000) ((s.eval.paths.get p).floor.getD 0)
  min (if s.defrost.phase = .prechill then max base 70 else base) (min s.arb.maxSpeed derate)

/-! ### Terms of the statements: the commit -/

/-- The CHILL holds that end at the commit of a regime change: neither BASE nor LAPSED (R22). -/
def endsByRegime (h : Hold) : Bool := decide (h.zone = .chill) && decide (h.kind ≠ .base) && !h.state.isLapsed

/-- The hold table's part of the commit (R22): the holds that end have lapsed with cause REGIME and their deadlines are gone,
the BASE hold has the regime's defaults with its figures cleared, and it is EFFECTIVE; the start-up commit changes none. -/
abbrev CommitsHolds (s t : State) : Prop :=
  let regime := s.map.target.getD s.map.regime
  t.holds.lists = s.holds.lists ∧ t.holds.slots.map (·.generation) = s.holds.slots.map (·.generation) ∧
  (s.map.startUp = true → t.holds = s.holds) ∧
  (s.map.startUp = false →
    (∀ j, j ≠ 1 → j < 24 → t.holds.at j = (s.holds.at j).map fun h =>
      if endsByRegime h then { h with state := .lapsed .regime } else asResolved t .chill h) ∧
    (∀ j < 24, ∀ h ∈ s.holds.at j, endsByRegime h = true → NoneOf [.holdExpiry j] t) ∧
    (∀ b ∈ s.holds.at 1, ∃ b' ∈ t.holds.at 1,
      b' = { b with
        target := (adjustTarget .chill regime (s.map.defaultTargets.get regime)).val
        halfBand := if regime = .frozen then 10 else 5
        figures := ⟨false, 0, 0, 0, 0, false⟩
        state := b'.state } ∧
      (BaseSafe s → b'.state = .effective ∧ t.effectiveHold .chill = some b')))

/-- The end-of-TRANSIT evaluation (R54): the governing hold is stored without a floor, the excursions are cleared, source and F
follow the shadow entry, now active, BLIND starts at CALL with the length that CHILL's last one-second evaluation read (R33,
log entry 45), the call is judged from SATISFIED, and both paths are formed. -/
abbrev EndsTransit (s t : State) : Prop :=
  let r := s.zone .chill
  let x := sourceDue (standing s) s.map.shadow r.f
  let secs := 60 * s.eval.blindUsed.chill.calling
  let seeding := decide ((s.channel s.map.shadow.sensor).state = .seeding)
  (∀ g ∈ t.governing .chill,
    let r1 : ZoneRec := { r with
      handle := g.handle, t := g.target, h := g.halfBand, weight := g.weight, floor := none
      warmCount := 0, coldCount := 0, warm := false, cold := false, state := .satisfied, source := x.1, f := x.2
      half := if x.1 = .blind then some .call else if r.source = .blind then none else r.half
      blindDue := if x.1 = .blind then some (s.time.uptime + secs) else if r.source = .blind then none else r.blindDue
      placeholder := r.placeholder && (decide (x.1 = .blind) || seeding) }
    t.zone .chill = { r1 with
      state := (t.zone .chill).state, waitAge := (t.zone .chill).waitAge, excess := (t.zone .chill).excess
      urgency := (t.zone .chill).urgency, sat := (t.zone .chill).sat } ∧
    Settles { s with map := t.map } t .chill r1 (callDue r1 false seeding) false) ∧
  (x.1 = .blind → DueAfter (.blindHalf .chill) secs s t) ∧ (x.1 ≠ .blind → r.source = .blind → NoneOf [.blindHalf .chill] t) ∧
  t.eval = { s.eval with
    zones := { s.eval.zones with chill := t.zone .chill }, paths := t.eval.paths, demand := t.eval.demand } ∧
  PathFormed t .fresh ∧ PathFormed t .freeze ∧
  t.eval.demand = ((t.zone .chill).calls && s.arb.state.runs s.map.shadow.path && !(t.zone .chill).doorPaused)

/-- The commit of a regime change (R117): the shadow entry is active, the holds and the CHILL zone follow, the air handler
recomputes, and REGIME_DONE is raised; the start-up commit touches no hold and raises nothing. `s` has the motor's arrival
done. -/
abbrev Commits (s t : State) : Prop :=
  let ended := if s.map.startUp then [] else ((List.range 24).filterMap s.holds.at).filter endsByRegime
  t = { s with holds := t.holds, map := t.map, eval := t.eval, air := t.air, time := t.time, events := t.events } ∧
  t.map = { s.map with
    active := { s.map.active with chill := s.map.shadow }, regime := s.map.target.getD s.map.regime
    target := none, step := none, startUp := false } ∧
  CommitsHolds s t ∧ EndsTransit s t ∧
  Recomputed { s with map := t.map, eval := t.eval } t (ambientOf (standing s .s5)) ∧
  TimeKept (.blindHalf .chill :: (List.range 24).map .holdExpiry) s t ∧
  t.events = (((s.events ++ ended.map fun _ => Handoff.raise .holdLapsed).filter fun e => match e with
      | .holdChange .chill _ => false
      | _ => true) ++ handedOn t .chill) ++ (if s.map.startUp then [] else [.raise .regimeDone])

/-! ### Terms of the statements: start-up -/

/-- What start-up takes from the image contents `c`, each value brought into its range (R197): the BASE holds against the
stored regime (R30), the zone map (R121), the zone records (R32), the settings of each block, and the correction slots
(R132). -/
abbrev LoadedFrom (c : ImageContents) (t : State) : Prop :=
  let g := c.settings
  let grid (x : Int) : Int := 5 * ((x + 2) / 5)
  let aim (z : Zone) : Int :=
    clampInt (Config.targetRange z g.regime).1 (Config.targetRange z g.regime).2 (grid (c.bases.get z).1)
  let band (z : Zone) : Int := clampInt 5 20 (grid (c.bases.get z).2)
  let weight (z : Zone) : Nat := clampNat 1 8 (g.weights.get z)
  let margin (z : Zone) : Int := clampInt 20 80 (g.margins.get z)
  let pair (p : Fallback) : Fallback := p.map fun x => (x.1, clampInt (-200) 200 x.2)
  let side : Path := if g.regime = .chilled then .fresh else .freeze
  let chill : MapEntry := ⟨side, some g.regime, .s1, pair (g.pairs.chill.get g.regime), [.dr], .damper side,
    weight .chill, margin .chill⟩
  let sag := clampNat 1000 3800 g.sag
  t.holds.slots.map (·.generation) = List.replicate 24 1 ∧ (∀ i, 3 ≤ i → t.holds.at i = none) ∧
  (∀ z, t.holds.at (baseSlot z) = some (resetBase (baseSlot z) z (aim z) (band z)) ∧
    t.zone z = resetZone (if z = .chill then .transit else .satisfied) (baseSlot z) (aim z) (band z) (weight z) ∧
    t.eval.blindLen.get z = ⟨clampNat 1 120 (g.blindLen.get z).calling, clampNat 1 120 (g.blindLen.get z).idle⟩ ∧
    t.eval.blindUsed.get z = t.eval.blindLen.get z) ∧
  t.map = { active := { fresh := ⟨.fresh, none, .s0, pair g.pairs.fresh, [.fl, .fr], .ff, weight .fresh, margin .fresh⟩
                        chill := chill
                        freeze := ⟨.freeze, none, .s2, pair g.pairs.freeze, [.zd], .zf, weight .freeze, margin .freeze⟩ }
            shadow := chill, regime := g.regime, target := some g.regime, step := some .closing, startUp := true
            pairs := ⟨pair g.pairs.fresh, pair g.pairs.freeze, ⟨pair g.pairs.chill.chilled, pair g.pairs.chill.soft,
              pair g.pairs.chill.frozen⟩⟩
            defaultTargets := ⟨clampInt (-20) 40 (grid g.defaultTargets.chilled),
              clampInt (-80) (-30) (grid g.defaultTargets.soft),
              clampInt (-220) (-140) (grid g.defaultTargets.frozen)⟩ } ∧
  (∀ ch, t.channel ch = resetChannel (min 4 (g.shifts.get ch))) ∧ t.meas.corrections = c.corrections ∧
  t.meas.mains = ⟨.normal, 0, 0, 0, sag, max (clampNat 1100 3900 g.recover) (sag + 100)⟩ ∧
  t.eval.excursionTime = clampNat 10 120 g.excursionTime ∧ t.arb.maxSpeed = clampNat 60 100 g.maxSpeed ∧
  t.defrost.interval = clampNat 21600 259200 g.interval ∧ t.doors.ajarTime = clampNat 60 600 g.ajarTime ∧
  t.doors.rejection = (if g.rejection = 0 then 0 else if g.rejection ≤ 40 then 40 else if g.rejection ≤ 80 then 80 else 160)

/-! ### Terms of the statements: requests -/

/-- The CODE and payload bytes of a request command, in the order of R185; none for a command that is no request. -/
def requestBytes : Instr → Option (List Byte)
  | .ident => some [0x01]
  | .systemQuery => some [0x02]
  | .restart => some [0x03]
  | .holdOpen zone kind target halfBand priority flags minutes floor =>
    some ([0x10, zone, kind] ++ halfBytes target ++ [halfBand, priority, flags] ++ halfBytes minutes ++ [floor])
  | .holdAmend slot gen mask target halfBand priority minutes floor reach =>
    some ([0x11, slot, gen, mask] ++ halfBytes target ++ [halfBand, priority] ++ halfBytes minutes ++ [floor, reach])
  | .holdRetire slot gen => some [0x12, slot, gen]
  | .holdQuery slot gen => some [0x13, slot, gen]
  | .holdList zone => some [0x14, zone]
  | .zoneQuery zone => some [0x20, zone]
  | .regimeSet regime => some [0x21, regime]
  | .mapSet zone regime fallback offset => some ([0x22, zone, regime, fallback] ++ halfBytes offset)
  | .sensorQuery channel => some [0x30, channel]
  | .correctionSet slot op channel index value => some ([0x31, slot, op, channel, index] ++ halfBytes value)
  | .doorQuery door clear => some [0x32, door, clear]
  | .defrostNow => some [0x40]
  | .defrostCancel => some [0x41]
  | .clearLockout => some [0x42]
  | .noticeNext => some [0x50]
  | .noticeEnable mask => some ([0x51] ++ halfBytes mask)
  | .settingsWrite item value => some ([0x60, item] ++ quadBytes value)
  | .settingsRead item => some [0x61, item]
  | .settingsStore => some [0x62]
  | .powerOnReset _ => none
  | .uptimeWrapRestart _ => none
  | .storeWriteEnd => none
  | .frameRefused _ => none
  | .overrun => none
  | .framingError => none
  | .byteGapTimeout => none
  | .replyStart => none
  | .replySent _ => none
  | .holdExpiry _ => none
  | .holdChangeEvaluation _ => none
  | .channelConversion _ _ => none
  | .oneSecondEvaluation _ => none
  | .blindHalf _ => none
  | .doorSample _ _ _ _ => none
  | .doorAjar _ => none
  | .doorChangeEvaluation _ => none
  | .airRecompute _ => none
  | .fanDelay => none
  | .damperArrival => none
  | .flapArrival => none
  | .homingEnd _ => none
  | .valveArrival => none
  | .startCompletion => none
  | .releaseEnd => none
  | .arbiterReview => none
  | .pumpdownStage => none
  | .holdoffStage => none
  | .recoveryStage => none
  | .inhibit => none
  | .dwellMin => none
  | .dwellMax => none
  | .speedStep => none
  | .driveLinkTick => none
  | .statusFrame _ _ _ _ => none
  | .mainsSample _ => none
  | .arbiterSag => none
  | .arbiterNormal => none
  | .arbiterChangeToDefrost => none
  | .defrostS4Report => none
  | .pendingLimit => none
  | .prechillPhaseExpiry => none
  | .heatPhaseExpiry => none
  | .dripPhaseExpiry => none
  | .recoverPhaseExpiry => none
  | .coilS3Report => none
  | .coilRecovery => none
  | .coilRecoveryCutShort => none
  | .deadlineFallsDue => none
  | .noticeRaise _ => none
  | .characterReceived _ => none
  | .driveReceiverByte _ => none
  | .damperStep => none
  | .valveStep => none
  | .pwmPeriodBoundary => none

/-- A request frame (R180): SYNC, LEN, CODE and payload, CHECK. -/
def requestFrame (req : List Byte) : List Byte :=
  [0x5C, byteOf req.length] ++ req ++ [checkOf (byteOf req.length :: req)]

/-- The request of the command is taken: its bytes wait, or the port is IDLE and its frame completes (log entry 4). -/
abbrev Taken (c : Instr) (s : State) : Prop :=
  s.link.request = some ((requestBytes c).getD []) ∨ s.link.port = .idle

/-- The link port once the request has been taken and the reply formed (R182). -/
def linkAfter (l : LinkPort) (req : List Byte) (r : Reply) : LinkPort :=
  if l.request = some req then { l with request := none, reply := some r }
  else { l with port := .serving, reply := some r }

/-- The state `t` with the link port of `s` once it has taken the request and formed the reply `r`. -/
def answered (c : Instr) (s t : State) (r : Reply) : State :=
  { t with link := linkAfter s.link ((requestBytes c).getD []) r }

/-- The request is refused with the status: nothing but the link port changes (R181). -/
def refusedWith (c : Instr) (s : State) (st : Status) : State := answered c s s ⟨st, false, []⟩

/-! ### Terms of the statements: what is in flight -/

/-- The expiry `k`, due at `due`, is the next that its owner takes (R172). -/
abbrev Delivers (s : State) (k : DeadlineKey) (due : Instant) : Prop := nextExpiry k.owner s.time.expiries = some ⟨k, due⟩

/-- The state once the expiry of `k` has been taken. -/
def expired (s : State) (k : DeadlineKey) : State :=
  { s with time := { s.time with expiries := dropKey k s.time.expiries } }

/-- Is the expiry of `k` the next that its owner takes? -/
def expiryNext (s : State) (k : DeadlineKey) : Bool :=
  match nextExpiry k.owner s.time.expiries with
  | some d => decide (d.key = k)
  | none => false

/-- Is there in flight what the command takes? A command that takes nothing in flight always has what it needs. -/
def inFlight (c : Instr) (s : State) : Bool :=
  match c with
  | .holdExpiry i => expiryNext s (.holdExpiry i)
  | .holdChangeEvaluation z => (takeFirst (holdChangeOf z) s.events).isSome
  | .oneSecondEvaluation z => (takeFirst (oneSecondOf z) s.events).isSome
  | .blindHalf z => expiryNext s (.blindHalf z)
  | .doorAjar d => expiryNext s (.doorAjar d)
  | .doorChangeEvaluation d => (takeFirst (doorEventOf d) s.events).isSome
  | .airRecompute k => (takeFirst (airEvent k) s.events).isSome
  | .fanDelay => expiryNext s .fanDelay
  | .startCompletion => (takeFirst arbiterArrivalOf s.events).isSome
  | .releaseEnd => (takeFirst defrostArrivalOf s.events).isSome
  | .arbiterReview => (takeFirst (onlyEvent .review) s.events).isSome
  | .pumpdownStage => expiryNext s .stage
  | .holdoffStage => expiryNext s .stage
  | .recoveryStage => expiryNext s .stage
  | .inhibit => expiryNext s .inhibit
  | .dwellMin => expiryNext s .dwellMin
  | .dwellMax => expiryNext s .dwellMax
  | .speedStep => expiryNext s .speedStep
  | .arbiterSag => (takeMains .sag s.events).isSome
  | .arbiterNormal => (takeMains .normal s.events).isSome
  | .arbiterChangeToDefrost => (takeFirst pathChangeOf s.events).isSome
  | .defrostS4Report => (takeFirst s4ReportOf s.events).isSome
  | .pendingLimit => expiryNext s .pendingLimit
  | .prechillPhaseExpiry => expiryNext s .phase
  | .heatPhaseExpiry => expiryNext s .phase
  | .dripPhaseExpiry => expiryNext s .phase
  | .recoverPhaseExpiry => expiryNext s .phase
  | .coilS3Report => (takeFirst s3ReportOf s.events).isSome
  | .coilRecovery => expiryNext s .coilRecovery
  | .coilRecoveryCutShort => (takeFirst cutShortOf s.events).isSome
  | .noticeRaise n => (takeFirst (onlyEvent (.raise n)) s.events).isSome
  | _ => true

/-- The state after a list of commands, each of which answers a next state. -/
def runAll : List Instr → State → Option State
  | [], s => some s
  | c :: cs, s =>
    match exec c s with
    | .next t => runAll cs t
    | _ => none

end Sys2Proof.Safety
end

