-- ==== Sys2Proof/Certificates/Slice0/Obligations.lean ====
section
/-! DEFINITION. The statements for the provers. Each says what the numbered rules it cites say of a command, of the state
after it and of what it leaves alone; the invariants say what every step keeps. -/

open Sys2Proof Sys2Proof.Machine Sys2Proof.Safety

/-! ### The step and the queue -/

/-- Commands run first in, first out: a step runs the command at the front with the queue's rest. -/
def Obligations.StepRunsTheFrontCommand : Prop :=
  ∀ (s : State) (c : Instr) (rest : List Instr), s.pending = c :: rest → step s = exec c { s with pending := rest }

/-- Every command, in every state, with every operand, answers a next state; it leaves the queue alone, and but for the
three commands that restart the part it leaves the straps as read (R199).

Model's choices: an internal command that finds nothing of its kind in flight to take changes nothing (log entry 3), and the
queue of commands survives a restart (log entry 33). -/
def Obligations.EveryCommandAnswersAndKeepsTheQueue : Prop :=
  (∀ (c : Instr) (s : State), ∃ t, exec c s = .next t ∧ t.pending = s.pending ∧
     ((∀ x, c ≠ .powerOnReset x) → (∀ x, c ≠ .uptimeWrapRestart x) → (∀ x, c ≠ .replySent x) → t.straps = s.straps)) ∧
  (∀ (c : Instr) (s : State), inFlight c s = false → exec c s = .next s)

/-- R172: the first entry of the list leaves it at its due instant and its expiry is in flight, by the command and (log
entry 1) on an idle step alike; an entry not yet due stays.

Log entry 1, on R162 and R198: with no command waiting and no entry due, a flap drive that has run its 4 s arrives, and then a
store that has run its 400 ms ends, as their commands have it.

Log entries 1, 2 and 23, on R167 and R33: with none of these due, while a flap moves or a store is written too, the clock moves
by a millisecond; past 999 it returns to 0, the uptime rises by 1, and each zone's trigger channel is from then on the fallback
where the source is FALLBACK and the map sensor otherwise; at the last instant of the range the clock stands. -/
def Obligations.TheClockMovesAndDueEntriesLeave : Prop :=
  (∀ (s : State) (d : Deadline) (ds : List Deadline), s.time.deadlines = d :: ds →
     (d.due.toMs ≤ s.now.toMs →
       exec .deadlineFallsDue s
           = .next { s with time := { s.time with deadlines := ds, expiries := s.time.expiries ++ [d] } } ∧
         (s.pending = [] →
           step s = .next { s with time := { s.time with deadlines := ds, expiries := s.time.expiries ++ [d] } })) ∧
     (s.now.toMs < d.due.toMs → exec .deadlineFallsDue s = .next s)) ∧
  (∀ s : State, s.pending = [] → (∀ d ∈ s.time.deadlines.head?, s.now.toMs < d.due.toMs) →
     let flapEnds := ∃ dest ends, s.air.flapMotion = .moving dest ends ∧ ends.toMs ≤ s.now.toMs
     let storeEnds := ∃ w, s.store.writing = some w ∧ w.began.toMs + 400 ≤ s.now.toMs
     let trigger (z : Zone) : Channel := match (s.zone z).source, (s.entry z).fallback with
       | .fallback, some (c, _) => c
       | _, _ => (s.entry z).sensor
     (flapEnds → step s = exec .flapArrival s) ∧
     (¬ flapEnds → storeEnds → step s = exec .storeWriteEnd s) ∧
     (¬ flapEnds → ¬ storeEnds →
       (s.time.ms < 999 → step s = .next { s with time := { s.time with ms := s.time.ms + 1 } }) ∧
       (999 ≤ s.time.ms → s.time.uptime < 4294967295 → step s = .next { s with
         time := { s.time with uptime := s.time.uptime + 1, ms := 0 }
         eval := { s.eval with trigger := ⟨trigger .fresh, trigger .chill, trigger .freeze⟩ } }) ∧
       (999 ≤ s.time.ms → 4294967295 ≤ s.time.uptime → step s = .next s)))

/-! ### The link port -/

/-- R179, R180, R185: the characters of any request, framed with its CHECK, reach the owning block as that request, with
every operand byte as it was.

R178: and the levels in which any bytes are sent, sampled sixteen times a bit, are received as those characters.

Model's choice: the samples of a line are a list, and the commands begin at whole characters (log entry 46). -/
def Obligations.RequestFrameReachesItsBlock : Prop :=
  (∀ (c : Instr) (req : List Byte) (s : State), requestBytes c = some req → s.link.rx = .hunt → s.link.port = .idle →
     runAll ((requestFrame req).map .characterReceived) s
       = some { s with link := { s.link with port := .serving, request := some req } }) ∧
  (∀ bytes : List Byte, lineCommands (sampled (bytes.flatMap characterLevels)) = bytes.map .characterReceived)

/-- R179: the table of the receiver states, character by character, with a framing error and a gap. -/
def Obligations.ReceiverMovesByItsTable : Prop :=
  ∀ (s : State) (b : Byte),
    (s.link.rx = .hunt →
      exec (.characterReceived b) s = .next (if b = 0x5C then { s with link := { s.link with rx := .count } } else s) ∧
        exec .framingError s = .next s) ∧
    (s.link.rx = .count →
      (1 ≤ b.toNat ∧ b.toNat ≤ 60 →
        exec (.characterReceived b) s = .next { s with link := { s.link with rx := .body b.toNat [] } }) ∧
      (b.toNat = 0 ∨ 60 < b.toNat →
        (s.link.port = .idle → exec (.characterReceived b) s = .next { s with link :=
            { s.link with rx := .drain, port := .serving, reply := some ⟨.length, false, []⟩ } }) ∧
        (s.link.port ≠ .idle → exec (.characterReceived b) s = .next { s with link :=
            { s.link with rx := .drain, overrun := true } })) ∧
      exec .framingError s = .next { s with link := { s.link with rx := .drain } }) ∧
    (∀ len got, s.link.rx = .body len got →
      (got.length < len →
        exec (.characterReceived b) s = .next { s with link := { s.link with rx := .body len (got ++ [b]) } }) ∧
      (len ≤ got.length → ∃ t, exec (.characterReceived b) s = .next t ∧ t.link.rx = .hunt ∧
        t = { s with link := t.link }) ∧
      exec .framingError s = .next { s with link := { s.link with rx := .drain } }) ∧
    (s.link.rx = .drain → exec (.characterReceived b) s = .next s ∧ exec .framingError s = .next s) ∧
    exec .byteGapTimeout s = .next { s with link := { s.link with rx := .hunt } }

/-- R181: the last character of a frame completes it, and it is judged row by row: overrun, CHECK, UNKNOWN, LENGTH, or handed
to the owning block without its CHECK byte.

R181 rows 2 to 5, as commands: a frame refused at an IDLE port is answered by the link port with the status, and changes
nothing in any block; a LENGTH frame, whose LEN is out of range, leaves the receiver in DRAIN (R179).

R183: a request frame that completes while the port is not IDLE is discarded, and OVERRUN is set; nothing else changes but
the receiver after a LENGTH frame. A request whose bytes wait at the port is no new frame (log entry 4); with the port IDLE
an overrun has nothing to discard (log entry 3). -/
def Obligations.CompleteFrameIsJudgedByRows : Prop :=
  (∀ (s : State) (len : Nat) (got : List Byte) (b : Byte), s.link.rx = .body len got → got.length = len →
     let refusal (st : Status) : State :=
       { s with link := { s.link with rx := .hunt, port := .serving, reply := some ⟨st, false, []⟩ } }
     (s.link.port ≠ .idle →
       exec (.characterReceived b) s = .next { s with link := { s.link with rx := .hunt, overrun := true } }) ∧
     (s.link.port = .idle →
       (byteOf len + byteSum (got ++ [b]) ≠ 0 → exec (.characterReceived b) s = .next (refusal .check)) ∧
       (byteOf len + byteSum (got ++ [b]) = 0 →
         (requestLen ((got ++ [b]).headD 0) = none → exec (.characterReceived b) s = .next (refusal .unknown)) ∧
         (∀ n, requestLen ((got ++ [b]).headD 0) = some n →
           (n ≠ len → exec (.characterReceived b) s = .next (refusal .length)) ∧
           (n = len → exec (.characterReceived b) s = .next { s with link :=
             { s.link with rx := .hunt, port := .serving, request := some got } }))))) ∧
  (∀ (w : FrameRefusal) (s : State),
     let st : Status := match w with
       | .lengthFrame => .length
       | .length => .length
       | .check => .check
       | .unknown => .unknown
     let rx : RxState := if w = .lengthFrame then .drain else s.link.rx
     (s.link.port = .idle → exec (.frameRefused w) s
       = .next { s with link := { s.link with rx := rx, port := .serving, reply := some ⟨st, false, []⟩ } }) ∧
     (s.link.port ≠ .idle → exec (.frameRefused w) s
       = .next { s with link := { s.link with rx := rx, overrun := true } })) ∧
  (∀ (c : Instr) (s : State),
     (s.link.port ≠ .idle → (∃ req, requestBytes c = some req ∧ s.link.request ≠ some req) ∨ c = .overrun →
       exec c s = .next { s with link := { s.link with overrun := true } }) ∧
     (s.link.port = .idle → exec .overrun s = .next s))

/-- R180, R182, R184: transmission begins: SYNC, LEN, STATUS, LINKFLAGS, the payload and a CHECK that makes the sum 0;
LINKFLAGS carries OVERRUN, ATTN-PENDING and CLAMPED in bits 0 to 2, and OVERRUN is cleared.

Model's choice: the bytes of the frame stand in the transmit buffer (log entry 32). -/
def Obligations.ReplyStartSendsTheFrame : Prop :=
  ∀ (s : State) (r : Reply), s.link.port = .serving → s.link.reply = some r →
    ∃ flags check : Byte,
      flags = (if s.link.overrun then 1 else 0) + (if s.notice.attn then 2 else 0) + (if r.clamped then 4 else 0) ∧
      byteSum ([byteOf (r.payload.length + 2), r.status.code, flags] ++ r.payload ++ [check]) = 0 ∧
      exec .replyStart s = .next { s with link := { s.link with
        port := .sending
        overrun := false
        reply := none
        tx := [0x5D, byteOf (r.payload.length + 2), r.status.code, flags] ++ r.payload ++ [check] } }

/-- R182, R189: RESTART is answered OK and marks the part; when a reply's CHECK byte has been sent the port is IDLE, and
after RESTART's the part has started up, a LOCKOUT and the fault count surviving (R86); StartUpLeavesTheResetValues says the
rest of that state.

Model's choices: the transmit buffer is cleared (log entry 32), no hand-off is left in flight (log entry 29), the queue of
commands survives (log entry 33), and RESTART's mark stands until its reply has been sent (log entry 34). -/
def Obligations.ReplySentEndsTheRequest : Prop :=
  ∀ (s : State) (x : Straps),
    (Taken .restart s → exec .restart s
      = .next { s with link := { linkAfter s.link [0x03] ⟨.ok, false, []⟩ with restarting := true } }) ∧
    (s.link.port = .sending →
      (s.link.restarting = false →
        exec (.replySent x) s = .next { s with link := { s.link with port := .idle, tx := [] } }) ∧
      (s.link.restarting = true → ∃ t, exec (.replySent x) s = .next t ∧ t.straps = x ∧ t.pending = s.pending ∧
        t.time = ⟨0, 0, [⟨.inhibit, ⟨300, 0⟩⟩], []⟩ ∧ t.events = [] ∧ t.arb.faultCount = s.arb.faultCount ∧
        t.arb.state = (if s.arb.state = .halted .lockout then .halted .lockout else .off) ∧
        t.link = ⟨.hunt, .idle, false, none, none, [], false⟩ ∧ t.notice = ⟨0, 0x7FF, false⟩))

/-- R188: IDENT's 7 bytes: vendor 4856h, part 0330h, revision 1, the straps, DEFAULTED; IDENT changes nothing.

R18, R19, R55, R139, R187, R196, with R185, R186 and R195: the queries are answered and change nothing; an undefined code is
refused FIELD and a handle that names no record STALE; and each reply carries the fields that its table gives it, in the
table's order: the 50 bytes of SYSTEM QUERY, the 32 of ZONE QUERY, the 21 of HOLD QUERY, HOLD LIST's count and entries in list
order, a channel's record with its corrections or the mains record, and an item's code and live value.

Model's choices: the sequence number is that of the next DRIVE (log entry 9), a due time beyond the uptime's range has free
bytes (log entry 17), the position in HOMING (log entry 28), the excess in TRANSIT (log entry 15), and a channel's corrections
by rising slot (log entry 43). -/
def Obligations.QueriesAnswerAndChangeNothing : Prop :=
  (∀ s : State, Taken .ident s → exec .ident s = .next (answered .ident s s ⟨.ok, false,
     [0x56, 0x48, 0x30, 0x03, 1,
       (if s.straps.strap0 then 1 else 0) + (if s.straps.strap1 then 2 else 0), if s.store.defaulted then 1 else 0]⟩)) ∧
  ∀ (s : State) (a g : Byte),
    let flag (b : Bool) (n : Nat) : Nat := if b then n else 0
    let due (d : Option Nat) : List Byte := match d with
      | none => [0, 0, 0, 0]
      | some n => dueBytes n
    let context (n : Nat) : List Byte := match s.arb.stack.reverse[n]? with
      | none => [0, 0, 0]
      | some (.path l) => [1, byteOf l.code, 0]
      | some (.holdoff n) => 2 :: u16 n
    let flap : Nat × Nat := match s.air.flapMotion with
      | .atRest => (0, 0xFF)
      | .moving dest _ => (1, pathIdx dest)
    (Taken .systemQuery s → ∃ p, exec .systemQuery s = .next (answered .systemQuery s s ⟨.ok, false, p⟩) ∧
      p.length = 50 ∧
      p.take 14 = [byteOf s.arb.state.code, byteOf s.arb.state.haltCode, byteOf s.arb.speed,
        byteOf (pathCode s.arb.resumePref), byteOf s.arb.stack.length] ++ context 0 ++ context 1
        ++ [byteOf s.arb.faultCount] ++ u16 s.arb.runSeconds ∧
      (p.drop 14).take 6 = [byteOf s.drive.seq, byteOf s.drive.miss, byteOf (flag s.drive.silent 1), byteOf s.drive.lastCode,
        byteOf s.drive.actualSpeed, byteOf s.meas.mains.state.code] ∧
      (p.drop 20).take 14 = [byteOf s.defrost.phase.code] ++ u32 s.defrost.accumulator ++ u32 s.defrost.interval
        ++ [byteOf (flag s.defrost.recovery 1)] ++ u32 s.time.uptime ∧
      p.drop 34 = [byteOf s.air.ff, byteOf s.air.zf, byteOf s.air.cf, byteOf (fanDelayCode s.air.fanDelay)]
        ++ u16 s.air.damperPos ++ u16 s.air.damperTarget
        ++ [byteOf s.air.damperMotion.code, byteOf (flapSideCode s.air.flapSide), byteOf flap.1, byteOf flap.2, 0xFF,
          byteOf s.air.valvePos, byteOf s.air.valveTarget, byteOf s.air.valveMotion.code]) ∧
    (Taken (.zoneQuery a) s →
      (∀ z, zoneOf a = some z → ∃ p, exec (.zoneQuery a) s = .next (answered (.zoneQuery a) s s ⟨.ok, false, p⟩) ∧
        p.length = 32 ∧
        let r := s.zone z
        let path := (s.entry z).path
        p.take 13 = [a, byteOf r.state.code, byteOf r.source.code] ++ i16 r.f
          ++ [byteOf r.handle.slot, byteOf r.handle.gen] ++ i16 r.t
          ++ [BitVec.ofInt 8 r.h, byteOf r.weight, byteOf (r.floor.getD 0), byteOf (flag r.doorPaused 1 + flag r.sat 2
            + flag r.warm 4 + flag r.cold 8 + flag r.half.isSome 16 + flag (decide (r.half = some .call)) 32
            + flag (s.eval.paths.get path).sat 64)] ∧
        p.drop 13 = u16 r.grace ++ u16 r.waitAge ++ u16 r.excess ++ u16 r.urgency ++ u16 r.warmCount ++ u16 r.coldCount
          ++ due r.blindDue ++ [byteOf (pathIdx path)] ++ u16 (s.eval.paths.get path).urgency) ∧
      (2 < a.toNat → exec (.zoneQuery a) s = .next (refusedWith (.zoneQuery a) s .field))) ∧
    (Taken (.holdQuery a g) s →
      (∀ h, s.holds.named ⟨a.toNat, g.toNat⟩ = some h →
        ∃ p, exec (.holdQuery a g) s = .next (answered (.holdQuery a g) s s ⟨.ok, false, p⟩) ∧ p.length = 21 ∧
          p = [byteOf h.handle.slot, byteOf h.handle.gen, byteOf (zoneCode h.zone), byteOf h.kind.code] ++ i16 h.target
            ++ [BitVec.ofInt 8 h.halfBand, byteOf h.priority, byteOf h.origin.code, byteOf h.state.code,
              byteOf h.state.causeCode, byteOf (flag h.expiry.isSome 1 + flag h.speedFloor.isSome 2
                + flag h.lapseOnReach 4 + flag h.figures.reached 8 + flag h.figures.sat 16)]
            ++ due h.expiry ++ [byteOf (h.speedFloor.getD 0)] ++ u16 h.figures.effMinutes ++ u16 h.figures.outMinutes) ∧
      (s.holds.named ⟨a.toNat, g.toNat⟩ = none →
        exec (.holdQuery a g) s = .next (refusedWith (.holdQuery a g) s .stale))) ∧
    (Taken (.holdList a) s →
      (∀ z, zoneOf a = some z → ∃ p, exec (.holdList a) s = .next (answered (.holdList a) s s ⟨.ok, false, p⟩) ∧
        p.length = 1 + 2 * (s.holds.lists.get z).length ∧ p[0]? = some (byteOf (s.holds.lists.get z).length) ∧
        ∀ k hd h, (s.holds.lists.get z)[k]? = some hd → s.holds.named hd = some h →
          (p.drop (1 + 2 * k)).take 2 = [byteOf (hd.slot + 32 * h.state.code), byteOf hd.gen]) ∧
      (2 < a.toNat → exec (.holdList a) s = .next (refusedWith (.holdList a) s .field))) ∧
    (Taken (.sensorQuery a) s →
      (∀ c, channelOf a = some c →
        ∃ p, exec (.sensorQuery a) s = .next (answered (.sensorQuery a) s s ⟨.ok, false, p⟩) ∧
          let r := s.channel c
          let slots := correctionsOf s.meas.corrections c
          p.length = 14 + 4 * slots.length ∧
          p.take 14 = [a, byteOf r.state.code] ++ u16 r.raw
            ++ [byteOf (faultKindCode r.faultKind), byteOf (flag r.converted.isSome 1)] ++ i16 (r.converted.getD 0)
            ++ i16 r.f ++ [byteOf r.badRun, byteOf r.goodRun, byteOf r.shift, byteOf slots.length] ∧
          ∀ k i x, slots[k]? = some (i, x) →
            (p.drop (14 + 4 * k)).take 4 = [byteOf i, byteOf x.index] ++ i16 x.value) ∧
      (a.toNat = 6 → ∃ p, exec (.sensorQuery a) s = .next (answered (.sensorQuery a) s s ⟨.ok, false, p⟩) ∧
        p.length = 10 ∧
        p = [6] ++ u16 s.meas.mains.sample ++ [byteOf s.meas.mains.state.code, byteOf s.meas.mains.lowRun,
          byteOf s.meas.mains.highRun] ++ u16 s.meas.mains.sag ++ u16 s.meas.mains.recover) ∧
      (6 < a.toNat → exec (.sensorQuery a) s = .next (refusedWith (.sensorQuery a) s .field))) ∧
    (Taken (.settingsRead a) s →
      let reads (v : List Byte) : Prop := exec (.settingsRead a) s = .next (answered (.settingsRead a) s s ⟨.ok, false, a :: v⟩)
      let dt := s.map.defaultTargets
      let b := s.eval.blindLen
      let shift (c : Channel) : Int := (s.channel c).shift
      let values : List Int :=
        [regimeCode s.map.regime, dt.chilled, dt.soft, dt.frozen,
          (s.entry .fresh).weight, (s.entry .chill).weight, (s.entry .freeze).weight,
          (s.entry .fresh).warmMargin, (s.entry .chill).warmMargin, (s.entry .freeze).warmMargin, s.eval.excursionTime,
          b.fresh.calling, b.fresh.idle, b.chill.calling, b.chill.idle, b.freeze.calling, b.freeze.idle,
          s.arb.maxSpeed, s.defrost.interval, shift .s0, shift .s1, shift .s2, shift .s3, shift .s4, shift .s5,
          s.meas.mains.sag, s.meas.mains.recover, s.doors.rejection, s.doors.ajarTime]
      let m := s.map.pairs
      let pairs : List Fallback := [m.fresh, m.freeze, m.chill.chilled, m.chill.soft, m.chill.frozen]
      (∀ v, values[a.toNat]? = some v → reads (quadBytes (BitVec.ofInt 32 v))) ∧
      (∀ k p, a.toNat = 0x1D + k → pairs[k]? = some p → reads (match p with
        | none => [0xFF, 0, 0, 0]
        | some (c, offset) => [byteOf (channelCode c), 0] ++ i16 offset)) ∧
      (0x21 < a.toNat → exec (.settingsRead a) s = .next (refusedWith (.settingsRead a) s .field)))

/-! ### Holds -/

/-- R11: HOLD OPEN's checks in their order: FIELD, FIXED, FIELD, BUSY, FULL; a refused request changes nothing.

R13: HOLD AMEND's checks in their order: STALE, LAPSED, FIXED, FIELD, BUSY; a refused request changes nothing. -/
def Obligations.HoldRequestsAreCheckedInOrder : Prop :=
  (∀ (zone kind : Byte) (target : Half) (halfBand priority flags : Byte) (minutes : Half) (floor : Byte) (s : State),
     let c := Instr.holdOpen zone kind target halfBand priority flags minutes floor
     let barred := kind.toNat = 2 ∧ (flags.getLsbD 1 = true ∨ flags.getLsbD 2 = true)
     Taken c s →
     (2 < zone.toNat ∨ 2 < kind.toNat → exec c s = .next (refusedWith c s .field)) ∧
     (zone.toNat ≤ 2 → kind.toNat = 0 → exec c s = .next (refusedWith c s .fixed)) ∧
     (zone.toNat ≤ 2 → barred → exec c s = .next (refusedWith c s .field)) ∧
     (zone.toNat ≤ 2 → 1 ≤ kind.toNat → kind.toNat ≤ 2 → ¬ barred →
       (zone.toNat = 1 → s.map.step ≠ none → exec c s = .next (refusedWith c s .busy)) ∧
       (zone.toNat ≠ 1 ∨ s.map.step = none → (∀ sl ∈ s.holds.slots, sl.hold ≠ none) →
         exec c s = .next (refusedWith c s .full)))) ∧
  (∀ (slot gen mask : Byte) (target : Half) (halfBand priority : Byte) (minutes : Half) (floor reach : Byte) (s : State),
     let c := Instr.holdAmend slot gen mask target halfBand priority minutes floor reach
     let boostField := mask.getLsbD 4 = true ∨ mask.getLsbD 5 = true
     let baseField := mask.getLsbD 2 = true ∨ mask.getLsbD 3 = true ∨ boostField
     Taken c s →
     (s.holds.named ⟨slot.toNat, gen.toNat⟩ = none → exec c s = .next (refusedWith c s .stale)) ∧
     (∀ h, s.holds.named ⟨slot.toNat, gen.toNat⟩ = some h →
       (h.state.isLapsed = true → exec c s = .next (refusedWith c s .lapsed)) ∧
       (h.state.isLapsed = false →
         (h.kind = .base → baseField → exec c s = .next (refusedWith c s .fixed)) ∧
         (h.kind = .ease → boostField → exec c s = .next (refusedWith c s .field)) ∧
         (¬ (h.kind = .base ∧ baseField) → ¬ (h.kind = .ease ∧ boostField) → h.zone = .chill → s.map.step ≠ none →
           exec c s = .next (refusedWith c s .busy)))))

/-- R12, with the adjustments of R8 to R10: a HOLD OPEN that passes creates its record in the lowest free slot at that slot's
generation, with every field as adjusted and the figures cleared; it enters its zone's list at the first place among its
priority (R4), its deadline is inserted, every record of the zone has the state of R5, a change of what governs the zone is
handed on (R6), and the reply names the record with CLAMPED exactly when a value was moved. No slot's generation (R3), no other
record, no other zone's list, no other block and no entry of another owner changes. -/
def Obligations.HoldOpenCreatesTheRecord : Prop :=
  ∀ (zone kind : Byte) (target : Half) (halfBand priority flags : Byte) (minutes : Half) (floor : Byte) (s : State)
    (z : Zone) (k : HoldKind) (i : Nat) (sl : Slot),
    let c := Instr.holdOpen zone kind target halfBand priority flags minutes floor
    Taken c s → zoneOf zone = some z → kindOf kind = some k → k ≠ .base →
    (k = .ease → flags.getLsbD 1 = false ∧ flags.getLsbD 2 = false) → (z = .chill → s.map.step = none) →
    s.holds.slots[i]? = some sl → sl.hold = none → (∀ j < i, (s.holds.at j).isSome = true) →
    let lim := Config.targetRange z s.map.regime
    let grid : Int := 5 * ((target.toInt + 2) / 5)
    let ranged := clampInt lim.1 lim.2 grid
    let bounded := if k = .boost then min ranged (s.baseTarget z) else max ranged (s.baseTarget z)
    let band : Int := 5 * (((halfBand.toNat : Int) + 2) / 5)
    let speed : Option Nat :=
      if flags.getLsbD 1 = true ∧ floor.toNat ≠ 0 then some (clampNat 40 100 floor.toNat) else none
    let due : Option Nat :=
      if flags.getLsbD 0 = true ∧ minutes.toNat ≠ 0 then some (s.time.uptime + 60 * minutes.toNat) else none
    let hd : Handle := ⟨i, sl.generation⟩
    ∃ (t : State) (h : Hold) (clamped : Bool),
      exec c s = .next (answered c s t ⟨.ok, clamped, [byteOf i, byteOf sl.generation, byteOf h.state.code]⟩) ∧
      t = { s with holds := t.holds, time := t.time, events := s.events ++ governmentHanded s t z, link := t.link } ∧
      t.holds.at i = some h ∧
      h = { handle := hd, zone := z, kind := k, target := bounded, halfBand := clampInt 5 20 band
            priority := clampNat 1 7 priority.toNat, expiry := due, speedFloor := speed
            lapseOnReach := flags.getLsbD 2, origin := .link
            state := if (t.effectiveHold z).map (·.handle) = some hd then .effective else .shadowed
            figures := ⟨false, 0, 0, 0, 0, false⟩ } ∧
      (clamped = true ↔ ranged ≠ grid ∨ bounded ≠ ranged ∨ clampInt 5 20 band ≠ band ∨
        clampNat 1 7 priority.toNat ≠ priority.toNat ∨ (∃ v, speed = some v ∧ v ≠ floor.toNat)) ∧
      EntersAt s.holds (clampNat 1 7 priority.toNat) hd (s.holds.lists.get z) (t.holds.lists.get z) ∧
      (∀ y, y ≠ z → t.holds.lists.get y = s.holds.lists.get y) ∧
      (∀ j, j ≠ i → t.holds.at j = (s.holds.at j).map (asResolved t z)) ∧
      t.holds.slots.map (·.generation) = s.holds.slots.map (·.generation) ∧
      (∀ d, due = some d → ⟨.holdExpiry i, ⟨d, s.time.ms⟩⟩ ∈ t.time.deadlines) ∧
      (due = none → t.time = s.time) ∧ TimeKept [.holdExpiry i] s t

/-- R14 to R16: a HOLD AMEND that passes changes the fields its mask names, each as adjusted, and no other; the figures are
cleared exactly when the target or the half-band changed; a changed priority moves the handle to the first place among the new
one's, and the list stays otherwise; the hold lapses at once when it now carries lapse-on-reach and has its reached flag set,
its deadline going with it (R21, R23); the zone's records then have the states of R5, a change of what governs the zone is
handed on (R6), and CLAMPED says that a value the mask names was moved (R8 to R10). No slot's generation moves (R3). The
invariant of the hold table is a premise. -/
def Obligations.HoldAmendChangesTheNamedFields : Prop :=
  ∀ (slot gen mask : Byte) (target : Half) (halfBand priority : Byte) (minutes : Half) (floor reach : Byte) (s : State)
    (h : Hold),
    let c := Instr.holdAmend slot gen mask target halfBand priority minutes floor reach
    let boostField := mask.getLsbD 4 = true ∨ mask.getLsbD 5 = true
    Taken c s → BaseSafe s → s.holds.named ⟨slot.toNat, gen.toNat⟩ = some h → h.state.isLapsed = false →
    (h.kind = .base → mask.getLsbD 2 = false ∧ mask.getLsbD 3 = false ∧ ¬ boostField) → (h.kind = .ease → ¬ boostField) →
    (h.zone = .chill → s.map.step = none) →
    let lim := Config.targetRange h.zone s.map.regime
    let grid : Int := 5 * ((target.toInt + 2) / 5)
    let ranged := clampInt lim.1 lim.2 grid
    let bounded := match h.kind with
      | .base => ranged
      | .boost => min ranged (s.baseTarget h.zone)
      | .ease => max ranged (s.baseTarget h.zone)
    let band : Int := 5 * (((halfBand.toNat : Int) + 2) / 5)
    let newTarget := if mask.getLsbD 0 then bounded else h.target
    let newBand := if mask.getLsbD 1 then clampInt 5 20 band else h.halfBand
    let newPriority := if mask.getLsbD 2 then clampNat 1 7 priority.toNat else h.priority
    let due : Option Nat := if minutes.toNat = 0 then none else some (s.time.uptime + 60 * minutes.toNat)
    let key := DeadlineKey.holdExpiry slot.toNat
    let list := s.holds.lists.get h.zone
    ∃ (t : State) (h' : Hold) (clamped : Bool),
      let lapses := h'.lapseOnReach = true ∧ h'.figures.reached = true
      exec c s = .next (answered c s t ⟨.ok, clamped, [byteOf h'.state.code]⟩) ∧
      t = { s with
        holds := t.holds, time := t.time, link := t.link
        events := s.events ++ (if lapses then [.raise .holdLapsed] else []) ++ governmentHanded s t h.zone } ∧
      (clamped = true ↔ (mask.getLsbD 0 = true ∧ (ranged ≠ grid ∨ bounded ≠ ranged)) ∨
        (mask.getLsbD 1 = true ∧ clampInt 5 20 band ≠ band) ∨
        (mask.getLsbD 2 = true ∧ clampNat 1 7 priority.toNat ≠ priority.toNat) ∨
        (mask.getLsbD 4 = true ∧ floor ≠ 0 ∧ clampNat 40 100 floor.toNat ≠ floor.toNat)) ∧
      t.holds.at slot.toNat = some h' ∧
      h' = { h with
        target := newTarget
        halfBand := newBand
        priority := newPriority
        expiry := if mask.getLsbD 3 then due else h.expiry
        speedFloor := if mask.getLsbD 4 then (if floor = 0 then none else some (clampNat 40 100 floor.toNat))
          else h.speedFloor
        lapseOnReach := if mask.getLsbD 5 then decide (reach ≠ 0) else h.lapseOnReach
        figures := if newTarget = h.target ∧ newBand = h.halfBand then h.figures else ⟨false, 0, 0, 0, 0, false⟩
        state := if lapses then .lapsed .reached
          else if (t.effectiveHold h.zone).map (·.handle) = some h.handle then .effective else .shadowed } ∧
      (newPriority = h.priority → t.holds.lists = s.holds.lists) ∧
      (newPriority ≠ h.priority → EntersAt s.holds newPriority h.handle (list.filter fun x => decide (x ≠ h.handle))
        (t.holds.lists.get h.zone)) ∧
      (∀ j, j ≠ slot.toNat → t.holds.at j = (s.holds.at j).map (asResolved t h.zone)) ∧
      t.holds.slots.map (·.generation) = s.holds.slots.map (·.generation) ∧
      (∀ y, y ≠ h.zone → t.holds.lists.get y = s.holds.lists.get y) ∧
      (mask.getLsbD 3 = true → ¬ lapses → ∀ d, due = some d → ⟨key, ⟨d, s.time.ms⟩⟩ ∈ t.time.deadlines) ∧
      ((mask.getLsbD 3 = true ∧ due = none) ∨ lapses → ∀ e ∈ t.time.deadlines ++ t.time.expiries, e.key ≠ key) ∧
      (mask.getLsbD 3 = false → ¬ lapses → t.time = s.time) ∧ TimeKept [key] s t

/-- R17, R3: HOLD RETIRE refuses STALE a handle that names no record and FIXED a BASE hold; otherwise the slot is freed and
its generation advanced (255 becomes 1), the handle leaves its zone's list, its deadline and any expiry of it go, the zone's
records have the states of R5, a change of what governs the zone is handed on (R6), and the reply says whether the record was
LAPSED. The invariant of the hold table is a premise. -/
def Obligations.HoldRetireFreesTheSlot : Prop :=
  ∀ (slot gen : Byte) (s : State),
    let c := Instr.holdRetire slot gen
    let key := DeadlineKey.holdExpiry slot.toNat
    Taken c s → BaseSafe s →
    (s.holds.named ⟨slot.toNat, gen.toNat⟩ = none → exec c s = .next (refusedWith c s .stale)) ∧
    (∀ h, s.holds.named ⟨slot.toNat, gen.toNat⟩ = some h →
      (h.kind = .base → exec c s = .next (refusedWith c s .fixed)) ∧
      (h.kind ≠ .base → ∃ t : State,
        exec c s = .next (answered c s t ⟨.ok, false, [if h.state.isLapsed then 1 else 0]⟩) ∧
        t = { s with
          holds := t.holds, time := t.time, events := s.events ++ governmentHanded s t h.zone, link := t.link } ∧
        t.holds.slots[slot.toNat]? = some ⟨if gen.toNat = 255 then 1 else gen.toNat + 1, none⟩ ∧
        t.holds.lists.get h.zone
          = (s.holds.lists.get h.zone).filter (fun x => decide (x ≠ ⟨slot.toNat, gen.toNat⟩)) ∧
        (∀ y, y ≠ h.zone → t.holds.lists.get y = s.holds.lists.get y) ∧
        (∀ j, j ≠ slot.toNat → t.holds.at j = (s.holds.at j).map (asResolved t h.zone) ∧
          t.holds.slots[j]?.map (·.generation) = s.holds.slots[j]?.map (·.generation)) ∧
        t.time = { s.time with
          deadlines := s.time.deadlines.filter fun d => decide (d.key ≠ key)
          expiries := s.time.expiries.filter fun d => decide (d.key ≠ key) }))

/-- R20, R23: the delivery of a HOLD_EXPIRY lapses the hold, whatever its state, with cause EXPIRED; every other field keeps
its value, the hold keeps its place, HOLD_LAPSED is raised, the zone's other records have the states of R5, and what governs
the zone is handed on where it has changed (R6), and nothing else.

Model's choice: a hold that has lapsed already, which no run reaches, keeps its cause (log entry 21). -/
def Obligations.HoldExpiryLapsesTheHold : Prop :=
  ∀ (s : State) (i : Nat) (due : Instant) (h : Hold), Delivers s (.holdExpiry i) due → s.holds.at i = some h →
    let key := DeadlineKey.holdExpiry i
    ∃ t, exec (.holdExpiry i) s = .next t ∧ t.holds.lists = s.holds.lists ∧
      t = { s with
        holds := t.holds, time := t.time
        events := s.events ++ (if h.state.isLapsed then [] else [.raise .holdLapsed]) ++ governmentHanded s t h.zone } ∧
      t.holds.at i = some (if h.state.isLapsed then h else { h with state := .lapsed .expired }) ∧
      (∀ j, j ≠ i → t.holds.at j = (s.holds.at j).map (asResolved t h.zone)) ∧
      t.holds.slots.map (·.generation) = s.holds.slots.map (·.generation) ∧
      TimeKept [key] s t ∧ (∀ e ∈ t.time.expiries, e.key ≠ key) ∧
      (h.state.isLapsed = false → ∀ e ∈ t.time.deadlines, e.key ≠ key)

/-- R2, R5: the three BASE holds occupy their slots at all times and no other record is BASE, every slot's generation lies in 1
to 255, and every zone always has an EFFECTIVE hold; R4, R5: each zone's list holds the handles of its records, each exactly
once, by priority with the highest first, and of the zone's holds that are not LAPSED the first is EFFECTIVE and every other
SHADOWED. -/
def Obligations.EveryStepKeepsTheHoldTable : Prop :=
  ∀ s t : State, BaseSafe s → step s = .next t → BaseSafe t ∧ ∀ z, (t.effectiveHold z).isSome = true

/-! ### Zones -/

/-- R34, R41 to R45: a hold-change evaluation stores the handle, T, H, the weight and the floor; for CHILL in TRANSIT it does
nothing else; otherwise it makes steps 3 to 6 on the source and F as they stand, with no test of an F that is the placeholder
of reset (R32) or of a sensor in SEEDING (R35), advances no count of seconds, and ends as every evaluation does (R43, R46).

Model's choices: the excess is computed while the sensor is SEEDING too (log entry 15), the call is kept until F has taken a
value (log entry 44), and the defrost controller is handed a FRESH urgency of 1500 or more alone (log entry 27). -/
def Obligations.HoldChangeIsStored : Prop :=
  ∀ (z : Zone) (s : State) (g : Governing) (rest : List Handoff), takeFirst (holdChangeOf z) s.events = some (g, rest) →
    let r := s.zone z
    let r' : ZoneRec :=
      { r with handle := g.handle, t := g.target, h := g.halfBand, weight := g.weight, floor := g.floor }
    let untested := decide ((s.channel (s.entry z).sensor).state = .seeding) || r.placeholder
    (r.state = .transit →
      exec (.holdChangeEvaluation z) s
        = .next { s with eval := { s.eval with zones := s.eval.zones.set z r' }, events := rest }) ∧
    (r.state ≠ .transit → ∃ t, exec (.holdChangeEvaluation z) s = .next t ∧
      t = { s with
        eval := { s.eval with zones := t.eval.zones, paths := t.eval.paths, demand := t.eval.demand }
        events := rest ++ handedOn t z } ∧
      t.zone z = { r' with
        state := (t.zone z).state, waitAge := (t.zone z).waitAge, excess := (t.zone z).excess
        urgency := (t.zone z).urgency, sat := (t.zone z).sat } ∧
      Settles s t z r' (callDue r' false untested) false ∧ (∀ y, y ≠ z → t.zone y = s.zone y) ∧ EndsEvaluation s t z)

/-- R33, R35 to R39, R41, R42, R44, R45, R48, R53, R125: a one-second evaluation, on the report that it takes, selects the
source and F by R35's table, in every source and state; judges the call afresh after the changes of R37; makes steps 3 to 6;
and lowers the grace count while no door of the zone is open. Leaving BLIND removes the half and its deadline (R37). The
zone's BLIND lengths are read, and F is no placeholder from its first value on (R32). The other zones' records, the settings
and the other blocks stay.

Model's choices: the wait age rises in the evaluation that begins CALLING too (log entry 13), the excess is computed in SEEDING
and in TRANSIT too (log entry 15), and the fields `placeholder` and `blindUsed` are the model's own (log entries 44, 45). -/
def Obligations.OneSecondEvaluationSettlesTheZone : Prop :=
  ∀ (z : Zone) (s : State) (rep : Report) (rest : List Handoff), takeFirst (oneSecondOf z) s.events = some (rep, rest) →
    let e := s.entry z
    let r := s.zone z
    let x := sourceDue (seenWith rep s) e r.f
    let seeding := decide ((seenWith rep s e.sensor).1 = .seeding)
    let afresh := decide ((r.source = .fallback ∧ x.1 = .sensed) ∨ (r.source = .blind ∧ x.1 ≠ .blind))
    let half : Option BlindHalf :=
      if x.1 = .blind then (if r.source = .blind then r.half else some .call) else if r.source = .blind then none else r.half
    let r' : ZoneRec := { r with source := x.1, f := x.2, half := half }
    let reach : List DeadlineKey := ((s.effectiveHold z).map fun h => .holdExpiry h.handle.slot).toList
    ∃ t, exec (.oneSecondEvaluation z) s = .next t ∧
      t = { s with
        holds := t.holds, time := t.time, events := t.events
        eval := { s.eval with
          zones := t.eval.zones, paths := t.eval.paths, demand := t.eval.demand
          blindUsed := s.eval.blindUsed.set z (s.eval.blindLen.get z) } } ∧
      (t.zone z).source = x.1 ∧ (t.zone z).f = x.2 ∧ (t.zone z).half = half ∧
      (t.zone z).placeholder = (r.placeholder && (decide (x.1 = .blind) || seeding)) ∧
      Settles s t z r' (callDue r' afresh seeding) true ∧
      (t.zone z).grace = (if (e.doors.any fun d => decide ((s.door d).state ≠ .closed)) then r.grace else r.grace - 1) ∧
      ((t.zone z).handle, (t.zone z).t, (t.zone z).h, (t.zone z).weight, (t.zone z).floor, (t.zone z).doorPaused)
        = (r.handle, r.t, r.h, r.weight, r.floor, r.doorPaused) ∧
      (x.1 ≠ .blind → r.source = .blind → (t.zone z).blindDue = none ∧ NoneOf [.blindHalf z] t) ∧
      ((x.1 = .blind ↔ r.source = .blind) → (t.zone z).blindDue = r.blindDue ∧ TimeKept reach s t) ∧
      TimeKept (.blindHalf z :: reach) s t ∧ (∀ y, y ≠ z → t.zone y = s.zone y) ∧ EndsEvaluation s t z

/-- R50, R51, R52, with R35, R38, R49, R53: a one-second evaluation with a usable F times the zone's excursions: beyond the
margin a count rises while the zone is not suppressed, up to its limit, is held while it is, and is cleared inside; a full
count with the flag clear sets WARM or COLD and raises the notice, and the flag goes at its own limit; FREEZE has no cold side.
With no usable F, or in TRANSIT, counts and flags stand.

Model's choices: a warm count above a limit that a write has lowered is brought to the limit (log entry 26), and the defrost
controller is handed a FRESH urgency of 1500 or more alone (log entry 27). -/
def Obligations.OneSecondEvaluationTimesExcursions : Prop :=
  ∀ (z : Zone) (s : State) (rep : Report) (rest : List Handoff), takeFirst (oneSecondOf z) s.events = some (rep, rest) →
    let e := s.entry z
    let r := s.zone z
    let x := sourceDue (seenWith rep s) e r.f
    let tested := x.1 ≠ .blind ∧ (seenWith rep s e.sensor).1 ≠ .seeding ∧ r.state ≠ .transit
    let held := suppressedIn s z = true
    let limit := 60 * s.eval.excursionTime
    let hot := r.t + r.h + e.warmMargin < x.2
    let chilly := x.2 < r.t - r.h - 30
    let warmCount := if ¬ hot then 0 else if held then r.warmCount else min limit (r.warmCount + 1)
    let coldCount := if ¬ chilly then 0 else if held then r.coldCount else min 900 (r.coldCount + 1)
    let warms := tested ∧ hot ∧ ¬ held ∧ limit ≤ warmCount ∧ r.warm = false
    let colds := tested ∧ z ≠ .freeze ∧ chilly ∧ ¬ held ∧ 900 ≤ coldCount ∧ r.cold = false
    ∃ t l, exec (.oneSecondEvaluation z) s = .next t ∧
      (tested → (t.zone z).warmCount = warmCount ∧
        ((t.zone z).warm = true ↔ warms ∨ (r.warm = true ∧ (hot ∨ r.t + r.h < x.2)))) ∧
      (tested → z ≠ .freeze → (t.zone z).coldCount = coldCount ∧
        ((t.zone z).cold = true ↔ colds ∨ (r.cold = true ∧ x.2 < r.t - r.h))) ∧
      (¬ tested → (t.zone z).warmCount = r.warmCount ∧ (t.zone z).warm = r.warm) ∧
      (¬ tested ∨ z = .freeze → (t.zone z).coldCount = r.coldCount ∧ (t.zone z).cold = r.cold) ∧
      t.events = rest ++ (if warms then [.raise .warmExcursion] else []) ++ (if colds then [.raise .coldExcursion] else [])
        ++ l ++ handedOn t z ∧
      (∀ x ∈ l, x = .raise .holdLapsed ∨ ∃ g, x = .holdChange z g)

/-- R27 to R29, R21: a one-second evaluation counts the hold that is EFFECTIVE: one second of effective time always, one out
of band where F is tested, lies outside the widened band and the zone is not suppressed, and the reached flag where F lies in
the band; a BOOST that carries lapse-on-reach and reaches lapses with cause REACHED, after its second is counted, and what
then governs the zone is handed on. Other records keep their figures. The invariant of the hold table is a premise.

Model's choices: SAT is set by the second that brings a count to 65535 (log entry 14), the figures are judged by the EFFECTIVE
hold's own target and half-band (log entry 38), and the defrost controller is handed a FRESH urgency of 1500 or more alone (log
entry 27). -/
def Obligations.OneSecondEvaluationCountsTheHold : Prop :=
  ∀ (z : Zone) (s : State) (rep : Report) (rest : List Handoff) (h : Hold),
    takeFirst (oneSecondOf z) s.events = some (rep, rest) → BaseSafe s → s.effectiveHold z = some h →
    let e := s.entry z
    let x := sourceDue (seenWith rep s) e (s.zone z).f
    let tested := x.1 ≠ .blind ∧ (seenWith rep s e.sensor).1 ≠ .seeding ∧ (s.zone z).state ≠ .transit
    let out := tested ∧ suppressedIn s z = false ∧
      (x.2 < h.target - h.halfBand - 10 ∨ h.target + h.halfBand + 10 < x.2)
    let inside := tested ∧ h.target - h.halfBand ≤ x.2 ∧ x.2 ≤ h.target + h.halfBand
    let carry (m sec : Nat) : Nat × Nat :=
      if 65535 ≤ m then (m, sec) else if 59 ≤ sec then (m + 1, 0) else (m, sec + 1)
    let c := h.figures
    let eff := carry c.effMinutes c.effSeconds
    let away := if out then carry c.outMinutes c.outSeconds else (c.outMinutes, c.outSeconds)
    let lapses := h.kind = .boost ∧ h.lapseOnReach = true ∧ c.reached = false ∧ inside
    ∃ t l, exec (.oneSecondEvaluation z) s = .next t ∧ t.holds.lists = s.holds.lists ∧
      t.holds.at h.handle.slot = some { h with
        figures := ⟨c.reached || decide inside, eff.1, eff.2, away.1, away.2,
          c.sat || decide (65535 ≤ eff.1 ∨ (out ∧ 65535 ≤ away.1))⟩
        state := if lapses then .lapsed .reached else .effective } ∧
      (∀ j, j ≠ h.handle.slot → t.holds.at j = (s.holds.at j).map (asResolved t z)) ∧
      t.holds.slots.map (·.generation) = s.holds.slots.map (·.generation) ∧
      (lapses → NoneOf [.holdExpiry h.handle.slot] t) ∧
      (¬ lapses → ∀ y, t.effectiveHold y = (if y = z then t.holds.at h.handle.slot else s.effectiveHold y)) ∧
      t.events = rest ++ l ++ (if lapses then .raise .holdLapsed :: governmentHanded s t z else []) ++ handedOn t z ∧
      (∀ x ∈ l, x = .raise .warmExcursion ∨ x = .raise .coldExcursion)

/-- R38, R39: a one-second evaluation that finds the sensor FAULTED or RECOVERING and no usable fallback makes the zone BLIND:
the half is CALL, F is kept, the BLIND_HALF deadline is due 60 times the calling half ahead, and outside TRANSIT the zone calls
with urgency 200.

R40: the delivery of BLIND_HALF changes the half, re-arms the deadline from the delivered due time, and the schedule evaluation
follows, steps 3 to 6 and its end: a BLIND zone outside TRANSIT calls with urgency 200 in CALL and is SATISFIED with urgency 0
in IDLE.

Model's choices: the lengths used at a delivery are those that the zone's last one-second evaluation read (R33, log entry 45),
a zone that is not BLIND keeps its call until F has taken a value (log entry 44), the excess is computed in TRANSIT too (log
entry 15), and the defrost controller is handed a FRESH urgency of 1500 or more alone (log entry 27). -/
def Obligations.BlindZoneFollowsItsSchedule : Prop :=
  (∀ (z : Zone) (s : State) (rep : Report) (rest : List Handoff), takeFirst (oneSecondOf z) s.events = some (rep, rest) →
     let e := s.entry z
     let now := seenWith rep s
     let secs := 60 * (s.eval.blindLen.get z).calling
     (s.zone z).source ≠ .blind → (now e.sensor).1 = .faulted ∨ (now e.sensor).1 = .recovering →
     (∀ c o, e.fallback = some (c, o) → (now c).1 ≠ .good ∧ (now c).1 ≠ .suspect) →
     ∃ t, exec (.oneSecondEvaluation z) s = .next t ∧
       (t.zone z).source = .blind ∧ (t.zone z).f = (s.zone z).f ∧ (t.zone z).half = some .call ∧
       (t.zone z).blindDue = some (s.time.uptime + secs) ∧ DueAfter (.blindHalf z) secs s t ∧
       ((s.zone z).state ≠ .transit → (t.zone z).calls = true ∧ (t.zone z).urgency = 200)) ∧
  (∀ (z : Zone) (s : State) (due : Instant) (half : BlindHalf), Delivers s (.blindHalf z) due → (s.zone z).half = some half →
     let len := s.eval.blindUsed.get z
     let next : BlindHalf × Nat := match half with
       | .call => (.idle, 60 * len.idle)
       | .idle => (.call, 60 * len.calling)
     let r : ZoneRec := { s.zone z with half := some next.1, blindDue := some (due.sec + next.2) }
     let untested := decide ((s.channel (s.entry z).sensor).state = .seeding) || r.placeholder
     ∃ t, exec (.blindHalf z) s = .next t ∧
       t = { s with
         eval := { s.eval with zones := t.eval.zones, paths := t.eval.paths, demand := t.eval.demand }, time := t.time
         events := s.events ++ handedOn t z } ∧
       t.zone z = { r with
         state := (t.zone z).state, waitAge := (t.zone z).waitAge, excess := (t.zone z).excess
         urgency := (t.zone z).urgency, sat := (t.zone z).sat } ∧
       Settles s t z r (callDue r false untested) false ∧ (∀ y, y ≠ z → t.zone y = s.zone y) ∧ EndsEvaluation s t z ∧
       ⟨.blindHalf z, ⟨due.sec + next.2, due.ms⟩⟩ ∈ t.time.deadlines ∧
       (∀ e ∈ t.time.expiries, e.key ≠ .blindHalf z) ∧ TimeKept [.blindHalf z] s t)

/-- R47, R48, R150, R34: a door event is an evaluation of the zone the active entries give the door: door-paused is set while a
door of the zone is OPEN, an opening sets the grace count to 0 and a close that leaves no door open sets it to 600; steps 3 to
6 and the end of an evaluation follow; no other zone is evaluated, and no count of seconds moves.

Model's choices: the call is kept until F has taken a value (log entry 44), the excess is computed in SEEDING and in TRANSIT
too (log entry 15), and the defrost controller is handed a FRESH urgency of 1500 or more alone (log entry 27). -/
def Obligations.DoorEventPausesItsZone : Prop :=
  ∀ (d : Door) (s : State) (ev : DoorEvent) (rest : List Handoff), takeFirst (doorEventOf d) s.events = some (ev, rest) →
    (∀ z, s.zoneOfDoor d = some z →
      let anyOpen := (s.entry z).doors.any fun x => decide ((s.door x).state ≠ .closed)
      let r : ZoneRec := { s.zone z with
        doorPaused := (s.entry z).doors.any fun x => decide ((s.door x).state = .opened)
        grace := match ev with
          | .open_ => 0
          | .ajar => (s.zone z).grace
          | .close => if anyOpen then (s.zone z).grace else 600 }
      let untested := decide ((s.channel (s.entry z).sensor).state = .seeding) || r.placeholder
      ∃ t, exec (.doorChangeEvaluation d) s = .next t ∧
        t = { s with
          eval := { s.eval with zones := t.eval.zones, paths := t.eval.paths, demand := t.eval.demand }
          events := rest ++ handedOn t z } ∧
        t.zone z = { r with
          state := (t.zone z).state, waitAge := (t.zone z).waitAge, excess := (t.zone z).excess
          urgency := (t.zone z).urgency, sat := (t.zone z).sat } ∧
        Settles s t z r (callDue r false untested) false ∧ (∀ y, y ≠ z → t.zone y = s.zone y) ∧ EndsEvaluation s t z) ∧
    (s.zoneOfDoor d = none → exec (.doorChangeEvaluation d) s = .next { s with events := rest })

/-- R45, R31: every zone urgency and path urgency lies in 0 to 9999, and a zone that is SATISFIED or in TRANSIT has urgency
0; R112: CHILL is in TRANSIT exactly while a transit step is present. -/
def Obligations.EveryStepKeepsTheZoneRecords : Prop :=
  ∀ s t : State, step s = .next t → (UrgencySafe s → UrgencySafe t) ∧ (TransitSafe s → TransitSafe t)

/-! ### Zone map, motors and flap -/

/-- R114, R115, R116, R53: REGIME SET is refused FIELD or BUSY, answered OK for the present regime, and otherwise ACCEPTED:
the shadow entry is written, CHILL enters TRANSIT, its path is formed anew and handed on and its demand ends; the change waits
in CLOSING for the damper, in FLAP for the flap's 4 s drive to the new side, or, with the damper at rest at 0 and the flap on
the side, is committed within the request.

Model's choices: the start and the step of the change reach the air handler in the same step (log entry 19), whose fan laws use
the path state that it has taken (log entry 41); where the change is committed at once, a change of CHILL's holds still in
flight is part of what the commit hands on (log entry 20), the excess is computed in SEEDING too (log entry 15), BLIND restarts
with the length that CHILL's last one-second evaluation read (log entry 45), and F stays the placeholder of reset until it
takes a value (log entry 44); the defrost controller is handed a FRESH urgency of 1500 or more alone (log entry 27). -/
def Obligations.RegimeSetBeginsTheChange : Prop :=
  ∀ (b : Byte) (s : State), Taken (.regimeSet b) s →
    (2 < b.toNat → exec (.regimeSet b) s = .next (refusedWith (.regimeSet b) s .field)) ∧
    (∀ r, regimeOf b = some r →
      (s.map.step ≠ none → exec (.regimeSet b) s = .next (refusedWith (.regimeSet b) s .busy)) ∧
      (s.map.step = none →
        (r = s.map.regime → exec (.regimeSet b) s = .next (answered (.regimeSet b) s s ⟨.ok, false, []⟩)) ∧
        (r ≠ s.map.regime →
          let side : Path := if r = .chilled then .fresh else .freeze
          let shut := s.air.damperMotion = .atRest ∧ s.air.damperPos = 0
          let there := s.air.flapMotion = .atRest ∧ s.air.flapSide = some side
          let amb := ambientOf (standing s .s5)
          let old := s.entry .chill
          let entry : MapEntry := ⟨side, some r, .s1, s.map.pairs.chill.get r, [.dr], .damper side, old.weight, old.warmMargin⟩
          ∃ u t, exec (.regimeSet b) s = .next (answered (.regimeSet b) s t ⟨.accepted, false, []⟩) ∧
            u = { s with
              map := { s.map with target := some r, shadow := entry, step := some .closing, startUp := false }
              eval := u.eval, air := u.air
              events := s.events ++ (if s.eval.demand then [.airDrawer] else []) ++ handedOn u .fresh } ∧
            u.eval = { s.eval with
              zones := { s.eval.zones with chill := { s.zone .chill with
                state := .transit, waitAge := 0, urgency := 0, excess := 0, sat := false } }
              paths := u.eval.paths, demand := false } ∧
            PathFormed u old.path ∧ (∀ p, p ≠ old.path → u.eval.paths.get p = s.eval.paths.get p) ∧
            Recomputed { s with map := u.map, eval := u.eval } u amb ∧
            (¬ shut → t = u) ∧
            (shut → ¬ there →
              t = { u with map := { u.map with step := some .flap }, air := t.air } ∧
              Recomputed { u with
                map := t.map
                air := { u.air with flapMotion := .moving side ⟨s.time.uptime + 4, s.time.ms⟩ } } t amb) ∧
            (shut → there → Commits u t))))

/-- R109, R110: MAP SET is refused FIELD for an undefined zone, CHILL regime or fallback, or the zone's own sensor;
otherwise the pair, its offset clamped, is stored in the map settings and reaches the entries it is for, and nothing else
changes. -/
def Obligations.MapSetStoresThePair : Prop :=
  ∀ (zone regime fallback : Byte) (offset : Half) (s : State),
    let c := Instr.mapSet zone regime fallback offset
    let known := fallback.toNat ≤ 5 ∨ fallback.toNat = 255
    Taken c s →
    (2 < zone.toNat ∨ (zone.toNat = 1 ∧ 2 < regime.toNat) ∨ ¬ known ∨ fallback.toNat = zone.toNat →
      exec c s = .next (refusedWith c s .field)) ∧
    (zone.toNat ≤ 2 → (zone.toNat = 1 → regime.toNat ≤ 2) → known → fallback.toNat ≠ zone.toNat →
      ∃ (pair : Fallback) (moved : Bool) (m : ZoneMap),
        (fallback.toNat = 255 → pair = none ∧ moved = false) ∧
        (∀ ch, channelOf fallback = some ch → pair = some (ch, clampInt (-200) 200 offset.toInt) ∧
          (moved = true ↔ offset.toInt < -200 ∨ 200 < offset.toInt)) ∧
        exec c s = .next (answered c s { s with map := m } ⟨.ok, moved,
          [zone, if zone.toNat = 1 then regime else 0, fallback] ++ i16 (fallbackOffset pair)⟩) ∧
        (zone.toNat = 0 → m = { s.map with
          pairs := { s.map.pairs with fresh := pair }
          active := { s.map.active with fresh := { s.map.active.fresh with fallback := pair } } }) ∧
        (zone.toNat = 2 → m = { s.map with
          pairs := { s.map.pairs with freeze := pair }
          active := { s.map.active with freeze := { s.map.active.freeze with fallback := pair } } }) ∧
        (zone.toNat = 1 → ∀ r, regimeOf regime = some r →
          let taken (e : MapEntry) : MapEntry := if e.regime = some r then { e with fallback := pair } else e
          m = { s.map with
            pairs := { s.map.pairs with chill := s.map.pairs.chill.set r pair }
            active := { s.map.active with chill := taken s.map.active.chill }
            shadow := taken s.map.shadow }))

/-- R162, R117, R22, R54, R120: a flap drive that has run its 4 s leaves the flap at rest on its destination side, and the air
handler recomputes; in step FLAP the change is committed: entries, holds, the end-of-TRANSIT evaluation, and REGIME_DONE.
Before its end a drive goes on.

Model's choices: the fan laws use the path state that the air handler has taken (log entry 41); a commit with no target regime,
which no run reaches, keeps the regime (log entry 21); a change of CHILL's holds still in flight is part of what the commit
hands on (log entry 20); the excess is computed in SEEDING too (log entry 15); BLIND restarts with the length that CHILL's last
one-second evaluation read (log entry 45), and F stays the placeholder of reset until it takes a value (log entry 44); the
commit reaches the air handler in the same step (log entry 19); and the defrost controller is handed a FRESH urgency of 1500 or
more alone (log entry 27). -/
def Obligations.FlapArrivalCommitsTheRegime : Prop :=
  ∀ (s : State) (dest : Path) (ends : Instant), s.air.flapMotion = .moving dest ends →
    let arrived : State := { s with air := { s.air with flapSide := some dest, flapMotion := .atRest } }
    (s.now.toMs < ends.toMs → exec .flapArrival s = .next s) ∧
    (ends.toMs ≤ s.now.toMs → ∃ t, exec .flapArrival s = .next t ∧
      (s.map.step ≠ some .flap →
        t = { arrived with air := t.air } ∧ Recomputed arrived t (ambientOf (standing s .s5))) ∧
      (s.map.step = some .flap → Commits arrived t))

/-- R161, R163, R164, R155: a step moves a moving damper or valve by 1 toward its target; a homing one issues its step, the
position reading 0 until the valve leaves its FRESH stop; at rest there is no step. A PWM period boundary loads the running
duties.

R161, R163, R164, R115, R116: at its target a moving motor comes to rest and the arrival is reported: the valve's to the
arbiter and to the defrost controller, the damper's at 0 to a CLOSING regime change, which then drives the flap unless it
rests on the side already, where the change is committed (R117). At the end of homing the motor takes up its target.

Model's choices: the step of the regime change reaches the air handler in the same step (log entry 19), whose fan laws use the
path state that it has taken (log entry 41); a change of CHILL's holds still in flight is part of what the commit hands on (log
entry 20); the excess is computed in SEEDING too (log entry 15); BLIND restarts with the length that CHILL's last one-second
evaluation read (log entry 45), and F stays the placeholder of reset until it takes a value (log entry 44); a commit with no
target regime, which no run reaches, keeps the regime (log entry 21); HOMING carries the count of its steps (log entry 28); and
the defrost controller is handed a FRESH urgency of 1500 or more alone (log entry 27). -/
def Obligations.MotorsStepAndReportTheirArrivals : Prop :=
  (∀ s : State,
     (s.air.damperMotion = .atRest → exec .damperStep s = .next s) ∧
     (s.air.damperMotion = .moving → exec .damperStep s = .next { s with air := { s.air with
       damperPos := if s.air.damperPos < s.air.damperTarget then s.air.damperPos + 1
         else if s.air.damperTarget < s.air.damperPos then s.air.damperPos - 1 else s.air.damperPos } }) ∧
     (∀ n, s.air.damperMotion = .homing n → exec .damperStep s = .next
       (if n < 440 then { s with air := { s.air with damperMotion := .homing (n + 1) } } else s)) ∧
     (s.air.valveMotion = .atRest → exec .valveStep s = .next s) ∧
     (s.air.valveMotion = .moving → exec .valveStep s = .next { s with air := { s.air with
       valvePos := if s.air.valvePos < s.air.valveTarget then s.air.valvePos + 1
         else if s.air.valveTarget < s.air.valvePos then s.air.valvePos - 1 else s.air.valvePos } }) ∧
     (∀ n, s.air.valveMotion = .homing n → exec .valveStep s = .next
       (if n < 200 then { s with air := { s.air with
         valveMotion := .homing (n + 1), valvePos := if n < 140 then 0 else n - 139 } } else s)) ∧
     exec .pwmPeriodBoundary s = .next { s with air := { s.air with
       runFf := s.air.ff, runZf := s.air.zf, runCf := s.air.cf } }) ∧
  (∀ s : State,
     let report : List Handoff := [.valveToArbiter s.air.valveTarget, .valveToDefrost s.air.valveTarget]
     let shut : State := { s with air := { s.air with damperMotion := .atRest, damperPos := 0 } }
     let onSide := s.air.flapMotion = .atRest ∧ s.air.flapSide = some s.targetSide
     let flapStarts (t : State) : Prop :=
       t = { shut with map := { s.map with step := some .flap }, air := t.air } ∧
       Recomputed { shut with
         map := t.map
         air := { shut.air with flapMotion := .moving s.targetSide ⟨s.time.uptime + 4, s.time.ms⟩ } } t
         (ambientOf (standing s .s5))
     (s.air.valveMotion = .moving → s.air.valvePos = s.air.valveTarget → exec .valveArrival s = .next { s with
       air := { s.air with valveMotion := .atRest }, events := s.events ++ report }) ∧
     (s.air.valveMotion = .homing 200 →
       (s.air.valveTarget = 60 → exec (.homingEnd .valve) s = .next { s with
         air := { s.air with valvePos := 60, valveMotion := .atRest }, events := s.events ++ report }) ∧
       (s.air.valveTarget ≠ 60 → exec (.homingEnd .valve) s = .next { s with
         air := { s.air with valvePos := 60, valveMotion := .moving } })) ∧
     (s.air.damperMotion = .moving → s.air.damperPos = s.air.damperTarget →
       (s.map.step ≠ some .closing ∨ s.air.damperPos ≠ 0 → exec .damperArrival s = .next { s with
         air := { s.air with damperMotion := .atRest } }) ∧
       (s.map.step = some .closing → s.air.damperPos = 0 → ∃ t, exec .damperArrival s = .next t ∧
         (¬ onSide → flapStarts t) ∧ (onSide → Commits shut t))) ∧
     (s.air.damperMotion = .homing 440 →
       (s.air.damperTarget ≠ 0 → exec (.homingEnd .damper) s = .next { s with
         air := { s.air with damperPos := 0, damperMotion := .moving } }) ∧
       (s.air.damperTarget = 0 →
         (s.map.step ≠ some .closing → exec (.homingEnd .damper) s = .next shut) ∧
         (s.map.step = some .closing → ∃ t, exec (.homingEnd .damper) s = .next t ∧
           (¬ onSide → flapStarts t) ∧ (onSide → Commits shut t)))))

/-- R116, R162: the drawer damper is at position 0 whenever the flap is moving, and outside TRANSIT the flap side matches the
path of CHILL's active map entry. -/
def Obligations.EveryStepKeepsTheDamperShutWhileTheFlapMoves : Prop :=
  ∀ s t : State, DamperSafe s → step s = .next t → DamperSafe t

/-! ### Measurement -/

/-- R124, R125, R127, R128, R133, R135 to R138: a conversion stores its count; a bad one stores its fault kind, holds the
converted value and F and moves the state toward FAULTED, raising SENSOR_FAULT on each entry into it; a good one is
interpolated between the effective breakpoints and seeds, filters, holds or reseeds F by the state. The report of the record
as it then stands goes to each zone whose trigger channel it is (R33), and S3's, S4's and S5's to the defrost controller and
the air handler.

Model's choices: a count above 4095, which no ADC gives, is taken as OPEN (log entry 39), and a zone's trigger channel is the
one latched at the second's boundary (log entry 23). -/
def Obligations.ConversionMovesAndReportsTheChannel : Prop :=
  ∀ (c : Channel) (count : Nat) (s : State),
    let r := s.channel c
    let b (i : Nat) : Int := breakpoint s.meas.corrections c i
    let v : Int :=
      b (count / 256) + ((b (count / 256 + 1) - b (count / 256)) * ((count % 256 : Nat) : Int) + 128) / 256
    let third := 3 ≤ r.badRun + 1
    let half : Int := 2 ^ (r.shift - 1)
    let step (d : Int) : Int := if r.shift = 0 then d
      else if 0 ≤ d then (d + half) / 2 ^ r.shift else -((-d + half) / 2 ^ r.shift)
    ∃ t, exec (.channelConversion c count) s = .next t ∧ t = { s with meas := t.meas, events := t.events } ∧
      t.meas.corrections = s.meas.corrections ∧ t.meas.mains = s.meas.mains ∧
      (∀ x, x ≠ c → t.channel x = s.channel x) ∧ (t.channel c).raw = count ∧ (t.channel c).shift = r.shift ∧
      (count < 48 ∨ 4047 < count →
        (t.channel c).faultKind = (if count < 48 then some .short else some .open_) ∧
        (t.channel c).converted = r.converted ∧ (t.channel c).f = r.f ∧
        ((t.channel c).state, (t.channel c).badRun) = (match r.state with
          | .seeding => if third then (.faulted, 3) else (.seeding, r.badRun + 1)
          | .good => (.suspect, 1)
          | .suspect => if third then (.faulted, 3) else (.suspect, r.badRun + 1)
          | .faulted => (.faulted, min 3 (r.badRun + 1))
          | .recovering => (.faulted, 1)) ∧
        (t.channel c).goodRun = (if r.state = .recovering then 0 else r.goodRun)) ∧
      (48 ≤ count → count ≤ 4047 →
        (t.channel c).faultKind = r.faultKind ∧ (t.channel c).converted = some v ∧
        ((t.channel c).state, (t.channel c).f) = (match r.state with
          | .seeding => (.good, v)
          | .good => (.good, r.f + step (v - r.f))
          | .suspect => (.good, r.f + step (v - r.f))
          | .faulted => (.recovering, r.f)
          | .recovering => if 5 ≤ r.goodRun + 1 then (.good, v) else (.recovering, r.f)) ∧
        (t.channel c).badRun = (if r.state = .recovering then r.badRun else 0) ∧
        (t.channel c).goodRun = (if r.state = .faulted then 1 else if r.state ≠ .recovering then r.goodRun
          else if 5 ≤ r.goodRun + 1 then 0 else r.goodRun + 1)) ∧
      let rep : Report := ⟨c, (t.channel c).state, (t.channel c).f, (t.channel c).converted⟩
      t.events = s.events ++ (if r.state ≠ .faulted ∧ (t.channel c).state = .faulted then [.raise .sensorFault] else [])
        ++ (([Zone.fresh, .chill, .freeze].filter fun z => decide (s.eval.trigger.get z = c)).map fun z => .oneSecond z rep)
        ++ (match c with
          | .s3 => [.s3Report rep]
          | .s4 => [.s4Report rep, .airS4 rep]
          | .s5 => [.airS5 rep]
          | _ => [])

/-- R130, R131: CORRECTION SET is checked in order, FIELD, FIELD, DUPLICATE, NONMONOTONIC, NONMONOTONIC, and otherwise writes
or empties the slot, which the reply shows, and changes nothing else. -/
def Obligations.CorrectionSetIsCheckedAndWritten : Prop :=
  ∀ (slot op channel index : Byte) (value : Half) (s : State),
    let c := Instr.correctionSet slot op channel index value
    let slots := s.meas.corrections
    let falls (l : List (Option Correction)) (ch : Channel) : Prop :=
      ∀ i < 16, breakpoint l ch (i + 1) < breakpoint l ch i
    let old := slots.getD slot.toNat none
    let fits (new : Option Correction) : Prop :=
      ∀ k, old = some k ∨ new = some k → falls (slots.set slot.toNat new) k.channel
    let written (new : Option Correction) (bytes : List Byte) : State := answered c s
      { s with meas := { s.meas with corrections := slots.set slot.toNat new } } ⟨.ok, false, bytes⟩
    Taken c s →
    (3 < slot.toNat ∨ 1 < op.toNat → exec c s = .next (refusedWith c s .field)) ∧
    (slot.toNat ≤ 3 → op.toNat = 0 →
      (fits none → exec c s = .next (written none [slot, 0, 0, 0, 0, 0])) ∧
      (¬ fits none → exec c s = .next (refusedWith c s .nonmonotonic))) ∧
    (slot.toNat ≤ 3 → op.toNat = 1 →
      (5 < channel.toNat ∨ 16 < index.toNat → exec c s = .next (refusedWith c s .field)) ∧
      (∀ ch, channelOf channel = some ch → index.toNat ≤ 16 →
        let new : Correction := ⟨ch, index.toNat, value.toInt⟩
        let twice := ∃ i k, i < 4 ∧ i ≠ slot.toNat ∧ slots.getD i none = some k ∧ k.channel = ch ∧
          k.index = index.toNat
        let inRange := -500 ≤ value.toInt ∧ value.toInt ≤ 700
        (twice → exec c s = .next (refusedWith c s .duplicate)) ∧
        (¬ twice → ¬ (inRange ∧ fits (some new)) → exec c s = .next (refusedWith c s .nonmonotonic)) ∧
        (¬ twice → inRange → fits (some new) →
          exec c s = .next (written (some new) ([slot, 1, channel, index] ++ halfBytes value)))))

/-- R140: a mains sample acts by the mains state: two in a row below the sag threshold declare SAG, fifty in a row at or above
the recover threshold declare NORMAL, and a declaration is handed to the arbiter. -/
def Obligations.MainsSampleDeclaresSagAndNormal : Prop :=
  ∀ (count : Nat) (s : State),
    let m := s.meas.mains
    let put (m' : Mains) : State := { s with meas := { s.meas with mains := { m' with sample := count } } }
    (m.state = .normal →
      (count < m.sag →
        (m.lowRun = 0 → exec (.mainsSample count) s = .next (put { m with lowRun := 1 })) ∧
        (1 ≤ m.lowRun → exec (.mainsSample count) s = .next { put { m with state := .sag, lowRun := 0, highRun := 0 } with
          events := s.events ++ [.mains .sag] })) ∧
      (m.sag ≤ count → exec (.mainsSample count) s = .next (put { m with lowRun := 0 }))) ∧
    (m.state = .sag →
      (count < m.recover → exec (.mainsSample count) s = .next (put { m with highRun := 0 })) ∧
      (m.recover ≤ count →
        (m.highRun < 49 → exec (.mainsSample count) s = .next (put { m with highRun := m.highRun + 1 })) ∧
        (49 ≤ m.highRun → exec (.mainsSample count) s
          = .next { put { m with state := .normal, lowRun := 0, highRun := 0 } with
            events := s.events ++ [.mains .normal] })))

/-! ### Doors -/

/-- R142, R143, R146, R148: the majority of three sub-samples is counted against the debounced level; the sample that
completes the required run opens or closes the door, with the record, the DOOR_AJAR deadline and the two hand-offs.

R147: the delivery of DOOR_AJAR makes an OPEN door AJAR, raises the notice and hands the event on; it acts on no other
state of the door.

Model's choice: a close of a door without an opened-at, which no run reaches, captures 0 (log entry 21). -/
def Obligations.DoorsOpenCloseAndGoAjar : Prop :=
  (∀ (d : Door) (a b c : Level) (s : State),
     let r := s.door d
     let x : Level := if a = b ∨ a = c then a else b
     let needed := if s.doors.rejection = 0 then 1 else if s.doors.rejection = 40 then 4
       else if s.doors.rejection = 80 then 8 else 16
     let put (r' : DoorRec) : State := { s with doors := { s.doors with recs := s.doors.recs.set d r' } }
     let openFor := min 65535 (s.time.uptime - r.openedAt.getD s.time.uptime)
     (x = r.level → exec (.doorSample d a b c) s = .next (put { r with run := 0 })) ∧
     (x ≠ r.level → r.run + 1 < needed → exec (.doorSample d a b c) s = .next (put { r with run := r.run + 1 })) ∧
     (x ≠ r.level → needed ≤ r.run + 1 → ∃ t, exec (.doorSample d a b c) s = .next t ∧
       t = { s with doors := { s.doors with recs := t.doors.recs }, time := t.time, events := t.events } ∧
       (∀ y, y ≠ d → t.door y = s.door y) ∧ TimeKept [.doorAjar d] s t ∧
       (x = .high → t.door d = { r with
           level := .high, run := 0, state := .opened, openedAt := some s.time.uptime, count := min 65535 (r.count + 1) } ∧
         DueAfter (.doorAjar d) s.doors.ajarTime s t ∧
         (∀ e ∈ t.time.deadlines ++ t.time.expiries, e.key = .doorAjar d →
           e.due = ⟨s.time.uptime + s.doors.ajarTime, s.time.ms⟩) ∧
         t.events = s.events ++ [.doorToZone d .open_, .airDoor]) ∧
       (x = .low → t.door d = { r with
           level := .low, run := 0, state := .closed, lastDuration := some openFor, overflow := r.overflow || r.unread
           unread := true } ∧
         (∀ e ∈ t.time.deadlines ++ t.time.expiries, e.key ≠ .doorAjar d) ∧
         t.events = s.events ++ [.doorToZone d .close, .airDoor]))) ∧
  (∀ (d : Door) (s : State) (due : Instant), Delivers s (.doorAjar d) due →
     ((s.door d).state = .opened → exec (.doorAjar d) s = .next { expired s (.doorAjar d) with
       doors := { s.doors with recs := s.doors.recs.set d { s.door d with state := .ajar } }
       events := s.events ++ [.raise .doorAjar, .doorToZone d .ajar, .airDoor] }) ∧
     ((s.door d).state ≠ .opened → exec (.doorAjar d) s = .next (expired s (.doorAjar d))))

/-- R152, R185: DOOR QUERY refuses an undefined door FIELD; otherwise it reports the record as it stands and then clears
UNREAD, and with the clear option OVERFLOW and the count; nothing else changes.

Model's choice: an open door without an opened-at, which no run reaches, has been open for 0 s (log entry 21). -/
def Obligations.DoorQueryReportsAndClears : Prop :=
  ∀ (door clear : Byte) (s : State), Taken (.doorQuery door clear) s →
    (3 < door.toNat →
      exec (.doorQuery door clear) s = .next (refusedWith (.doorQuery door clear) s .field)) ∧
    (∀ d, doorOf door = some d →
      let r := s.door d
      let flags := (if r.openedAt.isSome then 1 else 0) + (if r.lastDuration.isSome then 2 else 0)
        + (if r.unread then 4 else 0) + (if r.overflow then 8 else 0)
      let soFar := if r.state = .closed then 0 else min 65535 (s.time.uptime - r.openedAt.getD s.time.uptime)
      let r' : DoorRec := if clear = 0 then { r with unread := false }
        else { r with unread := false, overflow := false, count := 0 }
      exec (.doorQuery door clear) s = .next (answered (.doorQuery door clear) s
        { s with doors := { s.doors with recs := s.doors.recs.set d r' } }
        ⟨.ok, false, [door, byteOf r.state.code, byteOf flags] ++ u32 (r.openedAt.getD 0)
          ++ u16 (r.lastDuration.getD 0) ++ u16 r.count ++ u16 soFar⟩))

/-! ### Air handler -/

/-- R156 to R159, R119: on every event it takes, the air handler does the event's own work and then recomputes the three set
duties and the damper target by their laws, from the other blocks' state as it stands. A change of path state brings the path
state and the valve target: a valve at rest there is reported at once, one at rest elsewhere moves, one that moves is re-aimed
(R163), and an arrival is handed to the arbiter and to the defrost controller; an S5 report brings its ambient temperature (R125). No other event touches the path state and the valve.

Model's choices: a start's valve target travels as a path-state event (log entry 10), and the laws use the path state that
the air handler has taken (log entry 41); the fan delay is stated beside it, in FanDelayHoldsTheFreezerFan. -/
def Obligations.AirDutiesFollowTheirLaws : Prop :=
  ∀ (k : AirKind) (s : State) (w : AirWork) (rest : List Handoff), takeFirst (airEvent k) s.events = some (w, rest) →
    let taken := k = .pathState
    let rests := s.air.valveMotion = .atRest
    let amb := match w with
      | .s5 r => ambientOf (r.state, r.f)
      | _ => ambientOf (standing s .s5)
    ∃ t, exec (.airRecompute k) s = .next t ∧
      t = { s with
        air := t.air, time := t.time
        events := rest ++ (if taken ∧ rests ∧ s.air.valvePos = s.arb.valveTarget then
          [.valveToArbiter s.air.valvePos, .valveToDefrost s.air.valvePos] else []) } ∧
      Recomputed { s with air := { s.air with
        path := if taken then s.arb.state else s.air.path
        valveTarget := if taken then s.arb.valveTarget else s.air.valveTarget
        valveMotion := if taken ∧ rests ∧ s.air.valvePos ≠ s.arb.valveTarget then .moving else s.air.valveMotion
        fanDelay := t.air.fanDelay } } t amb ∧
      TimeKept [.fanDelay] s t ∧
      (k ≠ .pathState → k ≠ .s4Report → t.air.fanDelay = s.air.fanDelay ∧ t.time = s.time)

/-- R160: at the entry into RUN_FREEZE the fan delay is ENDED when S4 is not GOOD or at or below -50, and otherwise ACTIVE
with FAN_DELAY 90 s ahead; outside RUN_FREEZE it is absent; an S4 report or the delivery of FAN_DELAY ends an ACTIVE one, and
the recomputation follows: ZF runs at 100 unless ZD is OPEN, and does so where the arbiter has departed from RUN_FREEZE but
the departure has not been taken.

Model's choice: the recomputation at FAN_DELAY uses the path state that the air handler has taken, for FF and CF too (log entry
41). -/
def Obligations.FanDelayHoldsTheFreezerFan : Prop :=
  ∀ (s : State) (rest : List Handoff),
    let cold (x : ChannelState × Int) : Prop := x.1 ≠ .good ∨ x.2 ≤ -50
    let s4 := standing s .s4
    (∀ b, takeFirst (airEvent .pathState) s.events = some (.pathState b, rest) →
      ∃ t, exec (.airRecompute .pathState) s = .next t ∧
        (s.arb.state ≠ .runFreeze → t.air.fanDelay = none ∧ NoneOf [.fanDelay] t) ∧
        (s.arb.state = .runFreeze → b = false → t.air.fanDelay = s.air.fanDelay ∧ t.time = s.time) ∧
        (s.arb.state = .runFreeze → b = true →
          (cold s4 → t.air.fanDelay = some .ended ∧ NoneOf [.fanDelay] t) ∧
          (¬ cold s4 → t.air.fanDelay = some .active ∧ DueAfter .fanDelay 90 s t))) ∧
    (∀ r, takeFirst (airEvent .s4Report) s.events = some (.s4 r, rest) →
      ∃ t, exec (.airRecompute .s4Report) s = .next t ∧
        (s.air.fanDelay = some .active → cold (r.state, r.f) → t.air.fanDelay = some .ended ∧ NoneOf [.fanDelay] t) ∧
        (s.air.fanDelay ≠ some .active ∨ ¬ cold (r.state, r.f) → t.air.fanDelay = s.air.fanDelay ∧ t.time = s.time)) ∧
    (∀ due, Delivers s .fanDelay due → ∃ t, exec .fanDelay s = .next t ∧
      t = { expired s .fanDelay with air := t.air } ∧
      Recomputed { s with air := { s.air with
        fanDelay := if s.air.fanDelay = some .active then some .ended else s.air.fanDelay } } t
        (ambientOf (standing s .s5)) ∧
      (s.air.path = .runFreeze → s.air.fanDelay = some .active → (s.door .zd).state ≠ .opened →
        s.defrost.phase ≠ .heat → s.defrost.phase ≠ .drip → t.air.zf = 100))

/-! ### Path arbiter -/

/-- R60, R63, R65, with R58 and R59: a review in OFF chooses the start path by preference, higher urgency, FREEZE at
equality, or the one path that is urgent and available, and aims the valve at its end; a start in progress is abandoned when
its path has become unavailable. A review in PUMPDOWN or HALTED changes nothing.

Model's choice: the valve target of a start travels to the air handler as a path-state event (log entry 10). -/
def Obligations.ReviewInOffChoosesTheStartPath : Prop :=
  ∀ (s : State) (rest : List Handoff), takeFirst (onlyEvent .review) s.events = some ((), rest) →
    let quiet : State := { s with events := rest }
    let u (p : Path) : Nat := match p with
      | .fresh => s.eval.paths.fresh.urgency
      | .freeze => if s.defrost.phase = .pending then max s.eval.paths.freeze.urgency 1 else s.eval.paths.freeze.urgency
    let free (p : Path) : Prop := match p with
      | .fresh => s.defrost.recovery = false
      | .freeze => s.defrost.phase ≠ .release ∧ s.defrost.phase ≠ .heat ∧ s.defrost.phase ≠ .drip
    let want (p : Path) : Prop := 0 < u p ∧ free p
    let pref (p : Path) : Prop := s.arb.resumePref = some p ∧ want p
    let aim (p : Path) : Nat := match p with
      | .fresh => 0
      | .freeze => 120
    ((s.arb.state = .pumpdown ∨ s.arb.state.isHalted = true) → exec .arbiterReview s = .next quiet) ∧
    (s.arb.state = .off → s.arb.startPath = none →
      (s.arb.inhibitRunning = true ∨ (¬ want .fresh ∧ ¬ want .freeze) → exec .arbiterReview s = .next quiet) ∧
      (∀ p q, p ≠ q → s.arb.inhibitRunning = false →
        pref p ∨ (¬ pref q ∧ want p ∧ (¬ want q ∨ u q < u p ∨ (u q = u p ∧ p = .freeze))) →
        exec .arbiterReview s = .next { s with
          arb := { s.arb with startPath := some p, resumePref := none, valveTarget := aim p }
          events := rest ++ [.airPathState false] })) ∧
    (∀ p, s.arb.state = .off → s.arb.startPath = some p →
      (free p → exec .arbiterReview s = .next quiet) ∧
      (¬ free p → exec .arbiterReview s = .next { s with
        arb := { s.arb with startPath := none, valveTarget := 60 }, events := rest ++ [.airPathState false] }))

/-- R66 to R73, R57, R60 to R62: a review in RUN_FRESH or RUN_FREEZE first leaves an unavailable path, then decides by the
table of R66 once dwell-min is met, RUN_FREEZE pinned in PRECHILL; RUN_FRESH is left through PUMPDOWN, RUN_FREEZE for
RUN_FRESH, whose speed target is computed at the entry, when that is urgent and available, and for OFF otherwise; the change
is handed to the air handler and the defrost controller; a run that stays has its speed target recomputed and nothing else.

Model's choice: a RUN_FRESH found unavailable, which no run reaches, is left through PUMPDOWN (log entry 21). -/
def Obligations.ReviewOfARunDecides : Prop :=
  ∀ (s : State) (rest : List Handoff) (p q : Path), takeFirst (onlyEvent .review) s.events = some ((), rest) →
    p ≠ q → s.arb.state = (match p with
      | .fresh => .runFresh
      | .freeze => .runFreeze) →
    let u (x : Path) : Nat := match x with
      | .fresh => s.eval.paths.fresh.urgency
      | .freeze => if s.defrost.phase = .pending then max s.eval.paths.freeze.urgency 1 else s.eval.paths.freeze.urgency
    let free (x : Path) : Prop := match x with
      | .fresh => s.defrost.recovery = false
      | .freeze => s.defrost.phase ≠ .release ∧ s.defrost.phase ≠ .heat ∧ s.defrost.phase ≠ .drip
    let want (x : Path) : Prop := 0 < u x ∧ free x
    let pinned := p = .freeze ∧ s.defrost.phase = .prechill
    let may := s.arb.dwellMinMet = true ∧ ¬ pinned
    let switch := may ∧ want q ∧ (u p = 0 ∨ u p + 300 ≤ u q ∨ s.arb.dwellMaxMet = true)
    let stop := may ∧ u p = 0 ∧ ¬ want q
    (free p → ¬ switch → ¬ stop →
      exec .arbiterReview s = .next { s with arb := { s.arb with speedTarget := speedAim s p }, events := rest }) ∧
    (¬ free p ∨ switch ∨ stop → ∃ t, exec .arbiterReview s = .next t ∧
      t = { s with
        arb := t.arb, time := t.time
        events := rest ++ [.airPathState false, .arbiterToDefrost (decide (p = .fresh)) false] } ∧
      (p = .fresh → t.arb = { s.arb with state := .pumpdown, speed := 40, valveTarget := 60 } ∧
        DueAfter .stage 45 s t ∧ NoneOf [.dwellMin, .dwellMax] t ∧ TimeKept [.dwellMin, .dwellMax, .stage] s t) ∧
      (p = .freeze → (want q ∧ (¬ free p ∨ switch)) →
        t.arb = { s.arb with
          state := .runFresh, valveTarget := 0, dwellMinMet := false, dwellMaxMet := false
          speedTarget := speedAim s .fresh } ∧
        DueAfter .dwellMin 240 s t ∧ DueAfter .dwellMax 1800 s t ∧ TimeKept [.dwellMin, .dwellMax] s t) ∧
      (p = .freeze → ¬ (want q ∧ (¬ free p ∨ switch)) →
        t.arb = { s.arb with state := .off, speed := 0, valveTarget := 60, inhibitRunning := true } ∧
        DueAfter .inhibit 300 s t ∧ NoneOf [.dwellMin, .dwellMax, .speedStep] t ∧
        TimeKept [.dwellMin, .dwellMax, .speedStep, .inhibit] s t))

/-- R64, R65, R72, R57, R60: the valve's arrival at the end of an available start path completes the start: the run state,
speed 40 and the speed target, the dwell flags clear, the three deadlines, and the change handed on; an arrival that finds the
path unavailable abandons the start, one elsewhere leaves an available start in progress, and one taken in PUMPDOWN or HALTED
changes nothing.

Model's choices: an arrival at any rest, in every state, is taken by START_COMPLETION (log entry 25); the completion hands the
valve target again (log entry 42); the target of an abandoned start travels as a path-state event (log entry 10). -/
def Obligations.ArrivalCompletesTheStart : Prop :=
  ∀ (s : State) (pos : Nat) (rest : List Handoff), takeFirst arbiterArrivalOf s.events = some (pos, rest) →
    let free (p : Path) : Prop := match p with
      | .fresh => s.defrost.recovery = false
      | .freeze => s.defrost.phase ≠ .release ∧ s.defrost.phase ≠ .heat ∧ s.defrost.phase ≠ .drip
    let endOf (p : Path) : Nat := match p with
      | .fresh => 0
      | .freeze => 120
    (s.arb.state = .pumpdown ∨ s.arb.state.isHalted = true →
      exec .startCompletion s = .next { s with events := rest }) ∧
    (∀ p, s.arb.state = .off → s.arb.startPath = some p →
      (free p → pos = endOf p → ∃ t, exec .startCompletion s = .next t ∧
        t = { s with
          arb := { s.arb with
            state := match p with
              | .fresh => .runFresh
              | .freeze => .runFreeze
            startPath := none, speed := 40, speedTarget := speedAim s p, valveTarget := endOf p
            dwellMinMet := false, dwellMaxMet := false }
          time := t.time
          events := rest ++ [.airPathState (decide (p = .freeze)), .arbiterToDefrost false false] } ∧
        DueAfter .dwellMin 240 s t ∧ DueAfter .dwellMax 1800 s t ∧ DueAfter .speedStep 10 s t ∧
        TimeKept [.dwellMin, .dwellMax, .speedStep] s t) ∧
      (free p → pos ≠ endOf p → exec .startCompletion s = .next { s with events := rest }) ∧
      (¬ free p → exec .startCompletion s = .next { s with
        arb := { s.arb with startPath := none, valveTarget := 60 }, events := rest ++ [.airPathState false] }))

/-- R69, R57, R60: the delivery of STAGE ends PUMPDOWN: into RUN_FREEZE with the speed kept and the speed target computed when
FREEZE is urgent and available, and otherwise into OFF with the compressor stopped and INHIBIT inserted; the change is handed
to the air handler and the defrost controller. -/
def Obligations.PumpdownEndsAtItsStage : Prop :=
  ∀ (s : State) (due : Instant), s.arb.state = .pumpdown → Delivers s .stage due →
    let u := if s.defrost.phase = .pending then max s.eval.paths.freeze.urgency 1 else s.eval.paths.freeze.urgency
    let want := 0 < u ∧ s.defrost.phase ≠ .release ∧ s.defrost.phase ≠ .heat ∧ s.defrost.phase ≠ .drip
    ∃ t, exec .pumpdownStage s = .next t ∧ (∀ e ∈ t.time.expiries, e.key ≠ .stage) ∧
      t = { s with
        arb := t.arb, time := t.time
        events := s.events ++ [.airPathState (decide want), .arbiterToDefrost false false] } ∧
      (want → t.arb = { s.arb with
          state := .runFreeze, valveTarget := 120, dwellMinMet := false, dwellMaxMet := false
          speedTarget := speedAim s .freeze } ∧
        DueAfter .dwellMin 240 s t ∧ DueAfter .dwellMax 1800 s t ∧ TimeKept [.stage, .dwellMin, .dwellMax] s t) ∧
      (¬ want → t.arb = { s.arb with state := .off, speed := 0, valveTarget := 60, inhibitRunning := true } ∧
        DueAfter .inhibit 300 s t ∧ NoneOf [.speedStep] t ∧
        TimeKept [.stage, .dwellMin, .dwellMax, .speedStep, .inhibit] s t)

/-- R82, R83: the STAGE of a fault holdoff, or of a recovery wait over a path context, restores the context: OFF, the stack
empty, the preference of the saved run, the change handed on, and then a review, in which a running INHIBIT starts nothing;
the STAGE of a recovery wait over a holdoff context resumes the holdoff for its seconds. -/
def Obligations.StageRestoresTheContext : Prop :=
  ∀ (s : State) (due : Instant) (l : SavedState), Delivers s .stage due →
    let pref : Option Path := match l with
      | .runFresh => some .fresh
      | .runFreeze => some .freeze
      | .off => none
      | .pumpdown => none
    let off : State := { expired s .stage with
      arb := { s.arb with state := .off, startPath := none, resumePref := pref, stack := [], valveTarget := 60 }
      events := s.events ++ [.airPathState false, .arbiterToDefrost false false] }
    let restores (c : Instr) : Prop :=
      (s.arb.inhibitRunning = true → exec c s = .next off) ∧
      (∃ t, exec c s = .next t ∧ exec .arbiterReview { off with events := .review :: off.events } = .next t)
    (s.arb.state = .halted .fault → s.arb.stack = [.path l] → restores .holdoffStage) ∧
    (s.arb.state = .halted .sag →
      (s.arb.stack = [.path l] → restores .recoveryStage) ∧
      (∀ n, s.arb.stack = [.holdoff n, .path l] → ∃ t, exec .recoveryStage s = .next t ∧
        t = { s with
          arb := { s.arb with state := .halted .fault, stack := [.path l], valveTarget := 60 }, time := t.time
          events := s.events ++ [.airPathState false, .arbiterToDefrost false true] } ∧
        DueAfter .stage n s t ∧ (∀ e ∈ t.time.expiries, e.key ≠ .stage) ∧ TimeKept [.stage] s t))

/-- R61, R62, R60: the delivery of DWELL_MIN or DWELL_MAX sets its flag and the delivery of INHIBIT clears inhibit running,
and then a review is made; in PUMPDOWN and HALTED, where a review does nothing, the flag is all that changes.

R74, R72: each delivery of SPEED_STEP re-arms it 10 s after the delivered due time; in RUN_FRESH and RUN_FREEZE the
target is recomputed, the commanded speed moves toward it by at most 5, and a review follows; in PUMPDOWN and HALTED the speed
stays.

Model's choices: the order of target, slew and review at a SPEED_STEP (log entry 18), and a SPEED_STEP in HALTED, which no
run reaches (log entry 21). -/
def Obligations.ArbiterTimersAct : Prop :=
  (∀ (s : State) (due : Instant) (k : DeadlineKey) (c : Instr) (a : Arbiter),
     (k = .dwellMin ∧ c = .dwellMin ∧ a = { s.arb with dwellMinMet := true }) ∨
       (k = .dwellMax ∧ c = .dwellMax ∧ a = { s.arb with dwellMaxMet := true }) ∨
       (k = .inhibit ∧ c = .inhibit ∧ a = { s.arb with inhibitRunning := false }) →
     Delivers s k due →
     let flagged : State := { expired s k with arb := a }
     (∃ t, exec c s = .next t ∧ exec .arbiterReview { flagged with events := .review :: s.events } = .next t) ∧
     (s.arb.state = .pumpdown ∨ s.arb.state.isHalted = true → exec c s = .next flagged)) ∧
  (∀ (s : State) (due : Instant), Delivers s .speedStep due →
     let rearmed : Timebase := { s.time with
       deadlines := placeDeadline ⟨.speedStep, ⟨due.sec + 10, due.ms⟩⟩ (dropKey .speedStep s.time.deadlines)
       expiries := dropKey .speedStep s.time.expiries }
     (s.arb.state = .pumpdown ∨ s.arb.state.isHalted = true →
       exec .speedStep s = .next { s with time := rearmed }) ∧
     (∀ p, s.arb.state.path = some p →
       let target := speedAim s p
       let speed := if s.arb.speed < target then min target (s.arb.speed + 5) else max target (s.arb.speed - 5)
       ∃ t, exec .speedStep s = .next t ∧
         exec .arbiterReview { s with
           arb := { s.arb with speedTarget := target, speed := speed }, time := rearmed, events := .review :: s.events }
         = .next t))

/-- R81, R82: a declared SAG pushes the context of the state it interrupts, stops a running compressor, ends a start or a
recovery wait, saves a holdoff's seconds, hands the change on and raises MAINS_SAG; in LOCKOUT it changes nothing. A declared
NORMAL starts the 180 s recovery wait in HALTED(SAG), and elsewhere changes nothing.

Model's choice: the seconds saved of a holdoff are at least 1 (log entry 36). -/
def Obligations.SagHaltsAndNormalWaits : Prop :=
  ∀ (s : State) (rest : List Handoff),
    (takeFirst mainsOf s.events = some (.sag, rest) →
      let halted (endedFresh : Bool) : List Handoff :=
        rest ++ [.airPathState false, .arbiterToDefrost endedFresh true, .raise .mainsSag]
      (s.arb.state = .halted .lockout → exec .arbiterSag s = .next { s with events := rest }) ∧
      (s.arb.state.commandsRun = true → ∃ t, exec .arbiterSag s = .next t ∧
        t = { s with
          arb := { s.arb with
            state := .halted .sag, stack := .path (savedState s.arb.state) :: s.arb.stack, speed := 0, valveTarget := 60
            inhibitRunning := true }
          time := t.time, events := halted (decide (s.arb.state = .runFresh)) } ∧
        DueAfter .inhibit 300 s t ∧ NoneOf [.speedStep, .dwellMin, .dwellMax, .stage] t ∧
        TimeKept [.inhibit, .speedStep, .dwellMin, .dwellMax, .stage] s t) ∧
      (s.arb.state = .off → exec .arbiterSag s = .next { s with
        arb := { s.arb with
          state := .halted .sag, stack := .path .off :: s.arb.stack, startPath := none, valveTarget := 60 }
        events := halted false }) ∧
      (s.arb.state = .halted .fault → ∃ t n, exec .arbiterSag s = .next t ∧
        t = { s with
          arb := { s.arb with state := .halted .sag, stack := .holdoff n :: s.arb.stack, valveTarget := 60 }
          time := t.time, events := halted false } ∧
        1 ≤ n ∧ NoneOf [.stage] t ∧ TimeKept [.stage] s t ∧
        ∀ d, (s.time.deadlines ++ s.time.expiries).find? (fun e => decide (e.key = .stage)) = some d →
          n = max 1 (d.due.sec - s.time.uptime)) ∧
      (s.arb.state = .halted .sag → ∃ t, exec .arbiterSag s = .next t ∧
        t = { s with time := t.time, events := rest ++ [.raise .mainsSag] } ∧ NoneOf [.stage] t ∧ TimeKept [.stage] s t)) ∧
    (takeFirst mainsOf s.events = some (.normal, rest) →
      (s.arb.state = .halted .sag → ∃ t, exec .arbiterNormal s = .next t ∧
        t = { s with time := t.time, events := rest } ∧ DueAfter .stage 180 s t ∧ TimeKept [.stage] s t) ∧
      (s.arb.state ≠ .halted .sag → exec .arbiterNormal s = .next { s with events := rest }))

/-- R85: CLEAR LOCKOUT is refused LATE outside LOCKOUT; in LOCKOUT it clears the count and leaves the arbiter in OFF, where
it reviews, or, under a standing SAG, in HALTED(SAG) over a saved OFF with MAINS_SAG raised; each change is handed on.

Model's choice: under a standing SAG no review comes before the SAG is taken (log entry 24). -/
def Obligations.ClearLockoutEndsTheLockout : Prop :=
  ∀ s : State, Taken .clearLockout s →
    let off : State := { s with
      arb := { s.arb with state := .off, valveTarget := 60, faultCount := 0, runSeconds := 0 }
      events := s.events ++ [.airPathState false, .arbiterToDefrost false false] }
    let replied (t : State) : Host.Outcome State Fault Refusal := .next (answered .clearLockout s t ⟨.ok, false, []⟩)
    (s.arb.state ≠ .halted .lockout → exec .clearLockout s = .next (refusedWith .clearLockout s .late)) ∧
    (s.arb.state = .halted .lockout →
      (s.meas.mains.state = .normal →
        (∃ t, exec .clearLockout s = replied t ∧
          exec .arbiterReview { off with events := .review :: off.events } = .next t) ∧
        (s.arb.inhibitRunning = true → s.arb.startPath = none → exec .clearLockout s = replied off)) ∧
      (s.meas.mains.state = .sag → exec .clearLockout s = replied { off with
        arb := { off.arb with state := .halted .sag, stack := .path .off :: s.arb.stack, startPath := none }
        events := off.events ++ [.airPathState false, .arbiterToDefrost false true, .raise .mainsSag] }))

/-- R57: "The commanded speed is 0 unless the path state is RUN_FRESH, RUN_FREEZE or PUMPDOWN, and in those states it lies
between 30 and 100"; in PUMPDOWN it is 40.

R78: the protection stack has at most two contexts, of the shape the path state admits, and is empty in LOCKOUT. -/
def Obligations.EveryStepKeepsSpeedAndStack : Prop :=
  (∀ s t : State, SpeedSafe s → step s = .next t → SpeedSafe t) ∧
  (∀ s t : State, StackSafe s → step s = .next t → StackSafe t)

/-! ### Drive link -/

/-- R75, R76, R84: at a tick with no fault to take, because the link is not SILENT, the latest DRIVE carried no speed, or the
compressor is not commanded to run (R77), an unanswered DRIVE raises the miss count up to 5, where SILENT is set, a run second
is counted while the compressor runs under a fault count, and the next DRIVE is sent with the speed as it stands and a CHECK
that makes the sum 0; the receiver waits for 5Ah.

Model's choices: the sequence number is kept as the one the next DRIVE carries (log entry 9), and the transmit buffer holds the
latest DRIVE (log entry 32). -/
def Obligations.DriveTickSendsTheNextFrame : Prop :=
  ∀ s : State,
    let missed := s.drive.last ≠ none ∧ s.drive.answered = false
    let miss := if missed then min 5 (s.drive.miss + 1) else s.drive.miss
    let silent := s.drive.silent = true ∨ (missed ∧ 5 ≤ s.drive.miss + 1)
    ¬ (silent ∧ ∃ f, s.drive.last = some f ∧ 0 < f.speed) ∨ s.arb.state.commandsRun = false →
    ∃ t check, exec .driveLinkTick s = .next t ∧ t = { s with arb := t.arb, drive := t.drive } ∧
      t.arb = (if 0 < s.arb.speed ∧ 0 < s.arb.faultCount then
        (if 1800 ≤ s.arb.runSeconds + 1 then { s.arb with faultCount := 0, runSeconds := 0 }
          else { s.arb with runSeconds := s.arb.runSeconds + 1 }) else s.arb) ∧
      t.drive = { s.drive with
        seq := (s.drive.seq + 1) % 256, miss := miss, silent := decide silent, last := some ⟨s.drive.seq, s.arb.speed⟩
        answered := false, rx := .waiting, tx := [0xA5, byteOf s.drive.seq, byteOf s.arb.speed, check] } ∧
      byteSum [byteOf s.drive.seq, byteOf s.arb.speed, check] = 0

/-- R77, R79, R80: a link that is SILENT at a tick, or becomes so by the fifth miss of that tick, whose latest DRIVE carried a
speed, and a valid STATUS with a nonzero code that answers such a DRIVE, is a compressor fault while the compressor is
commanded to run: it is stopped, INHIBIT is inserted, the fault is counted and its notice raised, the change is handed on, and
the state is HALTED(FAULT) with the state left saved and the 600 s holdoff, or, at the third fault, LOCKOUT with the stack
empty. The DRIVE sent in such a tick carries speed 0 (R75).

Model's choices: the sequence number is kept as the one the next DRIVE carries (log entry 9), a second STATUS that answers the
latest DRIVE is valid too (log entry 31), and the transmit buffer holds the latest DRIVE (log entry 32). -/
def Obligations.CompressorFaultHalts : Prop :=
  ∀ (s : State) (f : SentDrive) (seq actual code check : Byte) (c : Instr),
    let ticked := c = .driveLinkTick ∧ (s.drive.silent = true ∨ (s.drive.answered = false ∧ 5 ≤ s.drive.miss + 1))
    let told := c = .statusFrame seq actual code check ∧ seq + actual + code + check = 0 ∧ seq.toNat = f.seq ∧ code ≠ 0
    s.arb.state.commandsRun = true → s.drive.last = some f → 0 < f.speed → ticked ∨ told →
    let third := 2 ≤ s.arb.faultCount
    ∃ t sum, exec c s = .next t ∧
      t = { s with
        arb := { s.arb with
          state := if third then .halted .lockout else .halted .fault
          stack := if third then [] else .path (savedState s.arb.state) :: s.arb.stack
          speed := 0, valveTarget := 60, inhibitRunning := true, runSeconds := 0
          faultCount := min 3 (s.arb.faultCount + 1) }
        drive := t.drive, time := t.time
        events := s.events ++ [.airPathState false, .arbiterToDefrost (decide (s.arb.state = .runFresh)) true,
          .raise .compressorFault] ++ (if third then [.raise .compressorLockout] else []) } ∧
      DueAfter .inhibit 300 s t ∧ NoneOf [.speedStep, .dwellMin, .dwellMax] t ∧
      (¬ third → DueAfter .stage 600 s t) ∧ (third → NoneOf [.stage] t) ∧
      TimeKept [.inhibit, .speedStep, .dwellMin, .dwellMax, .stage] s t ∧
      (ticked → byteSum [byteOf s.drive.seq, 0, sum] = 0 ∧ t.drive = { s.drive with
        seq := (s.drive.seq + 1) % 256, miss := if s.drive.answered then s.drive.miss else min 5 (s.drive.miss + 1)
        silent := true, last := some ⟨s.drive.seq, 0⟩, answered := false, rx := .waiting
        tx := [0xA5, byteOf s.drive.seq, 0, sum] }) ∧
      (told → t.drive = { s.drive with
        rx := .waiting, lastCode := code.toNat, actualSpeed := actual.toNat, miss := 0, silent := false, answered := true })

/-- R76, R77, R193: a valid STATUS stores the actual speed and the code and ends a silence; one that fails a test is
discarded; the receiver waits for 5Ah, gathers four bytes and judges them as the frame; a framing error discards them.

Model's choice: a second STATUS that answers the latest DRIVE is valid too (log entry 31). -/
def Obligations.StatusFrameIsStoredOrDiscarded : Prop :=
  ∀ (s : State) (seq actual code check : Byte),
    let valid := seq + actual + code + check = 0 ∧ ∃ f, s.drive.last = some f ∧ seq.toNat = f.seq
    let waiting : State := { s with drive := { s.drive with rx := .waiting } }
    (¬ valid → exec (.statusFrame seq actual code check) s = .next waiting) ∧
    (valid → code = 0 ∨ s.arb.state.commandsRun = false ∨ (∀ f, s.drive.last = some f → f.speed = 0) →
      exec (.statusFrame seq actual code check) s = .next { s with drive := { s.drive with
        rx := .waiting, lastCode := code.toNat, actualSpeed := actual.toNat, miss := 0, silent := false
        answered := true } }) ∧
    (s.drive.rx = .waiting →
      exec (.driveReceiverByte (.char code)) s
        = .next (if code = 0x5A then { s with drive := { s.drive with rx := .body [] } } else s)) ∧
    (∀ got, s.drive.rx = .body got → got.length < 3 →
      exec (.driveReceiverByte (.char code)) s = .next { s with drive := { s.drive with rx := .body (got ++ [code]) } }) ∧
    (s.drive.rx = .body [seq, actual, code] →
      exec (.driveReceiverByte (.char check)) s = exec (.statusFrame seq actual code check) s) ∧
    exec (.driveReceiverByte .framingError) s = .next waiting

/-! ### Defrost -/

/-- R101, R102, R99: DEFROST NOW and DEFROST CANCEL are answered by phase; a request that is refused, or a NOW in PENDING,
changes nothing. NOW begins PENDING, or PRECHILL when the arbiter is in RUN_FREEZE, and ends RECOVER with DEFROST_DONE; CANCEL
leaves PENDING and PRECHILL with the accumulator 3600 short of the interval, and HEAT for DRIP with the interval as it was;
each change of phase is handed to the arbiter and to the air handler. -/
def Obligations.DefrostRequestsAreAnsweredByPhase : Prop :=
  ∀ s : State,
    let changed : List Handoff := [.review, .airDefrost]
    let runs := s.arb.state = .runFreeze
    (Taken .defrostNow s →
      (s.defrost.phase = .prechill ∨ s.defrost.phase = .release ∨ s.defrost.phase = .heat ∨ s.defrost.phase = .drip →
        exec .defrostNow s = .next (refusedWith .defrostNow s .busy)) ∧
      (s.defrost.phase = .pending → exec .defrostNow s = .next (answered .defrostNow s s ⟨.ok, false, []⟩)) ∧
      (s.defrost.phase = .idle ∨ s.defrost.phase = .recover →
        ∃ t, exec .defrostNow s = .next (answered .defrostNow s t ⟨.ok, false, []⟩) ∧
          t = { s with
            defrost := { s.defrost with phase := if runs then .prechill else .pending }, time := t.time, link := t.link
            events := s.events ++ (if s.defrost.phase = .recover then [.raise .defrostDone] else []) ++ changed
              ++ (if runs then changed else []) } ∧
          (¬ runs → DueAfter .pendingLimit 1800 s t) ∧
          (runs → DueAfter .phase 600 s t ∧ NoneOf [.pendingLimit] t) ∧
          (s.defrost.phase = .recover → ¬ runs → NoneOf [.phase] t) ∧ TimeKept [.pendingLimit, .phase] s t)) ∧
    (Taken .defrostCancel s →
      (s.defrost.phase = .idle ∨ s.defrost.phase = .release ∨ s.defrost.phase = .drip ∨ s.defrost.phase = .recover →
        exec .defrostCancel s = .next (refusedWith .defrostCancel s .late)) ∧
      (s.defrost.phase = .pending ∨ s.defrost.phase = .prechill → 21600 ≤ s.defrost.interval →
        ∃ t, exec .defrostCancel s = .next (answered .defrostCancel s t ⟨.ok, false, []⟩) ∧
          t = { s with
            defrost := { s.defrost with phase := .idle, accumulator := s.defrost.interval - 3600 }, time := t.time
            events := s.events ++ changed, link := t.link } ∧
          NoneOf [.phase, .pendingLimit] t ∧ TimeKept [.phase, .pendingLimit] s t) ∧
      (s.defrost.phase = .heat →
        ∃ t, exec .defrostCancel s = .next (answered .defrostCancel s t ⟨.ok, false, []⟩) ∧
          t = { s with
            defrost := { s.defrost with phase := .drip, heater := false }, time := t.time, events := s.events ++ changed
            link := t.link } ∧
          DueAfter .phase 300 s t ∧ TimeKept [.phase] s t))

/-- R89, R90, R91, R95 to R98, R125: an S4 report first adds its terms to the accumulator, in every phase but HEAT, held at
999,999; then it makes the comparison of IDLE, the heat test on what it carries, or the test that ends RECOVER. -/
def Obligations.S4ReportCountsFrostAndTests : Prop :=
  ∀ (s : State) (r : Report) (rest : List Handoff), takeFirst s4ReportOf s.events = some (r, rest) →
    let changed : List Handoff := [.review, .airDefrost]
    let runs := s.arb.state = .runFreeze
    let terms := (if runs then 1 else 0) + (if (s.door .zd).state ≠ .closed then 8 else 0)
      + (if (s.door .dr).state ≠ .closed ∧ ((s.entry .chill).regime = some .soft ∨ (s.entry .chill).regime = some .frozen)
        then 8 else 0)
    let acc := min 999999 (s.defrost.accumulator + terms)
    let counted : State := { s with defrost := { s.defrost with accumulator := acc }, events := rest }
    (s.defrost.phase ≠ .heat → s.defrost.phase ≠ .recover → (s.defrost.phase = .idle → acc < s.defrost.interval) →
      exec .defrostS4Report s = .next counted) ∧
    (s.defrost.phase = .idle → s.defrost.interval ≤ acc → ∃ t, exec .defrostS4Report s = .next t ∧
      t = { s with
        defrost := { s.defrost with accumulator := acc, phase := if runs then .prechill else .pending }, time := t.time
        events := rest ++ changed ++ (if runs then changed else []) } ∧
      (¬ runs → DueAfter .pendingLimit 1800 s t) ∧ (runs → DueAfter .phase 600 s t ∧ NoneOf [.pendingLimit] t) ∧
      TimeKept [.pendingLimit, .phase] s t) ∧
    (s.defrost.phase = .heat →
      (r.state ≠ .good → exec .defrostS4Report s
        = .next { s with defrost := { s.defrost with timeOnly := true }, events := rest }) ∧
      (r.state = .good → s.defrost.timeOnly = true ∨ r.f < 80 → exec .defrostS4Report s = .next { s with events := rest }) ∧
      (r.state = .good → s.defrost.timeOnly = false → 80 ≤ r.f → ∃ t, exec .defrostS4Report s = .next t ∧
        t = { s with
          defrost := { s.defrost with
            phase := .drip, heater := false
            interval := if s.time.uptime - s.defrost.heatStart < 600 then
              clampNat 21600 259200 (s.defrost.interval * 5 / 4) else s.defrost.interval }
          time := t.time, events := rest ++ changed } ∧
        DueAfter .phase 300 s t ∧ TimeKept [.phase] s t)) ∧
    (s.defrost.phase = .recover →
      (r.state ≠ .good ∨ -50 < r.f → exec .defrostS4Report s = .next counted) ∧
      (r.state = .good → r.f ≤ -50 → acc < s.defrost.interval → ∃ t, exec .defrostS4Report s = .next t ∧
        t = { s with
          defrost := { s.defrost with accumulator := acc, phase := .idle }, time := t.time
          events := rest ++ .raise .defrostDone :: changed } ∧
        NoneOf [.phase] t ∧ TimeKept [.phase] s t) ∧
      (r.state = .good → r.f ≤ -50 → s.defrost.interval ≤ acc → ∃ t, exec .defrostS4Report s = .next t ∧
        t = { s with
          defrost := { s.defrost with accumulator := acc, phase := if runs then .prechill else .pending }, time := t.time
          events := rest ++ .raise .defrostDone :: changed ++ changed ++ (if runs then changed else []) } ∧
        (¬ runs → DueAfter .pendingLimit 1800 s t ∧ NoneOf [.phase] t) ∧
        (runs → DueAfter .phase 600 s t ∧ NoneOf [.pendingLimit] t) ∧ TimeKept [.pendingLimit, .phase] s t))

/-- R91 to R94, R99, R100, R103: a change of the arbiter's state ends PENDING into PRECHILL when it is RUN_FREEZE and ends
PRECHILL into RELEASE, or HEAT at once with the valve at rest off the FREEZE end, when it is a halt; an end of RUN_FRESH
starts fresh-coil recovery; and in every other phase a change without that end changes nothing.

Model's choices: a valve at rest that the arbiter or the air handler aims at the FREEZE end does not begin HEAT (log entry 10),
and an arrival reported before RELEASE and still in flight is withdrawn (log entry 11). -/
def Obligations.ArbiterChangeMovesTheDefrost : Prop :=
  ∀ (s : State) (ended halted : Bool) (rest : List Handoff),
    takeFirst pathChangeOf s.events = some ((ended, halted), rest) →
    let chills := s.defrost.phase = .pending ∧ s.arb.state = .runFreeze
    let releases := s.defrost.phase = .prechill ∧ halted = true
    let resting := s.air.valveMotion = .atRest ∧ (s.air.valvePos = 0 ∨ s.air.valvePos = 60) ∧
      s.air.valveTarget ≠ 120 ∧ s.arb.valveTarget ≠ 120
    let changed : List Handoff := [.review, .airDefrost]
    let base := rest ++ (if ended then changed else [])
    let stale (e : Handoff) : Bool := match e with
      | .valveToDefrost _ => false
      | _ => true
    let trusted := (s.channel .s4).state = .good
    ∃ t, exec .arbiterChangeToDefrost s = .next t ∧
      t = { s with defrost := t.defrost, time := t.time, events := t.events } ∧
      TimeKept [.coilRecovery, .phase, .pendingLimit] s t ∧
      t.defrost.recovery = (s.defrost.recovery || ended) ∧ (ended = true → DueAfter .coilRecovery 600 s t) ∧
      (ended = false → TimeKept [.phase, .pendingLimit] s t) ∧
      (¬ chills → ¬ releases → t.events = base ∧ t.defrost = { s.defrost with recovery := t.defrost.recovery } ∧
        TimeKept [.coilRecovery] s t) ∧
      (chills → t.events = base ++ changed ∧
        t.defrost = { s.defrost with recovery := t.defrost.recovery, phase := .prechill } ∧
        DueAfter .phase 600 s t ∧ NoneOf [.pendingLimit] t) ∧
      (releases → ¬ resting → t.events = base.filter stale ++ changed ∧
        t.defrost = { s.defrost with recovery := t.defrost.recovery, phase := .release } ∧ NoneOf [.phase] t) ∧
      (releases → resting → t.events = base.filter stale ++ changed ++ changed ∧
        t.defrost = { s.defrost with
          recovery := t.defrost.recovery, phase := .heat, heater := true, accumulator := 0, heatStart := s.time.uptime
          timeOnly := decide ¬ trusted } ∧
        DueAfter .phase (if trusted then 2400 else 1500) s t)

/-- R91 to R94, R99: the delivery of PENDING_LIMIT in PENDING and of PHASE in PRECHILL, and the valve's arrival off the FREEZE
end in RELEASE: RELEASE waits for the valve; HEAT turns the heater on, clears the accumulator, records its start and takes its
length from S4; other arrivals, and a limit delivered in another phase, change nothing more.

Model's choices: a valve at rest, or an arrival, that the arbiter or the air handler follows with a move toward the FREEZE end
does not begin HEAT (log entry 10); an arrival reported before RELEASE and still in flight is withdrawn (log entry 11); a
PENDING_LIMIT delivered outside PENDING, which no run reaches, changes nothing (log entry 21). -/
def Obligations.ReleaseAndHeatAreEntered : Prop :=
  ∀ (s : State) (due : Instant) (pos : Nat) (rest : List Handoff),
    let spared := s.air.valvePos ≤ 60 ∧ s.air.valveTarget ≠ 120 ∧ s.arb.valveTarget ≠ 120
    let resting := s.air.valveMotion = .atRest ∧ (s.air.valvePos = 0 ∨ s.air.valvePos = 60) ∧ spared
    let changed : List Handoff := [.review, .airDefrost]
    let trusted := (s.channel .s4).state = .good
    let stale (e : Handoff) : Bool := match e with
      | .valveToDefrost _ => false
      | _ => true
    let heats (es : List Handoff) (t : State) : Prop :=
      t = { s with
        defrost := { s.defrost with
          phase := .heat, heater := true, accumulator := 0, heatStart := s.time.uptime, timeOnly := decide ¬ trusted }
        time := t.time, events := es ++ changed } ∧
      DueAfter .phase (if trusted then 2400 else 1500) s t ∧ TimeKept [.phase, .pendingLimit] s t
    let releases (t : State) : Prop :=
      (resting → heats (s.events.filter stale ++ changed) t) ∧
      (¬ resting → t = { s with
          defrost := { s.defrost with phase := .release }, time := t.time, events := s.events.filter stale ++ changed } ∧
        NoneOf [.phase] t ∧ TimeKept [.phase, .pendingLimit] s t)
    (Delivers s .pendingLimit due →
      (s.defrost.phase = .pending → ∃ t, exec .pendingLimit s = .next t ∧ releases t ∧
        ∀ e ∈ t.time.expiries, e.key ≠ .pendingLimit) ∧
      (s.defrost.phase ≠ .pending → exec .pendingLimit s = .next (expired s .pendingLimit))) ∧
    (Delivers s .phase due → s.defrost.phase = .prechill → ∃ t, exec .prechillPhaseExpiry s = .next t ∧ releases t) ∧
    (takeFirst defrostArrivalOf s.events = some (pos, rest) →
      (s.defrost.phase = .release → pos = 0 ∨ pos = 60 → spared → ∃ t, exec .releaseEnd s = .next t ∧ heats rest t ∧
        TimeKept [.phase] s t) ∧
      (s.defrost.phase ≠ .release ∨ (pos ≠ 0 ∧ pos ≠ 60) ∨ ¬ spared →
        exec .releaseEnd s = .next { s with events := rest }))

/-- R95 to R99: the delivery of PHASE ends HEAT into DRIP, halving the interval unless time-only is set, DRIP into RECOVER, and
RECOVER into IDLE with DEFROST_DONE, and on into PENDING, and PRECHILL in RUN_FREEZE, where the comparison of R90 finds the
accumulator at the interval (R91); each change is handed to the arbiter and the air handler. -/
def Obligations.PhaseExpiryEndsThePhase : Prop :=
  ∀ (s : State) (due : Instant), Delivers s .phase due →
    let framed (t : State) (d : Defrost) (raised : List Handoff) : Prop :=
      t = { s with defrost := d, time := t.time, events := s.events ++ raised ++ [.review, .airDefrost] } ∧
      (∀ e ∈ t.time.expiries, e.key ≠ .phase) ∧ TimeKept [.phase] s t
    let changed : List Handoff := [.review, .airDefrost]
    let runs := s.arb.state = .runFreeze
    let begins (t : State) : Prop :=
      t = { s with
        defrost := { s.defrost with phase := if runs then .prechill else .pending }, time := t.time
        events := s.events ++ .raise .defrostDone :: changed ++ changed ++ (if runs then changed else []) } ∧
      (¬ runs → DueAfter .pendingLimit 1800 s t ∧ NoneOf [.phase] t) ∧
      (runs → DueAfter .phase 600 s t ∧ NoneOf [.pendingLimit] t) ∧ TimeKept [.pendingLimit, .phase] s t
    (s.defrost.phase = .heat → ∃ t, exec .heatPhaseExpiry s = .next t ∧ DueAfter .phase 300 s t ∧
      framed t { s.defrost with
        phase := .drip, heater := false
        interval := if s.defrost.timeOnly then s.defrost.interval else clampNat 21600 259200 (s.defrost.interval / 2) } []) ∧
    (s.defrost.phase = .drip → ∃ t, exec .dripPhaseExpiry s = .next t ∧ DueAfter .phase 600 s t ∧
      framed t { s.defrost with phase := .recover } []) ∧
    (s.defrost.phase = .recover → ∃ t, exec .recoverPhaseExpiry s = .next t ∧
      (s.defrost.accumulator < s.defrost.interval → framed t { s.defrost with phase := .idle } [.raise .defrostDone]) ∧
      (s.defrost.interval ≤ s.defrost.accumulator → begins t))

/-- R104, R125: fresh-coil recovery ends on an S3 report GOOD at or above 10, on the delivery of COIL_RECOVERY, and on a FRESH
urgency of 1500 or more; COIL_RECOVERY is removed and the end handed on; nothing else of these ends it, and with recovery not
running they do nothing. -/
def Obligations.CoilRecoveryEndsInThreeWays : Prop :=
  ∀ (s : State) (rest : List Handoff),
    let gone (es : List Handoff) : State := { s with
      defrost := { s.defrost with recovery := false }
      time := { s.time with
        deadlines := dropKey .coilRecovery s.time.deadlines, expiries := dropKey .coilRecovery s.time.expiries }
      events := es ++ [.review, .airDefrost] }
    let kept : State := { s with events := rest }
    (∀ r, takeFirst s3ReportOf s.events = some (r, rest) →
      (s.defrost.recovery = true → r.state = .good → 10 ≤ r.f → exec .coilS3Report s = .next (gone rest)) ∧
      (s.defrost.recovery = false ∨ r.state ≠ .good ∨ r.f < 10 → exec .coilS3Report s = .next kept)) ∧
    (∀ u, takeFirst cutShortOf s.events = some (u, rest) →
      (s.defrost.recovery = true → 1500 ≤ u → exec .coilRecoveryCutShort s = .next (gone rest)) ∧
      (s.defrost.recovery = false ∨ u < 1500 → exec .coilRecoveryCutShort s = .next kept)) ∧
    (∀ due, Delivers s .coilRecovery due →
      (s.defrost.recovery = true → exec .coilRecovery s = .next (gone s.events)) ∧
      (s.defrost.recovery = false → exec .coilRecovery s = .next (expired s .coilRecovery)))

/-- R94: while freezer defrost is in HEAT or DRIP, the path state is not RUN_FREEZE and the valve lies between the FRESH end
and CLOSED. -/
def Obligations.EveryStepKeepsRefrigerantOffAHeatedCoil : Prop :=
  ∀ s t : State, CoilSafe s → step s = .next t → CoilSafe t

/-- R87: the heater is on exactly in HEAT, and the accumulator and the interval lie in their ranges; R190: ATTN is asserted
exactly when a kind is both pending and enabled. -/
def Obligations.EveryStepKeepsHeaterRangesAndAttn : Prop :=
  ∀ s t : State, step s = .next t →
    (HeaterSafe s → HeaterSafe t) ∧ (DefrostSafe s → DefrostSafe t) ∧ (AttnSafe s → AttnSafe t)

/-! ### Notices -/

/-- R190: a raise sets the kind's flag and no other, enabled or not, and ATTN is judged anew.

R191, R192: NOTICE NEXT collects the pending and enabled kind of the lowest code, or returns 0 and changes nothing;
NOTICE ENABLE replaces the enable flags by the mask's bits 0 to 10 and returns both masks; ATTN is judged anew. -/
def Obligations.NoticesAreRaisedCollectedAndEnabled : Prop :=
  (∀ (n : Notice) (s : State) (rest : List Handoff), takeFirst (onlyEvent (.raise n)) s.events = some ((), rest) →
     ∃ u, exec (.noticeRaise n) s = .next { s with notice := u, events := rest } ∧ u.enabled = s.notice.enabled ∧
       (∀ m, noticeIn m u.pending = (noticeIn m s.notice.pending || decide (m = n))) ∧
       (u.attn = true ↔ ∃ m, noticeIn m u.pending = true ∧ noticeIn m u.enabled = true)) ∧
  (∀ s : State,
     let ready (m : Notice) : Prop := noticeIn m s.notice.pending = true ∧ noticeIn m s.notice.enabled = true
     let judged (u : NoticeUnit) : Prop :=
       u.attn = true ↔ ∃ m, noticeIn m u.pending = true ∧ noticeIn m u.enabled = true
     (Taken .noticeNext s →
       ((∀ m, ¬ ready m) → exec .noticeNext s = .next (answered .noticeNext s s ⟨.ok, false, [0]⟩)) ∧
       (∀ n, ready n → (∀ m, ready m → noticeCode n ≤ noticeCode m) →
         ∃ u, exec .noticeNext s
             = .next (answered .noticeNext s { s with notice := u } ⟨.ok, false, [byteOf (noticeCode n)]⟩) ∧
           u.enabled = s.notice.enabled ∧ judged u ∧
           ∀ m, noticeIn m u.pending = (noticeIn m s.notice.pending && decide (m ≠ n)))) ∧
     (∀ mask : Half, Taken (.noticeEnable mask) s →
       ∃ u, exec (.noticeEnable mask) s = .next (answered (.noticeEnable mask) s { s with notice := u }
           ⟨.ok, false, halfBytes (mask &&& 0x7FF) ++ halfBytes (s.notice.pending.setWidth 16)⟩) ∧
         u.pending = s.notice.pending ∧ judged u ∧
         ∀ m, noticeIn m u.enabled = mask.getLsbD (noticeCode m - 1)))

/-! ### Settings -/

/-- R195, with R6, R25, R90, R108, R134, R141, R144: SETTINGS WRITE refuses FIELD a code outside the table and a read-only
item; every other write is brought into the item's range, takes the value and nothing else, and is answered OK with the value
as held and CLAMPED where it moved. A default target is quantised and clamped to its regime's range; a weight reaches CHILL's
shadow entry too and is handed on where it changes the effective weight; the interval is compared in IDLE; a sag threshold
within 100 of the recover threshold raises it, with CLAMPED (R141), and a recover threshold is raised to 100 above the sag
threshold; a rejection time takes the smallest allowed value at or above it, or 160.

Model's choice: a write of the rejection time opens and closes no door (log entry 37). -/
def Obligations.SettingsWriteIsBroughtIntoRange : Prop :=
  ∀ (item : Byte) (value : Quad) (s : State),
    let c := Instr.settingsWrite item value
    let v := value.toInt
    let held (lo hi : Int) : Int := if v < lo then lo else if hi < v then hi else v
    let moved (lo hi : Int) : Bool := decide (v < lo ∨ hi < v)
    let answers (n : Int) (clamped : Bool) (t : State) : Prop :=
      exec c s = .next (answered c s t ⟨.ok, clamped, item :: valueBytes n⟩)
    let wrote (lo hi : Int) (t : State) : Prop := answers (held lo hi) (moved lo hi) t
    let grid : Int := 5 * ((v + 2) / 5)
    let target (r : Regime) : Prop :=
      let lo := match r with
        | .chilled => -20
        | .soft => -80
        | .frozen => -220
      let hi := match r with
        | .chilled => 40
        | .soft => -30
        | .frozen => -140
      let n : Int := if grid < lo then lo else if hi < grid then hi else grid
      answers n (decide (n ≠ grid))
        { s with map := { s.map with defaultTargets := s.map.defaultTargets.set r n } }
    let entry (z : Zone) (f : MapEntry → MapEntry) : ZoneMap := { s.map with
      active := s.map.active.set z (f (s.map.active.get z))
      shadow := if z = .chill then f s.map.shadow else s.map.shadow }
    let weight (z : Zone) : Prop :=
      let t : State := { s with map := entry z fun e => { e with weight := (held 1 8).toNat } }
      wrote 1 8 { t with events := s.events ++ governmentHanded s t z }
    let margin (z : Zone) : Prop := wrote 20 80 { s with map := entry z fun e => { e with warmMargin := held 20 80 } }
    let blind (z : Zone) (f : BlindLen → Nat → BlindLen) : Prop := wrote 1 120 { s with eval := { s.eval with
      blindLen := s.eval.blindLen.set z (f (s.eval.blindLen.get z) (held 1 120).toNat) } }
    let calling (b : BlindLen) (n : Nat) : BlindLen := { b with calling := n }
    let idle (b : BlindLen) (n : Nat) : BlindLen := { b with idle := n }
    let shift (ch : Channel) : Prop := wrote 0 4 { s with meas := { s.meas with
      channels := s.meas.channels.set ch { s.channel ch with shift := (held 0 4).toNat } } }
    let mains (sag recover : Nat) : State :=
      { s with meas := { s.meas with mains := { s.meas.mains with sag := sag, recover := recover } } }
    let sag := (held 1000 3800).toNat
    let recover := max (held 1100 3900).toNat (s.meas.mains.sag + 100)
    let rejection : Nat := if v ≤ 0 then 0 else if v ≤ 40 then 40 else if v ≤ 80 then 80 else 160
    let secs := (held 21600 259200).toNat
    let longer : State := { s with defrost := { s.defrost with interval := secs } }
    let changed : List Handoff := [.review, .airDefrost]
    let runs := s.arb.state = .runFreeze
    Taken c s →
    (item = 0 ∨ 0x1D ≤ item.toNat → exec c s = .next (refusedWith c s .field)) ∧
    ((item = 0x01 → target .chilled) ∧ (item = 0x02 → target .soft) ∧ (item = 0x03 → target .frozen)) ∧
    ((item = 0x04 → weight .fresh) ∧ (item = 0x05 → weight .chill) ∧ (item = 0x06 → weight .freeze)) ∧
    ((item = 0x07 → margin .fresh) ∧ (item = 0x08 → margin .chill) ∧ (item = 0x09 → margin .freeze)) ∧
    (item = 0x0A → wrote 10 120 { s with eval := { s.eval with excursionTime := (held 10 120).toNat } }) ∧
    ((item = 0x0B → blind .fresh calling) ∧ (item = 0x0C → blind .fresh idle) ∧ (item = 0x0D → blind .chill calling) ∧
      (item = 0x0E → blind .chill idle) ∧ (item = 0x0F → blind .freeze calling) ∧ (item = 0x10 → blind .freeze idle)) ∧
    (item = 0x11 → wrote 60 100 { s with arb := { s.arb with maxSpeed := (held 60 100).toNat } }) ∧
    (item = 0x12 →
      (s.defrost.phase ≠ .idle ∨ s.defrost.accumulator < secs → wrote 21600 259200 longer) ∧
      (s.defrost.phase = .idle → secs ≤ s.defrost.accumulator → ∃ t, wrote 21600 259200 t ∧
        t = { longer with
          defrost := { longer.defrost with phase := if runs then .prechill else .pending }, time := t.time, link := t.link
          events := s.events ++ changed ++ (if runs then changed else []) } ∧
        (¬ runs → DueAfter .pendingLimit 1800 s t) ∧ (runs → DueAfter .phase 600 s t ∧ NoneOf [.pendingLimit] t) ∧
        TimeKept [.pendingLimit, .phase] s t)) ∧
    ((item = 0x13 → shift .s0) ∧ (item = 0x14 → shift .s1) ∧ (item = 0x15 → shift .s2) ∧ (item = 0x16 → shift .s3) ∧
      (item = 0x17 → shift .s4) ∧ (item = 0x18 → shift .s5)) ∧
    (item = 0x19 → answers sag (moved 1000 3800 || decide (s.meas.mains.recover < sag + 100))
      (mains sag (max s.meas.mains.recover (sag + 100)))) ∧
    (item = 0x1A → answers recover (moved 1100 3900 || decide ((held 1100 3900).toNat < s.meas.mains.sag + 100))
      (mains s.meas.mains.sag recover)) ∧
    (item = 0x1B → answers rejection (decide ((rejection : Int) ≠ v))
      { s with doors := { s.doors with rejection := rejection } }) ∧
    (item = 0x1C → wrote 60 600 { s with doors := { s.doors with ajarTime := (held 60 600).toNat } })

/-- R198: SETTINGS STORE in IDLE copies the live values, marks the image bad and is ACCEPTED; in WRITING it is refused BUSY;
the write's end makes the copy the image and raises STORE_DONE; with none in progress there is none to end. -/
def Obligations.SettingsStoreWritesTheCopy : Prop :=
  ∀ s : State,
    (Taken .settingsStore s →
      (s.store.writing = none → exec .settingsStore s = .next (answered .settingsStore s
        { s with store := { s.store with image := none, writing := some ⟨s.liveContents, s.now⟩ } }
        ⟨.accepted, false, []⟩)) ∧
      (s.store.writing ≠ none → exec .settingsStore s = .next (refusedWith .settingsStore s .busy))) ∧
    (∀ w, s.store.writing = some w → exec .storeWriteEnd s = .next { s with
      store := { s.store with image := some w.copy, writing := none }, events := s.events ++ [.raise .storeDone] }) ∧
    (s.store.writing = none → exec .storeWriteEnd s = .next s)

/-! ### Deadlines and start-up -/

/-- R169, R170: the deadline list stays ordered by due instant, and no kind and owner stands twice among its entries and the
expiries in flight. -/
def Obligations.EveryStepKeepsTheDeadlineListOrdered : Prop :=
  ∀ s t : State, DeadlinesSafe s → step s = .next t → DeadlinesSafe t

/-- R200, with R30, R32, R86, R88, R121, R126, R132, R153, R165, R175, R194, R197: what the start-up sequence leaves after a
power-on reset, whatever the state before, with the values of a good image, each brought into its range, or the factory's. The
end of RESTART's reply and the restart at the end of the uptime range leave the same, but that a LOCKOUT and the fault count
survive (R86, R168, R189). Before the last instant of the range there is no such restart (log entry 2).

Model's choices: the image is held as its contents, or as absent when bad, and its sag threshold is brought into range before
its recover threshold (log entry 16), and State.reset is the part whose image was never written (log entry 7); the speed target
is 30 (log entry 8), no hand-off is left in flight (log entry 29), the start of HEAT is 0 (log entry 30), the transmit buffer
is empty (log entry 32), the queue of commands survives (log entry 33), RESTART's mark is clear (log entry 34), the air handler
has taken the arbiter's state (log entry 41), and the model's own fields hold F as a placeholder (log entry 44) and the loaded
BLIND lengths as last read (log entry 45). -/
def Obligations.StartUpLeavesTheResetValues : Prop :=
  ∀ (x : Straps) (s : State),
    let survives : PathState := if s.arb.state = .halted .lockout then .halted .lockout else .off
    let restarted (t : State) : State := { t with
      arb := { t.arb with state := survives, faultCount := s.arb.faultCount }, air := { t.air with path := survives } }
    ∃ t, exec (.powerOnReset x) s = .next t ∧ t.straps = x ∧ t.pending = s.pending ∧ t.events = [] ∧
    t.time = ⟨0, 0, [⟨.inhibit, ⟨300, 0⟩⟩], []⟩ ∧
    t.store = ⟨s.store.image, none, s.store.image.isNone⟩ ∧
    t.link = ⟨.hunt, .idle, false, none, none, [], false⟩ ∧ t.notice = ⟨0, 0x7FF, false⟩ ∧
    t.arb.state = .off ∧ t.arb.speed = 0 ∧ t.arb.stack = [] ∧ t.arb.faultCount = 0 ∧ t.arb.inhibitRunning = true ∧
    t.defrost.phase = .idle ∧ t.defrost.heater = false ∧ t.defrost.accumulator = 0 ∧ t.defrost.recovery = false ∧
    t.air.damperMotion = .homing 0 ∧ t.air.valveMotion = .homing 0 ∧ t.air.valveTarget = 60 ∧ t.air.flapSide = none ∧
    (∀ d, t.door d = ⟨.low, 0, .closed, none, none, false, false, 0⟩) ∧
    (∀ c, (t.channel c).state = .seeding ∧ (t.channel c).f = 0 ∧ (t.channel c).badRun = 0) ∧
    t.meas.mains.state = .normal ∧ t.map.step = some .closing ∧ t.map.startUp = true ∧
    (t.zone .chill).state = .transit ∧ (t.zone .fresh).state = .satisfied ∧ (t.zone .freeze).state = .satisfied ∧
    t.holds.lists = ⟨[⟨0, 1⟩], [⟨1, 1⟩], [⟨2, 1⟩]⟩ ∧
    (s.store.image = none → { t with straps := ⟨false, false⟩, pending := [] } = State.reset) ∧
    (∀ c, s.store.image = some c → LoadedFrom c t) ∧
    (s.link.port = .sending → s.link.restarting = true → exec (.replySent x) s = .next (restarted t)) ∧
    (4294967295 ≤ s.time.uptime → 999 ≤ s.time.ms → exec (.uptimeWrapRestart x) s = .next (restarted t)) ∧
    (s.time.uptime < 4294967295 ∨ s.time.ms < 999 → exec (.uptimeWrapRestart x) s = .next s)

/-- The state after reset meets every invariant of this file.

Model's choices in that state: the straps (log entry 6), the image never written (log entry 7) and the speed target (log
entry 8). -/
def Obligations.ResetMeetsEveryInvariant : Prop :=
  HeaterSafe State.reset ∧ AttnSafe State.reset ∧ SpeedSafe State.reset ∧ StackSafe State.reset ∧
    UrgencySafe State.reset ∧ TransitSafe State.reset ∧ DefrostSafe State.reset ∧ DeadlinesSafe State.reset ∧
    CoilSafe State.reset ∧ DamperSafe State.reset ∧ BaseSafe State.reset
end

