-- ==== Sys2Proof/Laws/State.lean ====
section
/-! SUPPORT. One lemma for each field of the state under each of its updates. -/

namespace Sys2Proof.Machine

@[simp] theorem State.setHolds_holds (s : State) (x : HoldTable) : (s.setHolds x).holds = x := rfl
@[simp] theorem State.setHolds_map (s : State) (x : HoldTable) : (s.setHolds x).map = s.map := rfl
@[simp] theorem State.setHolds_meas (s : State) (x : HoldTable) : (s.setHolds x).meas = s.meas := rfl
@[simp] theorem State.setHolds_doors (s : State) (x : HoldTable) : (s.setHolds x).doors = s.doors := rfl
@[simp] theorem State.setHolds_eval (s : State) (x : HoldTable) : (s.setHolds x).eval = s.eval := rfl
@[simp] theorem State.setHolds_arb (s : State) (x : HoldTable) : (s.setHolds x).arb = s.arb := rfl
@[simp] theorem State.setHolds_drive (s : State) (x : HoldTable) : (s.setHolds x).drive = s.drive := rfl
@[simp] theorem State.setHolds_defrost (s : State) (x : HoldTable) : (s.setHolds x).defrost = s.defrost := rfl
@[simp] theorem State.setHolds_air (s : State) (x : HoldTable) : (s.setHolds x).air = s.air := rfl
@[simp] theorem State.setHolds_time (s : State) (x : HoldTable) : (s.setHolds x).time = s.time := rfl
@[simp] theorem State.setHolds_link (s : State) (x : HoldTable) : (s.setHolds x).link = s.link := rfl
@[simp] theorem State.setHolds_notice (s : State) (x : HoldTable) : (s.setHolds x).notice = s.notice := rfl
@[simp] theorem State.setHolds_store (s : State) (x : HoldTable) : (s.setHolds x).store = s.store := rfl
@[simp] theorem State.setHolds_straps (s : State) (x : HoldTable) : (s.setHolds x).straps = s.straps := rfl
@[simp] theorem State.setHolds_events (s : State) (x : HoldTable) : (s.setHolds x).events = s.events := rfl
@[simp] theorem State.setHolds_pending (s : State) (x : HoldTable) : (s.setHolds x).pending = s.pending := rfl

@[simp] theorem State.setMap_holds (s : State) (x : ZoneMap) : (s.setMap x).holds = s.holds := rfl
@[simp] theorem State.setMap_map (s : State) (x : ZoneMap) : (s.setMap x).map = x := rfl
@[simp] theorem State.setMap_meas (s : State) (x : ZoneMap) : (s.setMap x).meas = s.meas := rfl
@[simp] theorem State.setMap_doors (s : State) (x : ZoneMap) : (s.setMap x).doors = s.doors := rfl
@[simp] theorem State.setMap_eval (s : State) (x : ZoneMap) : (s.setMap x).eval = s.eval := rfl
@[simp] theorem State.setMap_arb (s : State) (x : ZoneMap) : (s.setMap x).arb = s.arb := rfl
@[simp] theorem State.setMap_drive (s : State) (x : ZoneMap) : (s.setMap x).drive = s.drive := rfl
@[simp] theorem State.setMap_defrost (s : State) (x : ZoneMap) : (s.setMap x).defrost = s.defrost := rfl
@[simp] theorem State.setMap_air (s : State) (x : ZoneMap) : (s.setMap x).air = s.air := rfl
@[simp] theorem State.setMap_time (s : State) (x : ZoneMap) : (s.setMap x).time = s.time := rfl
@[simp] theorem State.setMap_link (s : State) (x : ZoneMap) : (s.setMap x).link = s.link := rfl
@[simp] theorem State.setMap_notice (s : State) (x : ZoneMap) : (s.setMap x).notice = s.notice := rfl
@[simp] theorem State.setMap_store (s : State) (x : ZoneMap) : (s.setMap x).store = s.store := rfl
@[simp] theorem State.setMap_straps (s : State) (x : ZoneMap) : (s.setMap x).straps = s.straps := rfl
@[simp] theorem State.setMap_events (s : State) (x : ZoneMap) : (s.setMap x).events = s.events := rfl
@[simp] theorem State.setMap_pending (s : State) (x : ZoneMap) : (s.setMap x).pending = s.pending := rfl

@[simp] theorem State.setMeas_holds (s : State) (x : Measurement) : (s.setMeas x).holds = s.holds := rfl
@[simp] theorem State.setMeas_map (s : State) (x : Measurement) : (s.setMeas x).map = s.map := rfl
@[simp] theorem State.setMeas_meas (s : State) (x : Measurement) : (s.setMeas x).meas = x := rfl
@[simp] theorem State.setMeas_doors (s : State) (x : Measurement) : (s.setMeas x).doors = s.doors := rfl
@[simp] theorem State.setMeas_eval (s : State) (x : Measurement) : (s.setMeas x).eval = s.eval := rfl
@[simp] theorem State.setMeas_arb (s : State) (x : Measurement) : (s.setMeas x).arb = s.arb := rfl
@[simp] theorem State.setMeas_drive (s : State) (x : Measurement) : (s.setMeas x).drive = s.drive := rfl
@[simp] theorem State.setMeas_defrost (s : State) (x : Measurement) : (s.setMeas x).defrost = s.defrost := rfl
@[simp] theorem State.setMeas_air (s : State) (x : Measurement) : (s.setMeas x).air = s.air := rfl
@[simp] theorem State.setMeas_time (s : State) (x : Measurement) : (s.setMeas x).time = s.time := rfl
@[simp] theorem State.setMeas_link (s : State) (x : Measurement) : (s.setMeas x).link = s.link := rfl
@[simp] theorem State.setMeas_notice (s : State) (x : Measurement) : (s.setMeas x).notice = s.notice := rfl
@[simp] theorem State.setMeas_store (s : State) (x : Measurement) : (s.setMeas x).store = s.store := rfl
@[simp] theorem State.setMeas_straps (s : State) (x : Measurement) : (s.setMeas x).straps = s.straps := rfl
@[simp] theorem State.setMeas_events (s : State) (x : Measurement) : (s.setMeas x).events = s.events := rfl
@[simp] theorem State.setMeas_pending (s : State) (x : Measurement) : (s.setMeas x).pending = s.pending := rfl

@[simp] theorem State.setDoors_holds (s : State) (x : Doors) : (s.setDoors x).holds = s.holds := rfl
@[simp] theorem State.setDoors_map (s : State) (x : Doors) : (s.setDoors x).map = s.map := rfl
@[simp] theorem State.setDoors_meas (s : State) (x : Doors) : (s.setDoors x).meas = s.meas := rfl
@[simp] theorem State.setDoors_doors (s : State) (x : Doors) : (s.setDoors x).doors = x := rfl
@[simp] theorem State.setDoors_eval (s : State) (x : Doors) : (s.setDoors x).eval = s.eval := rfl
@[simp] theorem State.setDoors_arb (s : State) (x : Doors) : (s.setDoors x).arb = s.arb := rfl
@[simp] theorem State.setDoors_drive (s : State) (x : Doors) : (s.setDoors x).drive = s.drive := rfl
@[simp] theorem State.setDoors_defrost (s : State) (x : Doors) : (s.setDoors x).defrost = s.defrost := rfl
@[simp] theorem State.setDoors_air (s : State) (x : Doors) : (s.setDoors x).air = s.air := rfl
@[simp] theorem State.setDoors_time (s : State) (x : Doors) : (s.setDoors x).time = s.time := rfl
@[simp] theorem State.setDoors_link (s : State) (x : Doors) : (s.setDoors x).link = s.link := rfl
@[simp] theorem State.setDoors_notice (s : State) (x : Doors) : (s.setDoors x).notice = s.notice := rfl
@[simp] theorem State.setDoors_store (s : State) (x : Doors) : (s.setDoors x).store = s.store := rfl
@[simp] theorem State.setDoors_straps (s : State) (x : Doors) : (s.setDoors x).straps = s.straps := rfl
@[simp] theorem State.setDoors_events (s : State) (x : Doors) : (s.setDoors x).events = s.events := rfl
@[simp] theorem State.setDoors_pending (s : State) (x : Doors) : (s.setDoors x).pending = s.pending := rfl

@[simp] theorem State.setEval_holds (s : State) (x : Evaluator) : (s.setEval x).holds = s.holds := rfl
@[simp] theorem State.setEval_map (s : State) (x : Evaluator) : (s.setEval x).map = s.map := rfl
@[simp] theorem State.setEval_meas (s : State) (x : Evaluator) : (s.setEval x).meas = s.meas := rfl
@[simp] theorem State.setEval_doors (s : State) (x : Evaluator) : (s.setEval x).doors = s.doors := rfl
@[simp] theorem State.setEval_eval (s : State) (x : Evaluator) : (s.setEval x).eval = x := rfl
@[simp] theorem State.setEval_arb (s : State) (x : Evaluator) : (s.setEval x).arb = s.arb := rfl
@[simp] theorem State.setEval_drive (s : State) (x : Evaluator) : (s.setEval x).drive = s.drive := rfl
@[simp] theorem State.setEval_defrost (s : State) (x : Evaluator) : (s.setEval x).defrost = s.defrost := rfl
@[simp] theorem State.setEval_air (s : State) (x : Evaluator) : (s.setEval x).air = s.air := rfl
@[simp] theorem State.setEval_time (s : State) (x : Evaluator) : (s.setEval x).time = s.time := rfl
@[simp] theorem State.setEval_link (s : State) (x : Evaluator) : (s.setEval x).link = s.link := rfl
@[simp] theorem State.setEval_notice (s : State) (x : Evaluator) : (s.setEval x).notice = s.notice := rfl
@[simp] theorem State.setEval_store (s : State) (x : Evaluator) : (s.setEval x).store = s.store := rfl
@[simp] theorem State.setEval_straps (s : State) (x : Evaluator) : (s.setEval x).straps = s.straps := rfl
@[simp] theorem State.setEval_events (s : State) (x : Evaluator) : (s.setEval x).events = s.events := rfl
@[simp] theorem State.setEval_pending (s : State) (x : Evaluator) : (s.setEval x).pending = s.pending := rfl

@[simp] theorem State.setArb_holds (s : State) (x : Arbiter) : (s.setArb x).holds = s.holds := rfl
@[simp] theorem State.setArb_map (s : State) (x : Arbiter) : (s.setArb x).map = s.map := rfl
@[simp] theorem State.setArb_meas (s : State) (x : Arbiter) : (s.setArb x).meas = s.meas := rfl
@[simp] theorem State.setArb_doors (s : State) (x : Arbiter) : (s.setArb x).doors = s.doors := rfl
@[simp] theorem State.setArb_eval (s : State) (x : Arbiter) : (s.setArb x).eval = s.eval := rfl
@[simp] theorem State.setArb_arb (s : State) (x : Arbiter) : (s.setArb x).arb = x := rfl
@[simp] theorem State.setArb_drive (s : State) (x : Arbiter) : (s.setArb x).drive = s.drive := rfl
@[simp] theorem State.setArb_defrost (s : State) (x : Arbiter) : (s.setArb x).defrost = s.defrost := rfl
@[simp] theorem State.setArb_air (s : State) (x : Arbiter) : (s.setArb x).air = s.air := rfl
@[simp] theorem State.setArb_time (s : State) (x : Arbiter) : (s.setArb x).time = s.time := rfl
@[simp] theorem State.setArb_link (s : State) (x : Arbiter) : (s.setArb x).link = s.link := rfl
@[simp] theorem State.setArb_notice (s : State) (x : Arbiter) : (s.setArb x).notice = s.notice := rfl
@[simp] theorem State.setArb_store (s : State) (x : Arbiter) : (s.setArb x).store = s.store := rfl
@[simp] theorem State.setArb_straps (s : State) (x : Arbiter) : (s.setArb x).straps = s.straps := rfl
@[simp] theorem State.setArb_events (s : State) (x : Arbiter) : (s.setArb x).events = s.events := rfl
@[simp] theorem State.setArb_pending (s : State) (x : Arbiter) : (s.setArb x).pending = s.pending := rfl

@[simp] theorem State.setDrive_holds (s : State) (x : DriveLink) : (s.setDrive x).holds = s.holds := rfl
@[simp] theorem State.setDrive_map (s : State) (x : DriveLink) : (s.setDrive x).map = s.map := rfl
@[simp] theorem State.setDrive_meas (s : State) (x : DriveLink) : (s.setDrive x).meas = s.meas := rfl
@[simp] theorem State.setDrive_doors (s : State) (x : DriveLink) : (s.setDrive x).doors = s.doors := rfl
@[simp] theorem State.setDrive_eval (s : State) (x : DriveLink) : (s.setDrive x).eval = s.eval := rfl
@[simp] theorem State.setDrive_arb (s : State) (x : DriveLink) : (s.setDrive x).arb = s.arb := rfl
@[simp] theorem State.setDrive_drive (s : State) (x : DriveLink) : (s.setDrive x).drive = x := rfl
@[simp] theorem State.setDrive_defrost (s : State) (x : DriveLink) : (s.setDrive x).defrost = s.defrost := rfl
@[simp] theorem State.setDrive_air (s : State) (x : DriveLink) : (s.setDrive x).air = s.air := rfl
@[simp] theorem State.setDrive_time (s : State) (x : DriveLink) : (s.setDrive x).time = s.time := rfl
@[simp] theorem State.setDrive_link (s : State) (x : DriveLink) : (s.setDrive x).link = s.link := rfl
@[simp] theorem State.setDrive_notice (s : State) (x : DriveLink) : (s.setDrive x).notice = s.notice := rfl
@[simp] theorem State.setDrive_store (s : State) (x : DriveLink) : (s.setDrive x).store = s.store := rfl
@[simp] theorem State.setDrive_straps (s : State) (x : DriveLink) : (s.setDrive x).straps = s.straps := rfl
@[simp] theorem State.setDrive_events (s : State) (x : DriveLink) : (s.setDrive x).events = s.events := rfl
@[simp] theorem State.setDrive_pending (s : State) (x : DriveLink) : (s.setDrive x).pending = s.pending := rfl

@[simp] theorem State.setDefrost_holds (s : State) (x : Defrost) : (s.setDefrost x).holds = s.holds := rfl
@[simp] theorem State.setDefrost_map (s : State) (x : Defrost) : (s.setDefrost x).map = s.map := rfl
@[simp] theorem State.setDefrost_meas (s : State) (x : Defrost) : (s.setDefrost x).meas = s.meas := rfl
@[simp] theorem State.setDefrost_doors (s : State) (x : Defrost) : (s.setDefrost x).doors = s.doors := rfl
@[simp] theorem State.setDefrost_eval (s : State) (x : Defrost) : (s.setDefrost x).eval = s.eval := rfl
@[simp] theorem State.setDefrost_arb (s : State) (x : Defrost) : (s.setDefrost x).arb = s.arb := rfl
@[simp] theorem State.setDefrost_drive (s : State) (x : Defrost) : (s.setDefrost x).drive = s.drive := rfl
@[simp] theorem State.setDefrost_defrost (s : State) (x : Defrost) : (s.setDefrost x).defrost = x := rfl
@[simp] theorem State.setDefrost_air (s : State) (x : Defrost) : (s.setDefrost x).air = s.air := rfl
@[simp] theorem State.setDefrost_time (s : State) (x : Defrost) : (s.setDefrost x).time = s.time := rfl
@[simp] theorem State.setDefrost_link (s : State) (x : Defrost) : (s.setDefrost x).link = s.link := rfl
@[simp] theorem State.setDefrost_notice (s : State) (x : Defrost) : (s.setDefrost x).notice = s.notice := rfl
@[simp] theorem State.setDefrost_store (s : State) (x : Defrost) : (s.setDefrost x).store = s.store := rfl
@[simp] theorem State.setDefrost_straps (s : State) (x : Defrost) : (s.setDefrost x).straps = s.straps := rfl
@[simp] theorem State.setDefrost_events (s : State) (x : Defrost) : (s.setDefrost x).events = s.events := rfl
@[simp] theorem State.setDefrost_pending (s : State) (x : Defrost) : (s.setDefrost x).pending = s.pending := rfl

@[simp] theorem State.setAir_holds (s : State) (x : Air) : (s.setAir x).holds = s.holds := rfl
@[simp] theorem State.setAir_map (s : State) (x : Air) : (s.setAir x).map = s.map := rfl
@[simp] theorem State.setAir_meas (s : State) (x : Air) : (s.setAir x).meas = s.meas := rfl
@[simp] theorem State.setAir_doors (s : State) (x : Air) : (s.setAir x).doors = s.doors := rfl
@[simp] theorem State.setAir_eval (s : State) (x : Air) : (s.setAir x).eval = s.eval := rfl
@[simp] theorem State.setAir_arb (s : State) (x : Air) : (s.setAir x).arb = s.arb := rfl
@[simp] theorem State.setAir_drive (s : State) (x : Air) : (s.setAir x).drive = s.drive := rfl
@[simp] theorem State.setAir_defrost (s : State) (x : Air) : (s.setAir x).defrost = s.defrost := rfl
@[simp] theorem State.setAir_air (s : State) (x : Air) : (s.setAir x).air = x := rfl
@[simp] theorem State.setAir_time (s : State) (x : Air) : (s.setAir x).time = s.time := rfl
@[simp] theorem State.setAir_link (s : State) (x : Air) : (s.setAir x).link = s.link := rfl
@[simp] theorem State.setAir_notice (s : State) (x : Air) : (s.setAir x).notice = s.notice := rfl
@[simp] theorem State.setAir_store (s : State) (x : Air) : (s.setAir x).store = s.store := rfl
@[simp] theorem State.setAir_straps (s : State) (x : Air) : (s.setAir x).straps = s.straps := rfl
@[simp] theorem State.setAir_events (s : State) (x : Air) : (s.setAir x).events = s.events := rfl
@[simp] theorem State.setAir_pending (s : State) (x : Air) : (s.setAir x).pending = s.pending := rfl

@[simp] theorem State.setTime_holds (s : State) (x : Timebase) : (s.setTime x).holds = s.holds := rfl
@[simp] theorem State.setTime_map (s : State) (x : Timebase) : (s.setTime x).map = s.map := rfl
@[simp] theorem State.setTime_meas (s : State) (x : Timebase) : (s.setTime x).meas = s.meas := rfl
@[simp] theorem State.setTime_doors (s : State) (x : Timebase) : (s.setTime x).doors = s.doors := rfl
@[simp] theorem State.setTime_eval (s : State) (x : Timebase) : (s.setTime x).eval = s.eval := rfl
@[simp] theorem State.setTime_arb (s : State) (x : Timebase) : (s.setTime x).arb = s.arb := rfl
@[simp] theorem State.setTime_drive (s : State) (x : Timebase) : (s.setTime x).drive = s.drive := rfl
@[simp] theorem State.setTime_defrost (s : State) (x : Timebase) : (s.setTime x).defrost = s.defrost := rfl
@[simp] theorem State.setTime_air (s : State) (x : Timebase) : (s.setTime x).air = s.air := rfl
@[simp] theorem State.setTime_time (s : State) (x : Timebase) : (s.setTime x).time = x := rfl
@[simp] theorem State.setTime_link (s : State) (x : Timebase) : (s.setTime x).link = s.link := rfl
@[simp] theorem State.setTime_notice (s : State) (x : Timebase) : (s.setTime x).notice = s.notice := rfl
@[simp] theorem State.setTime_store (s : State) (x : Timebase) : (s.setTime x).store = s.store := rfl
@[simp] theorem State.setTime_straps (s : State) (x : Timebase) : (s.setTime x).straps = s.straps := rfl
@[simp] theorem State.setTime_events (s : State) (x : Timebase) : (s.setTime x).events = s.events := rfl
@[simp] theorem State.setTime_pending (s : State) (x : Timebase) : (s.setTime x).pending = s.pending := rfl

@[simp] theorem State.setLink_holds (s : State) (x : LinkPort) : (s.setLink x).holds = s.holds := rfl
@[simp] theorem State.setLink_map (s : State) (x : LinkPort) : (s.setLink x).map = s.map := rfl
@[simp] theorem State.setLink_meas (s : State) (x : LinkPort) : (s.setLink x).meas = s.meas := rfl
@[simp] theorem State.setLink_doors (s : State) (x : LinkPort) : (s.setLink x).doors = s.doors := rfl
@[simp] theorem State.setLink_eval (s : State) (x : LinkPort) : (s.setLink x).eval = s.eval := rfl
@[simp] theorem State.setLink_arb (s : State) (x : LinkPort) : (s.setLink x).arb = s.arb := rfl
@[simp] theorem State.setLink_drive (s : State) (x : LinkPort) : (s.setLink x).drive = s.drive := rfl
@[simp] theorem State.setLink_defrost (s : State) (x : LinkPort) : (s.setLink x).defrost = s.defrost := rfl
@[simp] theorem State.setLink_air (s : State) (x : LinkPort) : (s.setLink x).air = s.air := rfl
@[simp] theorem State.setLink_time (s : State) (x : LinkPort) : (s.setLink x).time = s.time := rfl
@[simp] theorem State.setLink_link (s : State) (x : LinkPort) : (s.setLink x).link = x := rfl
@[simp] theorem State.setLink_notice (s : State) (x : LinkPort) : (s.setLink x).notice = s.notice := rfl
@[simp] theorem State.setLink_store (s : State) (x : LinkPort) : (s.setLink x).store = s.store := rfl
@[simp] theorem State.setLink_straps (s : State) (x : LinkPort) : (s.setLink x).straps = s.straps := rfl
@[simp] theorem State.setLink_events (s : State) (x : LinkPort) : (s.setLink x).events = s.events := rfl
@[simp] theorem State.setLink_pending (s : State) (x : LinkPort) : (s.setLink x).pending = s.pending := rfl

@[simp] theorem State.setNotice_holds (s : State) (x : NoticeUnit) : (s.setNotice x).holds = s.holds := rfl
@[simp] theorem State.setNotice_map (s : State) (x : NoticeUnit) : (s.setNotice x).map = s.map := rfl
@[simp] theorem State.setNotice_meas (s : State) (x : NoticeUnit) : (s.setNotice x).meas = s.meas := rfl
@[simp] theorem State.setNotice_doors (s : State) (x : NoticeUnit) : (s.setNotice x).doors = s.doors := rfl
@[simp] theorem State.setNotice_eval (s : State) (x : NoticeUnit) : (s.setNotice x).eval = s.eval := rfl
@[simp] theorem State.setNotice_arb (s : State) (x : NoticeUnit) : (s.setNotice x).arb = s.arb := rfl
@[simp] theorem State.setNotice_drive (s : State) (x : NoticeUnit) : (s.setNotice x).drive = s.drive := rfl
@[simp] theorem State.setNotice_defrost (s : State) (x : NoticeUnit) : (s.setNotice x).defrost = s.defrost := rfl
@[simp] theorem State.setNotice_air (s : State) (x : NoticeUnit) : (s.setNotice x).air = s.air := rfl
@[simp] theorem State.setNotice_time (s : State) (x : NoticeUnit) : (s.setNotice x).time = s.time := rfl
@[simp] theorem State.setNotice_link (s : State) (x : NoticeUnit) : (s.setNotice x).link = s.link := rfl
@[simp] theorem State.setNotice_notice (s : State) (x : NoticeUnit) : (s.setNotice x).notice = x := rfl
@[simp] theorem State.setNotice_store (s : State) (x : NoticeUnit) : (s.setNotice x).store = s.store := rfl
@[simp] theorem State.setNotice_straps (s : State) (x : NoticeUnit) : (s.setNotice x).straps = s.straps := rfl
@[simp] theorem State.setNotice_events (s : State) (x : NoticeUnit) : (s.setNotice x).events = s.events := rfl
@[simp] theorem State.setNotice_pending (s : State) (x : NoticeUnit) : (s.setNotice x).pending = s.pending := rfl

@[simp] theorem State.setStore_holds (s : State) (x : Store) : (s.setStore x).holds = s.holds := rfl
@[simp] theorem State.setStore_map (s : State) (x : Store) : (s.setStore x).map = s.map := rfl
@[simp] theorem State.setStore_meas (s : State) (x : Store) : (s.setStore x).meas = s.meas := rfl
@[simp] theorem State.setStore_doors (s : State) (x : Store) : (s.setStore x).doors = s.doors := rfl
@[simp] theorem State.setStore_eval (s : State) (x : Store) : (s.setStore x).eval = s.eval := rfl
@[simp] theorem State.setStore_arb (s : State) (x : Store) : (s.setStore x).arb = s.arb := rfl
@[simp] theorem State.setStore_drive (s : State) (x : Store) : (s.setStore x).drive = s.drive := rfl
@[simp] theorem State.setStore_defrost (s : State) (x : Store) : (s.setStore x).defrost = s.defrost := rfl
@[simp] theorem State.setStore_air (s : State) (x : Store) : (s.setStore x).air = s.air := rfl
@[simp] theorem State.setStore_time (s : State) (x : Store) : (s.setStore x).time = s.time := rfl
@[simp] theorem State.setStore_link (s : State) (x : Store) : (s.setStore x).link = s.link := rfl
@[simp] theorem State.setStore_notice (s : State) (x : Store) : (s.setStore x).notice = s.notice := rfl
@[simp] theorem State.setStore_store (s : State) (x : Store) : (s.setStore x).store = x := rfl
@[simp] theorem State.setStore_straps (s : State) (x : Store) : (s.setStore x).straps = s.straps := rfl
@[simp] theorem State.setStore_events (s : State) (x : Store) : (s.setStore x).events = s.events := rfl
@[simp] theorem State.setStore_pending (s : State) (x : Store) : (s.setStore x).pending = s.pending := rfl

@[simp] theorem State.setEvents_holds (s : State) (x : List Handoff) : (s.setEvents x).holds = s.holds := rfl
@[simp] theorem State.setEvents_map (s : State) (x : List Handoff) : (s.setEvents x).map = s.map := rfl
@[simp] theorem State.setEvents_meas (s : State) (x : List Handoff) : (s.setEvents x).meas = s.meas := rfl
@[simp] theorem State.setEvents_doors (s : State) (x : List Handoff) : (s.setEvents x).doors = s.doors := rfl
@[simp] theorem State.setEvents_eval (s : State) (x : List Handoff) : (s.setEvents x).eval = s.eval := rfl
@[simp] theorem State.setEvents_arb (s : State) (x : List Handoff) : (s.setEvents x).arb = s.arb := rfl
@[simp] theorem State.setEvents_drive (s : State) (x : List Handoff) : (s.setEvents x).drive = s.drive := rfl
@[simp] theorem State.setEvents_defrost (s : State) (x : List Handoff) : (s.setEvents x).defrost = s.defrost := rfl
@[simp] theorem State.setEvents_air (s : State) (x : List Handoff) : (s.setEvents x).air = s.air := rfl
@[simp] theorem State.setEvents_time (s : State) (x : List Handoff) : (s.setEvents x).time = s.time := rfl
@[simp] theorem State.setEvents_link (s : State) (x : List Handoff) : (s.setEvents x).link = s.link := rfl
@[simp] theorem State.setEvents_notice (s : State) (x : List Handoff) : (s.setEvents x).notice = s.notice := rfl
@[simp] theorem State.setEvents_store (s : State) (x : List Handoff) : (s.setEvents x).store = s.store := rfl
@[simp] theorem State.setEvents_straps (s : State) (x : List Handoff) : (s.setEvents x).straps = s.straps := rfl
@[simp] theorem State.setEvents_events (s : State) (x : List Handoff) : (s.setEvents x).events = x := rfl
@[simp] theorem State.setEvents_pending (s : State) (x : List Handoff) : (s.setEvents x).pending = s.pending := rfl

@[simp] theorem State.setPending_holds (s : State) (x : List Instr) : (s.setPending x).holds = s.holds := rfl
@[simp] theorem State.setPending_map (s : State) (x : List Instr) : (s.setPending x).map = s.map := rfl
@[simp] theorem State.setPending_meas (s : State) (x : List Instr) : (s.setPending x).meas = s.meas := rfl
@[simp] theorem State.setPending_doors (s : State) (x : List Instr) : (s.setPending x).doors = s.doors := rfl
@[simp] theorem State.setPending_eval (s : State) (x : List Instr) : (s.setPending x).eval = s.eval := rfl
@[simp] theorem State.setPending_arb (s : State) (x : List Instr) : (s.setPending x).arb = s.arb := rfl
@[simp] theorem State.setPending_drive (s : State) (x : List Instr) : (s.setPending x).drive = s.drive := rfl
@[simp] theorem State.setPending_defrost (s : State) (x : List Instr) : (s.setPending x).defrost = s.defrost := rfl
@[simp] theorem State.setPending_air (s : State) (x : List Instr) : (s.setPending x).air = s.air := rfl
@[simp] theorem State.setPending_time (s : State) (x : List Instr) : (s.setPending x).time = s.time := rfl
@[simp] theorem State.setPending_link (s : State) (x : List Instr) : (s.setPending x).link = s.link := rfl
@[simp] theorem State.setPending_notice (s : State) (x : List Instr) : (s.setPending x).notice = s.notice := rfl
@[simp] theorem State.setPending_store (s : State) (x : List Instr) : (s.setPending x).store = s.store := rfl
@[simp] theorem State.setPending_straps (s : State) (x : List Instr) : (s.setPending x).straps = s.straps := rfl
@[simp] theorem State.setPending_events (s : State) (x : List Instr) : (s.setPending x).events = s.events := rfl
@[simp] theorem State.setPending_pending (s : State) (x : List Instr) : (s.setPending x).pending = x := rfl

end Sys2Proof.Machine
end

