-- ==== Sys2Proof/Laws/Ops.lean ====
section
/-! SUPPORT. What the shared operations can do: the fields each leaves alone, and one lemma for each that says the rest. -/

namespace Sys2Proof.Machine

/-! ### Frames -/

@[simp] theorem State.hand_holds (s : State) (e : Handoff) : (s.hand e).holds = s.holds := rfl
@[simp] theorem State.hand_map (s : State) (e : Handoff) : (s.hand e).map = s.map := rfl
@[simp] theorem State.hand_meas (s : State) (e : Handoff) : (s.hand e).meas = s.meas := rfl
@[simp] theorem State.hand_doors (s : State) (e : Handoff) : (s.hand e).doors = s.doors := rfl
@[simp] theorem State.hand_eval (s : State) (e : Handoff) : (s.hand e).eval = s.eval := rfl
@[simp] theorem State.hand_arb (s : State) (e : Handoff) : (s.hand e).arb = s.arb := rfl
@[simp] theorem State.hand_drive (s : State) (e : Handoff) : (s.hand e).drive = s.drive := rfl
@[simp] theorem State.hand_defrost (s : State) (e : Handoff) : (s.hand e).defrost = s.defrost := rfl
@[simp] theorem State.hand_air (s : State) (e : Handoff) : (s.hand e).air = s.air := rfl
@[simp] theorem State.hand_time (s : State) (e : Handoff) : (s.hand e).time = s.time := rfl
@[simp] theorem State.hand_link (s : State) (e : Handoff) : (s.hand e).link = s.link := rfl
@[simp] theorem State.hand_notice (s : State) (e : Handoff) : (s.hand e).notice = s.notice := rfl
@[simp] theorem State.hand_store (s : State) (e : Handoff) : (s.hand e).store = s.store := rfl
@[simp] theorem State.hand_straps (s : State) (e : Handoff) : (s.hand e).straps = s.straps := rfl
@[simp] theorem State.hand_pending (s : State) (e : Handoff) : (s.hand e).pending = s.pending := rfl

@[simp] theorem State.raiseNotice_holds (s : State) (n : Notice) : (s.raiseNotice n).holds = s.holds := rfl
@[simp] theorem State.raiseNotice_map (s : State) (n : Notice) : (s.raiseNotice n).map = s.map := rfl
@[simp] theorem State.raiseNotice_meas (s : State) (n : Notice) : (s.raiseNotice n).meas = s.meas := rfl
@[simp] theorem State.raiseNotice_doors (s : State) (n : Notice) : (s.raiseNotice n).doors = s.doors := rfl
@[simp] theorem State.raiseNotice_eval (s : State) (n : Notice) : (s.raiseNotice n).eval = s.eval := rfl
@[simp] theorem State.raiseNotice_arb (s : State) (n : Notice) : (s.raiseNotice n).arb = s.arb := rfl
@[simp] theorem State.raiseNotice_drive (s : State) (n : Notice) : (s.raiseNotice n).drive = s.drive := rfl
@[simp] theorem State.raiseNotice_defrost (s : State) (n : Notice) : (s.raiseNotice n).defrost = s.defrost := rfl
@[simp] theorem State.raiseNotice_air (s : State) (n : Notice) : (s.raiseNotice n).air = s.air := rfl
@[simp] theorem State.raiseNotice_time (s : State) (n : Notice) : (s.raiseNotice n).time = s.time := rfl
@[simp] theorem State.raiseNotice_link (s : State) (n : Notice) : (s.raiseNotice n).link = s.link := rfl
@[simp] theorem State.raiseNotice_notice (s : State) (n : Notice) : (s.raiseNotice n).notice = s.notice := rfl
@[simp] theorem State.raiseNotice_store (s : State) (n : Notice) : (s.raiseNotice n).store = s.store := rfl
@[simp] theorem State.raiseNotice_straps (s : State) (n : Notice) : (s.raiseNotice n).straps = s.straps := rfl
@[simp] theorem State.raiseNotice_pending (s : State) (n : Notice) : (s.raiseNotice n).pending = s.pending := rfl

@[simp] theorem State.insertAt_holds (s : State) (k : DeadlineKey) (due : Instant) : (s.insertAt k due).holds = s.holds := rfl
@[simp] theorem State.insertAt_map (s : State) (k : DeadlineKey) (due : Instant) : (s.insertAt k due).map = s.map := rfl
@[simp] theorem State.insertAt_meas (s : State) (k : DeadlineKey) (due : Instant) : (s.insertAt k due).meas = s.meas := rfl
@[simp] theorem State.insertAt_doors (s : State) (k : DeadlineKey) (due : Instant) : (s.insertAt k due).doors = s.doors := rfl
@[simp] theorem State.insertAt_eval (s : State) (k : DeadlineKey) (due : Instant) : (s.insertAt k due).eval = s.eval := rfl
@[simp] theorem State.insertAt_arb (s : State) (k : DeadlineKey) (due : Instant) : (s.insertAt k due).arb = s.arb := rfl
@[simp] theorem State.insertAt_drive (s : State) (k : DeadlineKey) (due : Instant) : (s.insertAt k due).drive = s.drive := rfl
@[simp] theorem State.insertAt_defrost (s : State) (k : DeadlineKey) (due : Instant) : (s.insertAt k due).defrost = s.defrost := rfl
@[simp] theorem State.insertAt_air (s : State) (k : DeadlineKey) (due : Instant) : (s.insertAt k due).air = s.air := rfl
@[simp] theorem State.insertAt_link (s : State) (k : DeadlineKey) (due : Instant) : (s.insertAt k due).link = s.link := rfl
@[simp] theorem State.insertAt_notice (s : State) (k : DeadlineKey) (due : Instant) : (s.insertAt k due).notice = s.notice := rfl
@[simp] theorem State.insertAt_store (s : State) (k : DeadlineKey) (due : Instant) : (s.insertAt k due).store = s.store := rfl
@[simp] theorem State.insertAt_straps (s : State) (k : DeadlineKey) (due : Instant) : (s.insertAt k due).straps = s.straps := rfl
@[simp] theorem State.insertAt_events (s : State) (k : DeadlineKey) (due : Instant) : (s.insertAt k due).events = s.events := rfl
@[simp] theorem State.insertAt_pending (s : State) (k : DeadlineKey) (due : Instant) : (s.insertAt k due).pending = s.pending := rfl

@[simp] theorem State.insertAfter_holds (s : State) (k : DeadlineKey) (secs : Nat) : (s.insertAfter k secs).holds = s.holds := rfl
@[simp] theorem State.insertAfter_map (s : State) (k : DeadlineKey) (secs : Nat) : (s.insertAfter k secs).map = s.map := rfl
@[simp] theorem State.insertAfter_meas (s : State) (k : DeadlineKey) (secs : Nat) : (s.insertAfter k secs).meas = s.meas := rfl
@[simp] theorem State.insertAfter_doors (s : State) (k : DeadlineKey) (secs : Nat) : (s.insertAfter k secs).doors = s.doors := rfl
@[simp] theorem State.insertAfter_eval (s : State) (k : DeadlineKey) (secs : Nat) : (s.insertAfter k secs).eval = s.eval := rfl
@[simp] theorem State.insertAfter_arb (s : State) (k : DeadlineKey) (secs : Nat) : (s.insertAfter k secs).arb = s.arb := rfl
@[simp] theorem State.insertAfter_drive (s : State) (k : DeadlineKey) (secs : Nat) : (s.insertAfter k secs).drive = s.drive := rfl
@[simp] theorem State.insertAfter_defrost (s : State) (k : DeadlineKey) (secs : Nat) : (s.insertAfter k secs).defrost = s.defrost := rfl
@[simp] theorem State.insertAfter_air (s : State) (k : DeadlineKey) (secs : Nat) : (s.insertAfter k secs).air = s.air := rfl
@[simp] theorem State.insertAfter_link (s : State) (k : DeadlineKey) (secs : Nat) : (s.insertAfter k secs).link = s.link := rfl
@[simp] theorem State.insertAfter_notice (s : State) (k : DeadlineKey) (secs : Nat) : (s.insertAfter k secs).notice = s.notice := rfl
@[simp] theorem State.insertAfter_store (s : State) (k : DeadlineKey) (secs : Nat) : (s.insertAfter k secs).store = s.store := rfl
@[simp] theorem State.insertAfter_straps (s : State) (k : DeadlineKey) (secs : Nat) : (s.insertAfter k secs).straps = s.straps := rfl
@[simp] theorem State.insertAfter_events (s : State) (k : DeadlineKey) (secs : Nat) : (s.insertAfter k secs).events = s.events := rfl
@[simp] theorem State.insertAfter_pending (s : State) (k : DeadlineKey) (secs : Nat) : (s.insertAfter k secs).pending = s.pending := rfl

@[simp] theorem State.removeDeadline_holds (s : State) (k : DeadlineKey) : (s.removeDeadline k).holds = s.holds := rfl
@[simp] theorem State.removeDeadline_map (s : State) (k : DeadlineKey) : (s.removeDeadline k).map = s.map := rfl
@[simp] theorem State.removeDeadline_meas (s : State) (k : DeadlineKey) : (s.removeDeadline k).meas = s.meas := rfl
@[simp] theorem State.removeDeadline_doors (s : State) (k : DeadlineKey) : (s.removeDeadline k).doors = s.doors := rfl
@[simp] theorem State.removeDeadline_eval (s : State) (k : DeadlineKey) : (s.removeDeadline k).eval = s.eval := rfl
@[simp] theorem State.removeDeadline_arb (s : State) (k : DeadlineKey) : (s.removeDeadline k).arb = s.arb := rfl
@[simp] theorem State.removeDeadline_drive (s : State) (k : DeadlineKey) : (s.removeDeadline k).drive = s.drive := rfl
@[simp] theorem State.removeDeadline_defrost (s : State) (k : DeadlineKey) : (s.removeDeadline k).defrost = s.defrost := rfl
@[simp] theorem State.removeDeadline_air (s : State) (k : DeadlineKey) : (s.removeDeadline k).air = s.air := rfl
@[simp] theorem State.removeDeadline_link (s : State) (k : DeadlineKey) : (s.removeDeadline k).link = s.link := rfl
@[simp] theorem State.removeDeadline_notice (s : State) (k : DeadlineKey) : (s.removeDeadline k).notice = s.notice := rfl
@[simp] theorem State.removeDeadline_store (s : State) (k : DeadlineKey) : (s.removeDeadline k).store = s.store := rfl
@[simp] theorem State.removeDeadline_straps (s : State) (k : DeadlineKey) : (s.removeDeadline k).straps = s.straps := rfl
@[simp] theorem State.removeDeadline_events (s : State) (k : DeadlineKey) : (s.removeDeadline k).events = s.events := rfl
@[simp] theorem State.removeDeadline_pending (s : State) (k : DeadlineKey) : (s.removeDeadline k).pending = s.pending := rfl

@[simp] theorem State.setZone_holds (s : State) (z : Zone) (r : ZoneRec) : (s.setZone z r).holds = s.holds := rfl
@[simp] theorem State.setZone_map (s : State) (z : Zone) (r : ZoneRec) : (s.setZone z r).map = s.map := rfl
@[simp] theorem State.setZone_meas (s : State) (z : Zone) (r : ZoneRec) : (s.setZone z r).meas = s.meas := rfl
@[simp] theorem State.setZone_doors (s : State) (z : Zone) (r : ZoneRec) : (s.setZone z r).doors = s.doors := rfl
@[simp] theorem State.setZone_arb (s : State) (z : Zone) (r : ZoneRec) : (s.setZone z r).arb = s.arb := rfl
@[simp] theorem State.setZone_drive (s : State) (z : Zone) (r : ZoneRec) : (s.setZone z r).drive = s.drive := rfl
@[simp] theorem State.setZone_defrost (s : State) (z : Zone) (r : ZoneRec) : (s.setZone z r).defrost = s.defrost := rfl
@[simp] theorem State.setZone_air (s : State) (z : Zone) (r : ZoneRec) : (s.setZone z r).air = s.air := rfl
@[simp] theorem State.setZone_time (s : State) (z : Zone) (r : ZoneRec) : (s.setZone z r).time = s.time := rfl
@[simp] theorem State.setZone_link (s : State) (z : Zone) (r : ZoneRec) : (s.setZone z r).link = s.link := rfl
@[simp] theorem State.setZone_notice (s : State) (z : Zone) (r : ZoneRec) : (s.setZone z r).notice = s.notice := rfl
@[simp] theorem State.setZone_store (s : State) (z : Zone) (r : ZoneRec) : (s.setZone z r).store = s.store := rfl
@[simp] theorem State.setZone_straps (s : State) (z : Zone) (r : ZoneRec) : (s.setZone z r).straps = s.straps := rfl
@[simp] theorem State.setZone_events (s : State) (z : Zone) (r : ZoneRec) : (s.setZone z r).events = s.events := rfl
@[simp] theorem State.setZone_pending (s : State) (z : Zone) (r : ZoneRec) : (s.setZone z r).pending = s.pending := rfl
@[simp] theorem State.setZone_zone_self (s : State) (z : Zone) (r : ZoneRec) : (s.setZone z r).zone z = r := by cases z <;> rfl
theorem State.setZone_zone_other (s : State) (z y : Zone) (r : ZoneRec) (h : y ≠ z) : (s.setZone z r).zone y = s.zone y := by
  cases z <;> cases y <;> first | rfl | exact absurd rfl h

@[simp] theorem State.discardFrame_holds (s : State) : (s.discardFrame).holds = s.holds := rfl
@[simp] theorem State.discardFrame_map (s : State) : (s.discardFrame).map = s.map := rfl
@[simp] theorem State.discardFrame_meas (s : State) : (s.discardFrame).meas = s.meas := rfl
@[simp] theorem State.discardFrame_doors (s : State) : (s.discardFrame).doors = s.doors := rfl
@[simp] theorem State.discardFrame_eval (s : State) : (s.discardFrame).eval = s.eval := rfl
@[simp] theorem State.discardFrame_arb (s : State) : (s.discardFrame).arb = s.arb := rfl
@[simp] theorem State.discardFrame_drive (s : State) : (s.discardFrame).drive = s.drive := rfl
@[simp] theorem State.discardFrame_defrost (s : State) : (s.discardFrame).defrost = s.defrost := rfl
@[simp] theorem State.discardFrame_air (s : State) : (s.discardFrame).air = s.air := rfl
@[simp] theorem State.discardFrame_time (s : State) : (s.discardFrame).time = s.time := rfl
@[simp] theorem State.discardFrame_notice (s : State) : (s.discardFrame).notice = s.notice := rfl
@[simp] theorem State.discardFrame_store (s : State) : (s.discardFrame).store = s.store := rfl
@[simp] theorem State.discardFrame_straps (s : State) : (s.discardFrame).straps = s.straps := rfl
@[simp] theorem State.discardFrame_events (s : State) : (s.discardFrame).events = s.events := rfl
@[simp] theorem State.discardFrame_pending (s : State) : (s.discardFrame).pending = s.pending := rfl

@[simp] theorem State.formReply_holds (s : State) (r : Reply) : (s.formReply r).holds = s.holds := rfl
@[simp] theorem State.formReply_map (s : State) (r : Reply) : (s.formReply r).map = s.map := rfl
@[simp] theorem State.formReply_meas (s : State) (r : Reply) : (s.formReply r).meas = s.meas := rfl
@[simp] theorem State.formReply_doors (s : State) (r : Reply) : (s.formReply r).doors = s.doors := rfl
@[simp] theorem State.formReply_eval (s : State) (r : Reply) : (s.formReply r).eval = s.eval := rfl
@[simp] theorem State.formReply_arb (s : State) (r : Reply) : (s.formReply r).arb = s.arb := rfl
@[simp] theorem State.formReply_drive (s : State) (r : Reply) : (s.formReply r).drive = s.drive := rfl
@[simp] theorem State.formReply_defrost (s : State) (r : Reply) : (s.formReply r).defrost = s.defrost := rfl
@[simp] theorem State.formReply_air (s : State) (r : Reply) : (s.formReply r).air = s.air := rfl
@[simp] theorem State.formReply_time (s : State) (r : Reply) : (s.formReply r).time = s.time := rfl
@[simp] theorem State.formReply_notice (s : State) (r : Reply) : (s.formReply r).notice = s.notice := rfl
@[simp] theorem State.formReply_store (s : State) (r : Reply) : (s.formReply r).store = s.store := rfl
@[simp] theorem State.formReply_straps (s : State) (r : Reply) : (s.formReply r).straps = s.straps := rfl
@[simp] theorem State.formReply_events (s : State) (r : Reply) : (s.formReply r).events = s.events := rfl
@[simp] theorem State.formReply_pending (s : State) (r : Reply) : (s.formReply r).pending = s.pending := rfl

/-! ### Hand-offs -/

@[simp] theorem State.hand_events (s : State) (e : Handoff) : (s.hand e).events = s.events ++ [e] := rfl

@[simp] theorem State.raiseNotice_events (s : State) (n : Notice) :
    (s.raiseNotice n).events = s.events ++ [.raise n] := rfl

/-- `takeFirst` finds the first accepted hand-off and keeps the others in their order. -/
theorem takeFirst_eq_some {α : Type} {p : Handoff → Option α} {es : List Handoff} {a : α} {rest : List Handoff}
    (h : takeFirst p es = some (a, rest)) :
    ∃ pre e post, es = pre ++ e :: post ∧ rest = pre ++ post ∧ p e = some a ∧ ∀ x ∈ pre, p x = none := by
  induction es generalizing rest with
  | nil => simp [takeFirst] at h
  | cons e es ih =>
    simp only [takeFirst] at h
    split at h
    · next b hb =>
      cases h
      exact ⟨[], e, es, rfl, rfl, hb, by simp⟩
    · next hb =>
      split at h
      · next b r hr =>
        cases h
        obtain ⟨pre, x, post, h1, h2, h3, h4⟩ := ih hr
        exact ⟨e :: pre, x, post, by simp [h1], by simp [h2], h3, by simpa [hb] using h4⟩
      · cases h

/-- No hand-off is accepted. -/
theorem takeFirst_eq_none {α : Type} {p : Handoff → Option α} {es : List Handoff} (h : takeFirst p es = none) :
    ∀ x ∈ es, p x = none := by
  induction es with
  | nil => simp
  | cons e es ih =>
    simp only [takeFirst] at h
    split at h
    · cases h
    · next hb =>
      split at h
      · cases h
      · next hr => simpa [hb] using ih hr

theorem State.takeEvent_of_some {α : Type} {s : State} {p : Handoff → Option α} {a : α} {rest : List Handoff}
    (f : α → State → State) (h : takeFirst p s.events = some (a, rest)) :
    s.takeEvent p f = f a (s.setEvents rest) := by simp [State.takeEvent, h]

theorem State.takeEvent_of_none {α : Type} {s : State} {p : Handoff → Option α} (f : α → State → State)
    (h : takeFirst p s.events = none) : s.takeEvent p f = s := by simp [State.takeEvent, h]

/-! ### The deadline list -/

/-- A placed entry joins the others and no other entry leaves. -/
theorem placeDeadline_perm (d : Deadline) (l : List Deadline) : (placeDeadline d l).Perm (d :: l) := by
  induction l with
  | nil => exact .refl _
  | cons e es ih =>
    simp only [placeDeadline]
    split
    · exact (ih.cons e).trans (.swap d e es)
    · exact .refl _

theorem mem_placeDeadline {d e : Deadline} {l : List Deadline} : e ∈ placeDeadline d l ↔ e = d ∨ e ∈ l := by
  simpa using (placeDeadline_perm d l).mem_iff (a := e)

/-- A placed entry keeps the list ordered by due instant (R170). -/
theorem placeDeadline_sorted {d : Deadline} {l : List Deadline}
    (h : l.Pairwise fun a b => a.due.toMs ≤ b.due.toMs) :
    (placeDeadline d l).Pairwise fun a b => a.due.toMs ≤ b.due.toMs := by
  induction l with
  | nil => simp [placeDeadline]
  | cons e es ih =>
    rw [List.pairwise_cons] at h
    simp only [placeDeadline]
    split
    · next hle =>
      refine List.pairwise_cons.2 ⟨fun x hx => ?_, ih h.2⟩
      rcases mem_placeDeadline.1 hx with rfl | hx
      · exact hle
      · exact h.1 x hx
    · next hgt =>
      refine List.pairwise_cons.2 ⟨fun x hx => ?_, List.pairwise_cons.2 h⟩
      rcases List.mem_cons.1 hx with rfl | hx
      · omega
      · have := h.1 x hx
        omega

@[simp] theorem mem_dropKey {k : DeadlineKey} {d : Deadline} {l : List Deadline} :
    d ∈ dropKey k l ↔ d ∈ l ∧ d.key ≠ k := by simp [dropKey]

theorem dropKey_sorted {k : DeadlineKey} {l : List Deadline} (h : l.Pairwise fun a b => a.due.toMs ≤ b.due.toMs) :
    (dropKey k l).Pairwise fun a b => a.due.toMs ≤ b.due.toMs := h.sublist List.filter_sublist

@[simp] theorem State.insertAt_deadlines (s : State) (k : DeadlineKey) (due : Instant) :
    (s.insertAt k due).time.deadlines = placeDeadline ⟨k, due⟩ (dropKey k s.time.deadlines) := rfl

@[simp] theorem State.insertAt_expiries (s : State) (k : DeadlineKey) (due : Instant) :
    (s.insertAt k due).time.expiries = dropKey k s.time.expiries := rfl

@[simp] theorem State.removeDeadline_deadlines (s : State) (k : DeadlineKey) :
    (s.removeDeadline k).time.deadlines = dropKey k s.time.deadlines := rfl

@[simp] theorem State.removeDeadline_expiries (s : State) (k : DeadlineKey) :
    (s.removeDeadline k).time.expiries = dropKey k s.time.expiries := rfl

@[simp] theorem State.insertAfter_now (s : State) (k : DeadlineKey) (secs : Nat) : (s.insertAfter k secs).now = s.now := rfl

@[simp] theorem State.removeDeadline_now (s : State) (k : DeadlineKey) : (s.removeDeadline k).now = s.now := rfl

/-- An expiry is delivered when it is the next of its owner (R172). -/
theorem State.deliver_of_next {s : State} {k : DeadlineKey} {d : Deadline} (f : Instant → State → State)
    (h : nextExpiry k.owner s.time.expiries = some d) (hk : d.key = k) :
    s.deliver k f = f d.due (s.setTime { s.time with expiries := dropKey k s.time.expiries }) := by
  simp [State.deliver, h, hk]

/-- Where the next expiry of the owner is another, or there is none, nothing changes (R172, log entry 3). -/
theorem State.deliver_of_other {s : State} {k : DeadlineKey} (f : Instant → State → State)
    (h : ∀ d, nextExpiry k.owner s.time.expiries = some d → d.key ≠ k) : s.deliver k f = s := by
  unfold State.deliver
  split
  · rfl
  · next d hd => simp [h d hd]

/-! ### Requests -/

/-- A request whose characters have been received is taken by its block. -/
theorem State.serve_of_waiting {s : State} {code : List Byte} (act : State → State × Reply)
    (h : s.link.request = some code) :
    s.serve code act =
      (act (s.setLink { s.link with request := none })).1.formReply (act (s.setLink { s.link with request := none })).2 := by
  simp [State.serve, h]

/-- A request frame that completes with the port IDLE is taken by its block. -/
theorem State.serve_of_idle {s : State} {code : List Byte} (act : State → State × Reply) (h : s.link.port = .idle)
    (hw : s.link.request ≠ some code) :
    s.serve code act =
      (act (s.setLink { s.link with port := .serving })).1.formReply (act (s.setLink { s.link with port := .serving })).2 := by
  simp [State.serve, h, hw]

/-- A request frame that completes with the port busy is an overrun (R183). -/
theorem State.serve_of_busy {s : State} {code : List Byte} (act : State → State × Reply) (h : s.link.port ≠ .idle)
    (hw : s.link.request ≠ some code) : s.serve code act = s.discardFrame := by simp [State.serve, h, hw]

/-! ### Arithmetic -/

theorem clampInt_bounds {lo hi : Int} (h : lo ≤ hi) (x : Int) : lo ≤ clampInt lo hi x ∧ clampInt lo hi x ≤ hi := by
  unfold clampInt
  split
  · omega
  · split <;> omega

theorem clampInt_of_mem {lo hi x : Int} (h1 : lo ≤ x) (h2 : x ≤ hi) : clampInt lo hi x = x := by
  unfold clampInt
  split
  · omega
  · split <;> omega

theorem clampNat_bounds {lo hi : Nat} (h : lo ≤ hi) (x : Nat) : lo ≤ clampNat lo hi x ∧ clampNat lo hi x ≤ hi := by
  unfold clampNat
  split
  · omega
  · split <;> omega

theorem hold9999_le (u : Nat) : (hold9999 u).1 ≤ 9999 := by
  unfold hold9999
  split <;> simp
  omega

end Sys2Proof.Machine
end

