-- ==== Sys2Proof/Laws/Blocks.lean ====
section
/-! SUPPORT. What the operations of one block that others call can change: one lemma for each field they leave alone, and, for
the valve, the path state, the reports and the fan outputs, what they do. -/

namespace Sys2Proof.Machine

/-! ### Valve, path state, air handler -/

@[simp] theorem State.reportValve_holds (s : State) : (s.reportValve).holds = s.holds := rfl
@[simp] theorem State.reportValve_map (s : State) : (s.reportValve).map = s.map := rfl
@[simp] theorem State.reportValve_meas (s : State) : (s.reportValve).meas = s.meas := rfl
@[simp] theorem State.reportValve_doors (s : State) : (s.reportValve).doors = s.doors := rfl
@[simp] theorem State.reportValve_eval (s : State) : (s.reportValve).eval = s.eval := rfl
@[simp] theorem State.reportValve_arb (s : State) : (s.reportValve).arb = s.arb := rfl
@[simp] theorem State.reportValve_drive (s : State) : (s.reportValve).drive = s.drive := rfl
@[simp] theorem State.reportValve_defrost (s : State) : (s.reportValve).defrost = s.defrost := rfl
@[simp] theorem State.reportValve_air (s : State) : (s.reportValve).air = s.air := rfl
@[simp] theorem State.reportValve_time (s : State) : (s.reportValve).time = s.time := rfl
@[simp] theorem State.reportValve_link (s : State) : (s.reportValve).link = s.link := rfl
@[simp] theorem State.reportValve_notice (s : State) : (s.reportValve).notice = s.notice := rfl
@[simp] theorem State.reportValve_store (s : State) : (s.reportValve).store = s.store := rfl
@[simp] theorem State.reportValve_straps (s : State) : (s.reportValve).straps = s.straps := rfl
@[simp] theorem State.reportValve_pending (s : State) : (s.reportValve).pending = s.pending := rfl

@[simp] theorem State.takeValve_holds (s : State) : (s.takeValve).holds = s.holds := by unfold State.takeValve; dsimp only; split <;> (try split) <;> simp
@[simp] theorem State.takeValve_map (s : State) : (s.takeValve).map = s.map := by unfold State.takeValve; dsimp only; split <;> (try split) <;> simp
@[simp] theorem State.takeValve_meas (s : State) : (s.takeValve).meas = s.meas := by unfold State.takeValve; dsimp only; split <;> (try split) <;> simp
@[simp] theorem State.takeValve_doors (s : State) : (s.takeValve).doors = s.doors := by unfold State.takeValve; dsimp only; split <;> (try split) <;> simp
@[simp] theorem State.takeValve_eval (s : State) : (s.takeValve).eval = s.eval := by unfold State.takeValve; dsimp only; split <;> (try split) <;> simp
@[simp] theorem State.takeValve_arb (s : State) : (s.takeValve).arb = s.arb := by unfold State.takeValve; dsimp only; split <;> (try split) <;> simp
@[simp] theorem State.takeValve_drive (s : State) : (s.takeValve).drive = s.drive := by unfold State.takeValve; dsimp only; split <;> (try split) <;> simp
@[simp] theorem State.takeValve_defrost (s : State) : (s.takeValve).defrost = s.defrost := by unfold State.takeValve; dsimp only; split <;> (try split) <;> simp
@[simp] theorem State.takeValve_time (s : State) : (s.takeValve).time = s.time := by unfold State.takeValve; dsimp only; split <;> (try split) <;> simp
@[simp] theorem State.takeValve_link (s : State) : (s.takeValve).link = s.link := by unfold State.takeValve; dsimp only; split <;> (try split) <;> simp
@[simp] theorem State.takeValve_notice (s : State) : (s.takeValve).notice = s.notice := by unfold State.takeValve; dsimp only; split <;> (try split) <;> simp
@[simp] theorem State.takeValve_store (s : State) : (s.takeValve).store = s.store := by unfold State.takeValve; dsimp only; split <;> (try split) <;> simp
@[simp] theorem State.takeValve_straps (s : State) : (s.takeValve).straps = s.straps := by unfold State.takeValve; dsimp only; split <;> (try split) <;> simp
@[simp] theorem State.takeValve_pending (s : State) : (s.takeValve).pending = s.pending := by unfold State.takeValve; dsimp only; split <;> (try split) <;> simp

@[simp] theorem State.recomputeAirAt_holds (s : State) (amb : Int) : (s.recomputeAirAt amb).holds = s.holds := by simp [State.recomputeAirAt]
@[simp] theorem State.recomputeAirAt_map (s : State) (amb : Int) : (s.recomputeAirAt amb).map = s.map := by simp [State.recomputeAirAt]
@[simp] theorem State.recomputeAirAt_meas (s : State) (amb : Int) : (s.recomputeAirAt amb).meas = s.meas := by simp [State.recomputeAirAt]
@[simp] theorem State.recomputeAirAt_doors (s : State) (amb : Int) : (s.recomputeAirAt amb).doors = s.doors := by simp [State.recomputeAirAt]
@[simp] theorem State.recomputeAirAt_eval (s : State) (amb : Int) : (s.recomputeAirAt amb).eval = s.eval := by simp [State.recomputeAirAt]
@[simp] theorem State.recomputeAirAt_arb (s : State) (amb : Int) : (s.recomputeAirAt amb).arb = s.arb := by simp [State.recomputeAirAt]
@[simp] theorem State.recomputeAirAt_drive (s : State) (amb : Int) : (s.recomputeAirAt amb).drive = s.drive := by simp [State.recomputeAirAt]
@[simp] theorem State.recomputeAirAt_defrost (s : State) (amb : Int) : (s.recomputeAirAt amb).defrost = s.defrost := by simp [State.recomputeAirAt]
@[simp] theorem State.recomputeAirAt_time (s : State) (amb : Int) : (s.recomputeAirAt amb).time = s.time := by simp [State.recomputeAirAt]
@[simp] theorem State.recomputeAirAt_link (s : State) (amb : Int) : (s.recomputeAirAt amb).link = s.link := by simp [State.recomputeAirAt]
@[simp] theorem State.recomputeAirAt_notice (s : State) (amb : Int) : (s.recomputeAirAt amb).notice = s.notice := by simp [State.recomputeAirAt]
@[simp] theorem State.recomputeAirAt_store (s : State) (amb : Int) : (s.recomputeAirAt amb).store = s.store := by simp [State.recomputeAirAt]
@[simp] theorem State.recomputeAirAt_straps (s : State) (amb : Int) : (s.recomputeAirAt amb).straps = s.straps := by simp [State.recomputeAirAt]
@[simp] theorem State.recomputeAirAt_events (s : State) (amb : Int) : (s.recomputeAirAt amb).events = s.events := by simp [State.recomputeAirAt]
@[simp] theorem State.recomputeAirAt_pending (s : State) (amb : Int) : (s.recomputeAirAt amb).pending = s.pending := by simp [State.recomputeAirAt]

@[simp] theorem State.recomputeAir_holds (s : State) : (s.recomputeAir).holds = s.holds := by simp [State.recomputeAir]
@[simp] theorem State.recomputeAir_map (s : State) : (s.recomputeAir).map = s.map := by simp [State.recomputeAir]
@[simp] theorem State.recomputeAir_meas (s : State) : (s.recomputeAir).meas = s.meas := by simp [State.recomputeAir]
@[simp] theorem State.recomputeAir_doors (s : State) : (s.recomputeAir).doors = s.doors := by simp [State.recomputeAir]
@[simp] theorem State.recomputeAir_eval (s : State) : (s.recomputeAir).eval = s.eval := by simp [State.recomputeAir]
@[simp] theorem State.recomputeAir_arb (s : State) : (s.recomputeAir).arb = s.arb := by simp [State.recomputeAir]
@[simp] theorem State.recomputeAir_drive (s : State) : (s.recomputeAir).drive = s.drive := by simp [State.recomputeAir]
@[simp] theorem State.recomputeAir_defrost (s : State) : (s.recomputeAir).defrost = s.defrost := by simp [State.recomputeAir]
@[simp] theorem State.recomputeAir_time (s : State) : (s.recomputeAir).time = s.time := by simp [State.recomputeAir]
@[simp] theorem State.recomputeAir_link (s : State) : (s.recomputeAir).link = s.link := by simp [State.recomputeAir]
@[simp] theorem State.recomputeAir_notice (s : State) : (s.recomputeAir).notice = s.notice := by simp [State.recomputeAir]
@[simp] theorem State.recomputeAir_store (s : State) : (s.recomputeAir).store = s.store := by simp [State.recomputeAir]
@[simp] theorem State.recomputeAir_straps (s : State) : (s.recomputeAir).straps = s.straps := by simp [State.recomputeAir]
@[simp] theorem State.recomputeAir_events (s : State) : (s.recomputeAir).events = s.events := by simp [State.recomputeAir]
@[simp] theorem State.recomputeAir_pending (s : State) : (s.recomputeAir).pending = s.pending := by simp [State.recomputeAir]

@[simp] theorem State.startFanDelay_holds (s : State) : (s.startFanDelay).holds = s.holds := by unfold State.startFanDelay; split <;> simp
@[simp] theorem State.startFanDelay_map (s : State) : (s.startFanDelay).map = s.map := by unfold State.startFanDelay; split <;> simp
@[simp] theorem State.startFanDelay_meas (s : State) : (s.startFanDelay).meas = s.meas := by unfold State.startFanDelay; split <;> simp
@[simp] theorem State.startFanDelay_doors (s : State) : (s.startFanDelay).doors = s.doors := by unfold State.startFanDelay; split <;> simp
@[simp] theorem State.startFanDelay_eval (s : State) : (s.startFanDelay).eval = s.eval := by unfold State.startFanDelay; split <;> simp
@[simp] theorem State.startFanDelay_arb (s : State) : (s.startFanDelay).arb = s.arb := by unfold State.startFanDelay; split <;> simp
@[simp] theorem State.startFanDelay_drive (s : State) : (s.startFanDelay).drive = s.drive := by unfold State.startFanDelay; split <;> simp
@[simp] theorem State.startFanDelay_defrost (s : State) : (s.startFanDelay).defrost = s.defrost := by unfold State.startFanDelay; split <;> simp
@[simp] theorem State.startFanDelay_link (s : State) : (s.startFanDelay).link = s.link := by unfold State.startFanDelay; split <;> simp
@[simp] theorem State.startFanDelay_notice (s : State) : (s.startFanDelay).notice = s.notice := by unfold State.startFanDelay; split <;> simp
@[simp] theorem State.startFanDelay_store (s : State) : (s.startFanDelay).store = s.store := by unfold State.startFanDelay; split <;> simp
@[simp] theorem State.startFanDelay_straps (s : State) : (s.startFanDelay).straps = s.straps := by unfold State.startFanDelay; split <;> simp
@[simp] theorem State.startFanDelay_events (s : State) : (s.startFanDelay).events = s.events := by unfold State.startFanDelay; split <;> simp
@[simp] theorem State.startFanDelay_pending (s : State) : (s.startFanDelay).pending = s.pending := by unfold State.startFanDelay; split <;> simp

@[simp] theorem State.dropFanDelay_holds (s : State) : (s.dropFanDelay).holds = s.holds := by simp [State.dropFanDelay]
@[simp] theorem State.dropFanDelay_map (s : State) : (s.dropFanDelay).map = s.map := by simp [State.dropFanDelay]
@[simp] theorem State.dropFanDelay_meas (s : State) : (s.dropFanDelay).meas = s.meas := by simp [State.dropFanDelay]
@[simp] theorem State.dropFanDelay_doors (s : State) : (s.dropFanDelay).doors = s.doors := by simp [State.dropFanDelay]
@[simp] theorem State.dropFanDelay_eval (s : State) : (s.dropFanDelay).eval = s.eval := by simp [State.dropFanDelay]
@[simp] theorem State.dropFanDelay_arb (s : State) : (s.dropFanDelay).arb = s.arb := by simp [State.dropFanDelay]
@[simp] theorem State.dropFanDelay_drive (s : State) : (s.dropFanDelay).drive = s.drive := by simp [State.dropFanDelay]
@[simp] theorem State.dropFanDelay_defrost (s : State) : (s.dropFanDelay).defrost = s.defrost := by simp [State.dropFanDelay]
@[simp] theorem State.dropFanDelay_link (s : State) : (s.dropFanDelay).link = s.link := by simp [State.dropFanDelay]
@[simp] theorem State.dropFanDelay_notice (s : State) : (s.dropFanDelay).notice = s.notice := by simp [State.dropFanDelay]
@[simp] theorem State.dropFanDelay_store (s : State) : (s.dropFanDelay).store = s.store := by simp [State.dropFanDelay]
@[simp] theorem State.dropFanDelay_straps (s : State) : (s.dropFanDelay).straps = s.straps := by simp [State.dropFanDelay]
@[simp] theorem State.dropFanDelay_events (s : State) : (s.dropFanDelay).events = s.events := by simp [State.dropFanDelay]
@[simp] theorem State.dropFanDelay_pending (s : State) : (s.dropFanDelay).pending = s.pending := by simp [State.dropFanDelay]

@[simp] theorem State.fanDelayStep_holds (s : State) (b : Bool) : (s.fanDelayStep b).holds = s.holds := by unfold State.fanDelayStep; split <;> (try split) <;> simp
@[simp] theorem State.fanDelayStep_map (s : State) (b : Bool) : (s.fanDelayStep b).map = s.map := by unfold State.fanDelayStep; split <;> (try split) <;> simp
@[simp] theorem State.fanDelayStep_meas (s : State) (b : Bool) : (s.fanDelayStep b).meas = s.meas := by unfold State.fanDelayStep; split <;> (try split) <;> simp
@[simp] theorem State.fanDelayStep_doors (s : State) (b : Bool) : (s.fanDelayStep b).doors = s.doors := by unfold State.fanDelayStep; split <;> (try split) <;> simp
@[simp] theorem State.fanDelayStep_eval (s : State) (b : Bool) : (s.fanDelayStep b).eval = s.eval := by unfold State.fanDelayStep; split <;> (try split) <;> simp
@[simp] theorem State.fanDelayStep_arb (s : State) (b : Bool) : (s.fanDelayStep b).arb = s.arb := by unfold State.fanDelayStep; split <;> (try split) <;> simp
@[simp] theorem State.fanDelayStep_drive (s : State) (b : Bool) : (s.fanDelayStep b).drive = s.drive := by unfold State.fanDelayStep; split <;> (try split) <;> simp
@[simp] theorem State.fanDelayStep_defrost (s : State) (b : Bool) : (s.fanDelayStep b).defrost = s.defrost := by unfold State.fanDelayStep; split <;> (try split) <;> simp
@[simp] theorem State.fanDelayStep_link (s : State) (b : Bool) : (s.fanDelayStep b).link = s.link := by unfold State.fanDelayStep; split <;> (try split) <;> simp
@[simp] theorem State.fanDelayStep_notice (s : State) (b : Bool) : (s.fanDelayStep b).notice = s.notice := by unfold State.fanDelayStep; split <;> (try split) <;> simp
@[simp] theorem State.fanDelayStep_store (s : State) (b : Bool) : (s.fanDelayStep b).store = s.store := by unfold State.fanDelayStep; split <;> (try split) <;> simp
@[simp] theorem State.fanDelayStep_straps (s : State) (b : Bool) : (s.fanDelayStep b).straps = s.straps := by unfold State.fanDelayStep; split <;> (try split) <;> simp
@[simp] theorem State.fanDelayStep_events (s : State) (b : Bool) : (s.fanDelayStep b).events = s.events := by unfold State.fanDelayStep; split <;> (try split) <;> simp
@[simp] theorem State.fanDelayStep_pending (s : State) (b : Bool) : (s.fanDelayStep b).pending = s.pending := by unfold State.fanDelayStep; split <;> (try split) <;> simp

@[simp] theorem State.airPathChange_holds (s : State) (b : Bool) : (s.airPathChange b).holds = s.holds := by simp [State.airPathChange]
@[simp] theorem State.airPathChange_map (s : State) (b : Bool) : (s.airPathChange b).map = s.map := by simp [State.airPathChange]
@[simp] theorem State.airPathChange_meas (s : State) (b : Bool) : (s.airPathChange b).meas = s.meas := by simp [State.airPathChange]
@[simp] theorem State.airPathChange_doors (s : State) (b : Bool) : (s.airPathChange b).doors = s.doors := by simp [State.airPathChange]
@[simp] theorem State.airPathChange_eval (s : State) (b : Bool) : (s.airPathChange b).eval = s.eval := by simp [State.airPathChange]
@[simp] theorem State.airPathChange_arb (s : State) (b : Bool) : (s.airPathChange b).arb = s.arb := by simp [State.airPathChange]
@[simp] theorem State.airPathChange_drive (s : State) (b : Bool) : (s.airPathChange b).drive = s.drive := by simp [State.airPathChange]
@[simp] theorem State.airPathChange_defrost (s : State) (b : Bool) : (s.airPathChange b).defrost = s.defrost := by simp [State.airPathChange]
@[simp] theorem State.airPathChange_link (s : State) (b : Bool) : (s.airPathChange b).link = s.link := by simp [State.airPathChange]
@[simp] theorem State.airPathChange_notice (s : State) (b : Bool) : (s.airPathChange b).notice = s.notice := by simp [State.airPathChange]
@[simp] theorem State.airPathChange_store (s : State) (b : Bool) : (s.airPathChange b).store = s.store := by simp [State.airPathChange]
@[simp] theorem State.airPathChange_straps (s : State) (b : Bool) : (s.airPathChange b).straps = s.straps := by simp [State.airPathChange]
@[simp] theorem State.airPathChange_pending (s : State) (b : Bool) : (s.airPathChange b).pending = s.pending := by simp [State.airPathChange]

@[simp] theorem State.airS4_holds (s : State) (r : Report) : (s.airS4 r).holds = s.holds := by unfold State.airS4; split <;> simp
@[simp] theorem State.airS4_map (s : State) (r : Report) : (s.airS4 r).map = s.map := by unfold State.airS4; split <;> simp
@[simp] theorem State.airS4_meas (s : State) (r : Report) : (s.airS4 r).meas = s.meas := by unfold State.airS4; split <;> simp
@[simp] theorem State.airS4_doors (s : State) (r : Report) : (s.airS4 r).doors = s.doors := by unfold State.airS4; split <;> simp
@[simp] theorem State.airS4_eval (s : State) (r : Report) : (s.airS4 r).eval = s.eval := by unfold State.airS4; split <;> simp
@[simp] theorem State.airS4_arb (s : State) (r : Report) : (s.airS4 r).arb = s.arb := by unfold State.airS4; split <;> simp
@[simp] theorem State.airS4_drive (s : State) (r : Report) : (s.airS4 r).drive = s.drive := by unfold State.airS4; split <;> simp
@[simp] theorem State.airS4_defrost (s : State) (r : Report) : (s.airS4 r).defrost = s.defrost := by unfold State.airS4; split <;> simp
@[simp] theorem State.airS4_link (s : State) (r : Report) : (s.airS4 r).link = s.link := by unfold State.airS4; split <;> simp
@[simp] theorem State.airS4_notice (s : State) (r : Report) : (s.airS4 r).notice = s.notice := by unfold State.airS4; split <;> simp
@[simp] theorem State.airS4_store (s : State) (r : Report) : (s.airS4 r).store = s.store := by unfold State.airS4; split <;> simp
@[simp] theorem State.airS4_straps (s : State) (r : Report) : (s.airS4 r).straps = s.straps := by unfold State.airS4; split <;> simp
@[simp] theorem State.airS4_events (s : State) (r : Report) : (s.airS4 r).events = s.events := by unfold State.airS4; split <;> simp
@[simp] theorem State.airS4_pending (s : State) (r : Report) : (s.airS4 r).pending = s.pending := by unfold State.airS4; split <;> simp

@[simp] theorem State.changePath_holds (s : State) (st : PathState) : (s.changePath st).holds = s.holds := by unfold State.changePath; split <;> simp
@[simp] theorem State.changePath_map (s : State) (st : PathState) : (s.changePath st).map = s.map := by unfold State.changePath; split <;> simp
@[simp] theorem State.changePath_meas (s : State) (st : PathState) : (s.changePath st).meas = s.meas := by unfold State.changePath; split <;> simp
@[simp] theorem State.changePath_doors (s : State) (st : PathState) : (s.changePath st).doors = s.doors := by unfold State.changePath; split <;> simp
@[simp] theorem State.changePath_eval (s : State) (st : PathState) : (s.changePath st).eval = s.eval := by unfold State.changePath; split <;> simp
@[simp] theorem State.changePath_drive (s : State) (st : PathState) : (s.changePath st).drive = s.drive := by unfold State.changePath; split <;> simp
@[simp] theorem State.changePath_defrost (s : State) (st : PathState) : (s.changePath st).defrost = s.defrost := by unfold State.changePath; split <;> simp
@[simp] theorem State.changePath_air (s : State) (st : PathState) : (s.changePath st).air = s.air := by unfold State.changePath; split <;> simp
@[simp] theorem State.changePath_time (s : State) (st : PathState) : (s.changePath st).time = s.time := by unfold State.changePath; split <;> simp
@[simp] theorem State.changePath_link (s : State) (st : PathState) : (s.changePath st).link = s.link := by unfold State.changePath; split <;> simp
@[simp] theorem State.changePath_notice (s : State) (st : PathState) : (s.changePath st).notice = s.notice := by unfold State.changePath; split <;> simp
@[simp] theorem State.changePath_store (s : State) (st : PathState) : (s.changePath st).store = s.store := by unfold State.changePath; split <;> simp
@[simp] theorem State.changePath_straps (s : State) (st : PathState) : (s.changePath st).straps = s.straps := by unfold State.changePath; split <;> simp
@[simp] theorem State.changePath_pending (s : State) (st : PathState) : (s.changePath st).pending = s.pending := by unfold State.changePath; split <;> simp

@[simp] theorem State.aimStart_holds (s : State) (p : Option Path) : (s.aimStart p).holds = s.holds := by simp [State.aimStart]
@[simp] theorem State.aimStart_map (s : State) (p : Option Path) : (s.aimStart p).map = s.map := by simp [State.aimStart]
@[simp] theorem State.aimStart_meas (s : State) (p : Option Path) : (s.aimStart p).meas = s.meas := by simp [State.aimStart]
@[simp] theorem State.aimStart_doors (s : State) (p : Option Path) : (s.aimStart p).doors = s.doors := by simp [State.aimStart]
@[simp] theorem State.aimStart_eval (s : State) (p : Option Path) : (s.aimStart p).eval = s.eval := by simp [State.aimStart]
@[simp] theorem State.aimStart_drive (s : State) (p : Option Path) : (s.aimStart p).drive = s.drive := by simp [State.aimStart]
@[simp] theorem State.aimStart_defrost (s : State) (p : Option Path) : (s.aimStart p).defrost = s.defrost := by simp [State.aimStart]
@[simp] theorem State.aimStart_air (s : State) (p : Option Path) : (s.aimStart p).air = s.air := by simp [State.aimStart]
@[simp] theorem State.aimStart_time (s : State) (p : Option Path) : (s.aimStart p).time = s.time := by simp [State.aimStart]
@[simp] theorem State.aimStart_link (s : State) (p : Option Path) : (s.aimStart p).link = s.link := by simp [State.aimStart]
@[simp] theorem State.aimStart_notice (s : State) (p : Option Path) : (s.aimStart p).notice = s.notice := by simp [State.aimStart]
@[simp] theorem State.aimStart_store (s : State) (p : Option Path) : (s.aimStart p).store = s.store := by simp [State.aimStart]
@[simp] theorem State.aimStart_straps (s : State) (p : Option Path) : (s.aimStart p).straps = s.straps := by simp [State.aimStart]
@[simp] theorem State.aimStart_pending (s : State) (p : Option Path) : (s.aimStart p).pending = s.pending := by simp [State.aimStart]

@[simp] theorem State.stopCompressor_holds (s : State) : (s.stopCompressor).holds = s.holds := by simp [State.stopCompressor]
@[simp] theorem State.stopCompressor_map (s : State) : (s.stopCompressor).map = s.map := by simp [State.stopCompressor]
@[simp] theorem State.stopCompressor_meas (s : State) : (s.stopCompressor).meas = s.meas := by simp [State.stopCompressor]
@[simp] theorem State.stopCompressor_doors (s : State) : (s.stopCompressor).doors = s.doors := by simp [State.stopCompressor]
@[simp] theorem State.stopCompressor_eval (s : State) : (s.stopCompressor).eval = s.eval := by simp [State.stopCompressor]
@[simp] theorem State.stopCompressor_drive (s : State) : (s.stopCompressor).drive = s.drive := by simp [State.stopCompressor]
@[simp] theorem State.stopCompressor_defrost (s : State) : (s.stopCompressor).defrost = s.defrost := by simp [State.stopCompressor]
@[simp] theorem State.stopCompressor_air (s : State) : (s.stopCompressor).air = s.air := by simp [State.stopCompressor]
@[simp] theorem State.stopCompressor_link (s : State) : (s.stopCompressor).link = s.link := by simp [State.stopCompressor]
@[simp] theorem State.stopCompressor_notice (s : State) : (s.stopCompressor).notice = s.notice := by simp [State.stopCompressor]
@[simp] theorem State.stopCompressor_store (s : State) : (s.stopCompressor).store = s.store := by simp [State.stopCompressor]
@[simp] theorem State.stopCompressor_straps (s : State) : (s.stopCompressor).straps = s.straps := by simp [State.stopCompressor]
@[simp] theorem State.stopCompressor_events (s : State) : (s.stopCompressor).events = s.events := by simp [State.stopCompressor]
@[simp] theorem State.stopCompressor_pending (s : State) : (s.stopCompressor).pending = s.pending := by simp [State.stopCompressor]

@[simp] theorem State.startDwell_holds (s : State) : (s.startDwell).holds = s.holds := by simp [State.startDwell]
@[simp] theorem State.startDwell_map (s : State) : (s.startDwell).map = s.map := by simp [State.startDwell]
@[simp] theorem State.startDwell_meas (s : State) : (s.startDwell).meas = s.meas := by simp [State.startDwell]
@[simp] theorem State.startDwell_doors (s : State) : (s.startDwell).doors = s.doors := by simp [State.startDwell]
@[simp] theorem State.startDwell_eval (s : State) : (s.startDwell).eval = s.eval := by simp [State.startDwell]
@[simp] theorem State.startDwell_drive (s : State) : (s.startDwell).drive = s.drive := by simp [State.startDwell]
@[simp] theorem State.startDwell_defrost (s : State) : (s.startDwell).defrost = s.defrost := by simp [State.startDwell]
@[simp] theorem State.startDwell_air (s : State) : (s.startDwell).air = s.air := by simp [State.startDwell]
@[simp] theorem State.startDwell_link (s : State) : (s.startDwell).link = s.link := by simp [State.startDwell]
@[simp] theorem State.startDwell_notice (s : State) : (s.startDwell).notice = s.notice := by simp [State.startDwell]
@[simp] theorem State.startDwell_store (s : State) : (s.startDwell).store = s.store := by simp [State.startDwell]
@[simp] theorem State.startDwell_straps (s : State) : (s.startDwell).straps = s.straps := by simp [State.startDwell]
@[simp] theorem State.startDwell_events (s : State) : (s.startDwell).events = s.events := by simp [State.startDwell]
@[simp] theorem State.startDwell_pending (s : State) : (s.startDwell).pending = s.pending := by simp [State.startDwell]

@[simp] theorem State.retarget_holds (s : State) : (s.retarget).holds = s.holds := by unfold State.retarget; split <;> simp
@[simp] theorem State.retarget_map (s : State) : (s.retarget).map = s.map := by unfold State.retarget; split <;> simp
@[simp] theorem State.retarget_meas (s : State) : (s.retarget).meas = s.meas := by unfold State.retarget; split <;> simp
@[simp] theorem State.retarget_doors (s : State) : (s.retarget).doors = s.doors := by unfold State.retarget; split <;> simp
@[simp] theorem State.retarget_eval (s : State) : (s.retarget).eval = s.eval := by unfold State.retarget; split <;> simp
@[simp] theorem State.retarget_drive (s : State) : (s.retarget).drive = s.drive := by unfold State.retarget; split <;> simp
@[simp] theorem State.retarget_defrost (s : State) : (s.retarget).defrost = s.defrost := by unfold State.retarget; split <;> simp
@[simp] theorem State.retarget_air (s : State) : (s.retarget).air = s.air := by unfold State.retarget; split <;> simp
@[simp] theorem State.retarget_time (s : State) : (s.retarget).time = s.time := by unfold State.retarget; split <;> simp
@[simp] theorem State.retarget_link (s : State) : (s.retarget).link = s.link := by unfold State.retarget; split <;> simp
@[simp] theorem State.retarget_notice (s : State) : (s.retarget).notice = s.notice := by unfold State.retarget; split <;> simp
@[simp] theorem State.retarget_store (s : State) : (s.retarget).store = s.store := by unfold State.retarget; split <;> simp
@[simp] theorem State.retarget_straps (s : State) : (s.retarget).straps = s.straps := by unfold State.retarget; split <;> simp
@[simp] theorem State.retarget_events (s : State) : (s.retarget).events = s.events := by unfold State.retarget; split <;> simp
@[simp] theorem State.retarget_pending (s : State) : (s.retarget).pending = s.pending := by unfold State.retarget; split <;> simp

@[simp] theorem State.runOn_holds (s : State) (p : Path) : (s.runOn p).holds = s.holds := by simp [State.runOn]
@[simp] theorem State.runOn_map (s : State) (p : Path) : (s.runOn p).map = s.map := by simp [State.runOn]
@[simp] theorem State.runOn_meas (s : State) (p : Path) : (s.runOn p).meas = s.meas := by simp [State.runOn]
@[simp] theorem State.runOn_doors (s : State) (p : Path) : (s.runOn p).doors = s.doors := by simp [State.runOn]
@[simp] theorem State.runOn_eval (s : State) (p : Path) : (s.runOn p).eval = s.eval := by simp [State.runOn]
@[simp] theorem State.runOn_drive (s : State) (p : Path) : (s.runOn p).drive = s.drive := by simp [State.runOn]
@[simp] theorem State.runOn_defrost (s : State) (p : Path) : (s.runOn p).defrost = s.defrost := by simp [State.runOn]
@[simp] theorem State.runOn_air (s : State) (p : Path) : (s.runOn p).air = s.air := by simp [State.runOn]
@[simp] theorem State.runOn_link (s : State) (p : Path) : (s.runOn p).link = s.link := by simp [State.runOn]
@[simp] theorem State.runOn_notice (s : State) (p : Path) : (s.runOn p).notice = s.notice := by simp [State.runOn]
@[simp] theorem State.runOn_store (s : State) (p : Path) : (s.runOn p).store = s.store := by simp [State.runOn]
@[simp] theorem State.runOn_straps (s : State) (p : Path) : (s.runOn p).straps = s.straps := by simp [State.runOn]
@[simp] theorem State.runOn_pending (s : State) (p : Path) : (s.runOn p).pending = s.pending := by simp [State.runOn]

@[simp] theorem State.enterPumpdown_holds (s : State) : (s.enterPumpdown).holds = s.holds := by simp [State.enterPumpdown]
@[simp] theorem State.enterPumpdown_map (s : State) : (s.enterPumpdown).map = s.map := by simp [State.enterPumpdown]
@[simp] theorem State.enterPumpdown_meas (s : State) : (s.enterPumpdown).meas = s.meas := by simp [State.enterPumpdown]
@[simp] theorem State.enterPumpdown_doors (s : State) : (s.enterPumpdown).doors = s.doors := by simp [State.enterPumpdown]
@[simp] theorem State.enterPumpdown_eval (s : State) : (s.enterPumpdown).eval = s.eval := by simp [State.enterPumpdown]
@[simp] theorem State.enterPumpdown_drive (s : State) : (s.enterPumpdown).drive = s.drive := by simp [State.enterPumpdown]
@[simp] theorem State.enterPumpdown_defrost (s : State) : (s.enterPumpdown).defrost = s.defrost := by simp [State.enterPumpdown]
@[simp] theorem State.enterPumpdown_air (s : State) : (s.enterPumpdown).air = s.air := by simp [State.enterPumpdown]
@[simp] theorem State.enterPumpdown_link (s : State) : (s.enterPumpdown).link = s.link := by simp [State.enterPumpdown]
@[simp] theorem State.enterPumpdown_notice (s : State) : (s.enterPumpdown).notice = s.notice := by simp [State.enterPumpdown]
@[simp] theorem State.enterPumpdown_store (s : State) : (s.enterPumpdown).store = s.store := by simp [State.enterPumpdown]
@[simp] theorem State.enterPumpdown_straps (s : State) : (s.enterPumpdown).straps = s.straps := by simp [State.enterPumpdown]
@[simp] theorem State.enterPumpdown_pending (s : State) : (s.enterPumpdown).pending = s.pending := by simp [State.enterPumpdown]

@[simp] theorem State.stopToOff_holds (s : State) : (s.stopToOff).holds = s.holds := by simp [State.stopToOff]
@[simp] theorem State.stopToOff_map (s : State) : (s.stopToOff).map = s.map := by simp [State.stopToOff]
@[simp] theorem State.stopToOff_meas (s : State) : (s.stopToOff).meas = s.meas := by simp [State.stopToOff]
@[simp] theorem State.stopToOff_doors (s : State) : (s.stopToOff).doors = s.doors := by simp [State.stopToOff]
@[simp] theorem State.stopToOff_eval (s : State) : (s.stopToOff).eval = s.eval := by simp [State.stopToOff]
@[simp] theorem State.stopToOff_drive (s : State) : (s.stopToOff).drive = s.drive := by simp [State.stopToOff]
@[simp] theorem State.stopToOff_defrost (s : State) : (s.stopToOff).defrost = s.defrost := by simp [State.stopToOff]
@[simp] theorem State.stopToOff_air (s : State) : (s.stopToOff).air = s.air := by simp [State.stopToOff]
@[simp] theorem State.stopToOff_link (s : State) : (s.stopToOff).link = s.link := by simp [State.stopToOff]
@[simp] theorem State.stopToOff_notice (s : State) : (s.stopToOff).notice = s.notice := by simp [State.stopToOff]
@[simp] theorem State.stopToOff_store (s : State) : (s.stopToOff).store = s.store := by simp [State.stopToOff]
@[simp] theorem State.stopToOff_straps (s : State) : (s.stopToOff).straps = s.straps := by simp [State.stopToOff]
@[simp] theorem State.stopToOff_pending (s : State) : (s.stopToOff).pending = s.pending := by simp [State.stopToOff]

@[simp] theorem State.beginStart_holds (s : State) (p : Path) : (s.beginStart p).holds = s.holds := by simp [State.beginStart]
@[simp] theorem State.beginStart_map (s : State) (p : Path) : (s.beginStart p).map = s.map := by simp [State.beginStart]
@[simp] theorem State.beginStart_meas (s : State) (p : Path) : (s.beginStart p).meas = s.meas := by simp [State.beginStart]
@[simp] theorem State.beginStart_doors (s : State) (p : Path) : (s.beginStart p).doors = s.doors := by simp [State.beginStart]
@[simp] theorem State.beginStart_eval (s : State) (p : Path) : (s.beginStart p).eval = s.eval := by simp [State.beginStart]
@[simp] theorem State.beginStart_drive (s : State) (p : Path) : (s.beginStart p).drive = s.drive := by simp [State.beginStart]
@[simp] theorem State.beginStart_defrost (s : State) (p : Path) : (s.beginStart p).defrost = s.defrost := by simp [State.beginStart]
@[simp] theorem State.beginStart_air (s : State) (p : Path) : (s.beginStart p).air = s.air := by simp [State.beginStart]
@[simp] theorem State.beginStart_time (s : State) (p : Path) : (s.beginStart p).time = s.time := by simp [State.beginStart]
@[simp] theorem State.beginStart_link (s : State) (p : Path) : (s.beginStart p).link = s.link := by simp [State.beginStart]
@[simp] theorem State.beginStart_notice (s : State) (p : Path) : (s.beginStart p).notice = s.notice := by simp [State.beginStart]
@[simp] theorem State.beginStart_store (s : State) (p : Path) : (s.beginStart p).store = s.store := by simp [State.beginStart]
@[simp] theorem State.beginStart_straps (s : State) (p : Path) : (s.beginStart p).straps = s.straps := by simp [State.beginStart]
@[simp] theorem State.beginStart_pending (s : State) (p : Path) : (s.beginStart p).pending = s.pending := by simp [State.beginStart]

@[simp] theorem State.abandonStart_holds (s : State) : (s.abandonStart).holds = s.holds := by simp [State.abandonStart]
@[simp] theorem State.abandonStart_map (s : State) : (s.abandonStart).map = s.map := by simp [State.abandonStart]
@[simp] theorem State.abandonStart_meas (s : State) : (s.abandonStart).meas = s.meas := by simp [State.abandonStart]
@[simp] theorem State.abandonStart_doors (s : State) : (s.abandonStart).doors = s.doors := by simp [State.abandonStart]
@[simp] theorem State.abandonStart_eval (s : State) : (s.abandonStart).eval = s.eval := by simp [State.abandonStart]
@[simp] theorem State.abandonStart_drive (s : State) : (s.abandonStart).drive = s.drive := by simp [State.abandonStart]
@[simp] theorem State.abandonStart_defrost (s : State) : (s.abandonStart).defrost = s.defrost := by simp [State.abandonStart]
@[simp] theorem State.abandonStart_air (s : State) : (s.abandonStart).air = s.air := by simp [State.abandonStart]
@[simp] theorem State.abandonStart_time (s : State) : (s.abandonStart).time = s.time := by simp [State.abandonStart]
@[simp] theorem State.abandonStart_link (s : State) : (s.abandonStart).link = s.link := by simp [State.abandonStart]
@[simp] theorem State.abandonStart_notice (s : State) : (s.abandonStart).notice = s.notice := by simp [State.abandonStart]
@[simp] theorem State.abandonStart_store (s : State) : (s.abandonStart).store = s.store := by simp [State.abandonStart]
@[simp] theorem State.abandonStart_straps (s : State) : (s.abandonStart).straps = s.straps := by simp [State.abandonStart]
@[simp] theorem State.abandonStart_pending (s : State) : (s.abandonStart).pending = s.pending := by simp [State.abandonStart]

@[simp] theorem State.completeStart_holds (s : State) (p : Path) : (s.completeStart p).holds = s.holds := by simp [State.completeStart]
@[simp] theorem State.completeStart_map (s : State) (p : Path) : (s.completeStart p).map = s.map := by simp [State.completeStart]
@[simp] theorem State.completeStart_meas (s : State) (p : Path) : (s.completeStart p).meas = s.meas := by simp [State.completeStart]
@[simp] theorem State.completeStart_doors (s : State) (p : Path) : (s.completeStart p).doors = s.doors := by simp [State.completeStart]
@[simp] theorem State.completeStart_eval (s : State) (p : Path) : (s.completeStart p).eval = s.eval := by simp [State.completeStart]
@[simp] theorem State.completeStart_drive (s : State) (p : Path) : (s.completeStart p).drive = s.drive := by simp [State.completeStart]
@[simp] theorem State.completeStart_defrost (s : State) (p : Path) : (s.completeStart p).defrost = s.defrost := by simp [State.completeStart]
@[simp] theorem State.completeStart_air (s : State) (p : Path) : (s.completeStart p).air = s.air := by simp [State.completeStart]
@[simp] theorem State.completeStart_link (s : State) (p : Path) : (s.completeStart p).link = s.link := by simp [State.completeStart]
@[simp] theorem State.completeStart_notice (s : State) (p : Path) : (s.completeStart p).notice = s.notice := by simp [State.completeStart]
@[simp] theorem State.completeStart_store (s : State) (p : Path) : (s.completeStart p).store = s.store := by simp [State.completeStart]
@[simp] theorem State.completeStart_straps (s : State) (p : Path) : (s.completeStart p).straps = s.straps := by simp [State.completeStart]
@[simp] theorem State.completeStart_pending (s : State) (p : Path) : (s.completeStart p).pending = s.pending := by simp [State.completeStart]

@[simp] theorem State.leave_holds (s : State) (p : Path) (q : Bool) : (s.leave p q).holds = s.holds := by cases p <;> cases q <;> simp [State.leave]
@[simp] theorem State.leave_map (s : State) (p : Path) (q : Bool) : (s.leave p q).map = s.map := by cases p <;> cases q <;> simp [State.leave]
@[simp] theorem State.leave_meas (s : State) (p : Path) (q : Bool) : (s.leave p q).meas = s.meas := by cases p <;> cases q <;> simp [State.leave]
@[simp] theorem State.leave_doors (s : State) (p : Path) (q : Bool) : (s.leave p q).doors = s.doors := by cases p <;> cases q <;> simp [State.leave]
@[simp] theorem State.leave_eval (s : State) (p : Path) (q : Bool) : (s.leave p q).eval = s.eval := by cases p <;> cases q <;> simp [State.leave]
@[simp] theorem State.leave_drive (s : State) (p : Path) (q : Bool) : (s.leave p q).drive = s.drive := by cases p <;> cases q <;> simp [State.leave]
@[simp] theorem State.leave_defrost (s : State) (p : Path) (q : Bool) : (s.leave p q).defrost = s.defrost := by cases p <;> cases q <;> simp [State.leave]
@[simp] theorem State.leave_air (s : State) (p : Path) (q : Bool) : (s.leave p q).air = s.air := by cases p <;> cases q <;> simp [State.leave]
@[simp] theorem State.leave_link (s : State) (p : Path) (q : Bool) : (s.leave p q).link = s.link := by cases p <;> cases q <;> simp [State.leave]
@[simp] theorem State.leave_notice (s : State) (p : Path) (q : Bool) : (s.leave p q).notice = s.notice := by cases p <;> cases q <;> simp [State.leave]
@[simp] theorem State.leave_store (s : State) (p : Path) (q : Bool) : (s.leave p q).store = s.store := by cases p <;> cases q <;> simp [State.leave]
@[simp] theorem State.leave_straps (s : State) (p : Path) (q : Bool) : (s.leave p q).straps = s.straps := by cases p <;> cases q <;> simp [State.leave]
@[simp] theorem State.leave_pending (s : State) (p : Path) (q : Bool) : (s.leave p q).pending = s.pending := by cases p <;> cases q <;> simp [State.leave]

/-! A review changes the arbiter and its timers, and hands events on (R60). -/

@[simp] theorem State.reviewRun_holds (s : State) (p : Path) : (s.reviewRun p).holds = s.holds := by unfold State.reviewRun; split <;> (try split) <;> simp
@[simp] theorem State.reviewRun_map (s : State) (p : Path) : (s.reviewRun p).map = s.map := by unfold State.reviewRun; split <;> (try split) <;> simp
@[simp] theorem State.reviewRun_meas (s : State) (p : Path) : (s.reviewRun p).meas = s.meas := by unfold State.reviewRun; split <;> (try split) <;> simp
@[simp] theorem State.reviewRun_doors (s : State) (p : Path) : (s.reviewRun p).doors = s.doors := by unfold State.reviewRun; split <;> (try split) <;> simp
@[simp] theorem State.reviewRun_eval (s : State) (p : Path) : (s.reviewRun p).eval = s.eval := by unfold State.reviewRun; split <;> (try split) <;> simp
@[simp] theorem State.reviewRun_drive (s : State) (p : Path) : (s.reviewRun p).drive = s.drive := by unfold State.reviewRun; split <;> (try split) <;> simp
@[simp] theorem State.reviewRun_defrost (s : State) (p : Path) : (s.reviewRun p).defrost = s.defrost := by unfold State.reviewRun; split <;> (try split) <;> simp
@[simp] theorem State.reviewRun_air (s : State) (p : Path) : (s.reviewRun p).air = s.air := by unfold State.reviewRun; split <;> (try split) <;> simp
@[simp] theorem State.reviewRun_link (s : State) (p : Path) : (s.reviewRun p).link = s.link := by unfold State.reviewRun; split <;> (try split) <;> simp
@[simp] theorem State.reviewRun_notice (s : State) (p : Path) : (s.reviewRun p).notice = s.notice := by unfold State.reviewRun; split <;> (try split) <;> simp
@[simp] theorem State.reviewRun_store (s : State) (p : Path) : (s.reviewRun p).store = s.store := by unfold State.reviewRun; split <;> (try split) <;> simp
@[simp] theorem State.reviewRun_straps (s : State) (p : Path) : (s.reviewRun p).straps = s.straps := by unfold State.reviewRun; split <;> (try split) <;> simp
@[simp] theorem State.reviewRun_pending (s : State) (p : Path) : (s.reviewRun p).pending = s.pending := by unfold State.reviewRun; split <;> (try split) <;> simp

@[simp] theorem State.startChoice_holds (s : State) : (s.startChoice).holds = s.holds := by unfold State.startChoice; split <;> (try split) <;> simp
@[simp] theorem State.startChoice_map (s : State) : (s.startChoice).map = s.map := by unfold State.startChoice; split <;> (try split) <;> simp
@[simp] theorem State.startChoice_meas (s : State) : (s.startChoice).meas = s.meas := by unfold State.startChoice; split <;> (try split) <;> simp
@[simp] theorem State.startChoice_doors (s : State) : (s.startChoice).doors = s.doors := by unfold State.startChoice; split <;> (try split) <;> simp
@[simp] theorem State.startChoice_eval (s : State) : (s.startChoice).eval = s.eval := by unfold State.startChoice; split <;> (try split) <;> simp
@[simp] theorem State.startChoice_drive (s : State) : (s.startChoice).drive = s.drive := by unfold State.startChoice; split <;> (try split) <;> simp
@[simp] theorem State.startChoice_defrost (s : State) : (s.startChoice).defrost = s.defrost := by unfold State.startChoice; split <;> (try split) <;> simp
@[simp] theorem State.startChoice_air (s : State) : (s.startChoice).air = s.air := by unfold State.startChoice; split <;> (try split) <;> simp
@[simp] theorem State.startChoice_time (s : State) : (s.startChoice).time = s.time := by unfold State.startChoice; split <;> (try split) <;> simp
@[simp] theorem State.startChoice_link (s : State) : (s.startChoice).link = s.link := by unfold State.startChoice; split <;> (try split) <;> simp
@[simp] theorem State.startChoice_notice (s : State) : (s.startChoice).notice = s.notice := by unfold State.startChoice; split <;> (try split) <;> simp
@[simp] theorem State.startChoice_store (s : State) : (s.startChoice).store = s.store := by unfold State.startChoice; split <;> (try split) <;> simp
@[simp] theorem State.startChoice_straps (s : State) : (s.startChoice).straps = s.straps := by unfold State.startChoice; split <;> (try split) <;> simp
@[simp] theorem State.startChoice_pending (s : State) : (s.startChoice).pending = s.pending := by unfold State.startChoice; split <;> (try split) <;> simp

@[simp] theorem State.startCheck_holds (s : State) (p : Path) : (s.startCheck p).holds = s.holds := by unfold State.startCheck; split <;> simp
@[simp] theorem State.startCheck_map (s : State) (p : Path) : (s.startCheck p).map = s.map := by unfold State.startCheck; split <;> simp
@[simp] theorem State.startCheck_meas (s : State) (p : Path) : (s.startCheck p).meas = s.meas := by unfold State.startCheck; split <;> simp
@[simp] theorem State.startCheck_doors (s : State) (p : Path) : (s.startCheck p).doors = s.doors := by unfold State.startCheck; split <;> simp
@[simp] theorem State.startCheck_eval (s : State) (p : Path) : (s.startCheck p).eval = s.eval := by unfold State.startCheck; split <;> simp
@[simp] theorem State.startCheck_drive (s : State) (p : Path) : (s.startCheck p).drive = s.drive := by unfold State.startCheck; split <;> simp
@[simp] theorem State.startCheck_defrost (s : State) (p : Path) : (s.startCheck p).defrost = s.defrost := by unfold State.startCheck; split <;> simp
@[simp] theorem State.startCheck_air (s : State) (p : Path) : (s.startCheck p).air = s.air := by unfold State.startCheck; split <;> simp
@[simp] theorem State.startCheck_time (s : State) (p : Path) : (s.startCheck p).time = s.time := by unfold State.startCheck; split <;> simp
@[simp] theorem State.startCheck_link (s : State) (p : Path) : (s.startCheck p).link = s.link := by unfold State.startCheck; split <;> simp
@[simp] theorem State.startCheck_notice (s : State) (p : Path) : (s.startCheck p).notice = s.notice := by unfold State.startCheck; split <;> simp
@[simp] theorem State.startCheck_store (s : State) (p : Path) : (s.startCheck p).store = s.store := by unfold State.startCheck; split <;> simp
@[simp] theorem State.startCheck_straps (s : State) (p : Path) : (s.startCheck p).straps = s.straps := by unfold State.startCheck; split <;> simp
@[simp] theorem State.startCheck_pending (s : State) (p : Path) : (s.startCheck p).pending = s.pending := by unfold State.startCheck; split <;> simp

@[simp] theorem State.review_holds (s : State) : (s.review).holds = s.holds := by unfold State.review; split <;> (try split) <;> simp
@[simp] theorem State.review_map (s : State) : (s.review).map = s.map := by unfold State.review; split <;> (try split) <;> simp
@[simp] theorem State.review_meas (s : State) : (s.review).meas = s.meas := by unfold State.review; split <;> (try split) <;> simp
@[simp] theorem State.review_doors (s : State) : (s.review).doors = s.doors := by unfold State.review; split <;> (try split) <;> simp
@[simp] theorem State.review_eval (s : State) : (s.review).eval = s.eval := by unfold State.review; split <;> (try split) <;> simp
@[simp] theorem State.review_drive (s : State) : (s.review).drive = s.drive := by unfold State.review; split <;> (try split) <;> simp
@[simp] theorem State.review_defrost (s : State) : (s.review).defrost = s.defrost := by unfold State.review; split <;> (try split) <;> simp
@[simp] theorem State.review_air (s : State) : (s.review).air = s.air := by unfold State.review; split <;> (try split) <;> simp
@[simp] theorem State.review_link (s : State) : (s.review).link = s.link := by unfold State.review; split <;> (try split) <;> simp
@[simp] theorem State.review_notice (s : State) : (s.review).notice = s.notice := by unfold State.review; split <;> (try split) <;> simp
@[simp] theorem State.review_store (s : State) : (s.review).store = s.store := by unfold State.review; split <;> (try split) <;> simp
@[simp] theorem State.review_straps (s : State) : (s.review).straps = s.straps := by unfold State.review; split <;> (try split) <;> simp
@[simp] theorem State.review_pending (s : State) : (s.review).pending = s.pending := by unfold State.review; split <;> (try split) <;> simp

@[simp] theorem State.pushPath_holds (s : State) : (s.pushPath).holds = s.holds := by simp [State.pushPath]
@[simp] theorem State.pushPath_map (s : State) : (s.pushPath).map = s.map := by simp [State.pushPath]
@[simp] theorem State.pushPath_meas (s : State) : (s.pushPath).meas = s.meas := by simp [State.pushPath]
@[simp] theorem State.pushPath_doors (s : State) : (s.pushPath).doors = s.doors := by simp [State.pushPath]
@[simp] theorem State.pushPath_eval (s : State) : (s.pushPath).eval = s.eval := by simp [State.pushPath]
@[simp] theorem State.pushPath_drive (s : State) : (s.pushPath).drive = s.drive := by simp [State.pushPath]
@[simp] theorem State.pushPath_defrost (s : State) : (s.pushPath).defrost = s.defrost := by simp [State.pushPath]
@[simp] theorem State.pushPath_air (s : State) : (s.pushPath).air = s.air := by simp [State.pushPath]
@[simp] theorem State.pushPath_time (s : State) : (s.pushPath).time = s.time := by simp [State.pushPath]
@[simp] theorem State.pushPath_link (s : State) : (s.pushPath).link = s.link := by simp [State.pushPath]
@[simp] theorem State.pushPath_notice (s : State) : (s.pushPath).notice = s.notice := by simp [State.pushPath]
@[simp] theorem State.pushPath_store (s : State) : (s.pushPath).store = s.store := by simp [State.pushPath]
@[simp] theorem State.pushPath_straps (s : State) : (s.pushPath).straps = s.straps := by simp [State.pushPath]
@[simp] theorem State.pushPath_events (s : State) : (s.pushPath).events = s.events := by simp [State.pushPath]
@[simp] theorem State.pushPath_pending (s : State) : (s.pushPath).pending = s.pending := by simp [State.pushPath]

@[simp] theorem State.haltRun_holds (s : State) (c : HaltCause) : (s.haltRun c).holds = s.holds := by simp [State.haltRun]
@[simp] theorem State.haltRun_map (s : State) (c : HaltCause) : (s.haltRun c).map = s.map := by simp [State.haltRun]
@[simp] theorem State.haltRun_meas (s : State) (c : HaltCause) : (s.haltRun c).meas = s.meas := by simp [State.haltRun]
@[simp] theorem State.haltRun_doors (s : State) (c : HaltCause) : (s.haltRun c).doors = s.doors := by simp [State.haltRun]
@[simp] theorem State.haltRun_eval (s : State) (c : HaltCause) : (s.haltRun c).eval = s.eval := by simp [State.haltRun]
@[simp] theorem State.haltRun_drive (s : State) (c : HaltCause) : (s.haltRun c).drive = s.drive := by simp [State.haltRun]
@[simp] theorem State.haltRun_defrost (s : State) (c : HaltCause) : (s.haltRun c).defrost = s.defrost := by simp [State.haltRun]
@[simp] theorem State.haltRun_air (s : State) (c : HaltCause) : (s.haltRun c).air = s.air := by simp [State.haltRun]
@[simp] theorem State.haltRun_link (s : State) (c : HaltCause) : (s.haltRun c).link = s.link := by simp [State.haltRun]
@[simp] theorem State.haltRun_notice (s : State) (c : HaltCause) : (s.haltRun c).notice = s.notice := by simp [State.haltRun]
@[simp] theorem State.haltRun_store (s : State) (c : HaltCause) : (s.haltRun c).store = s.store := by simp [State.haltRun]
@[simp] theorem State.haltRun_straps (s : State) (c : HaltCause) : (s.haltRun c).straps = s.straps := by simp [State.haltRun]
@[simp] theorem State.haltRun_pending (s : State) (c : HaltCause) : (s.haltRun c).pending = s.pending := by simp [State.haltRun]

@[simp] theorem State.lockOut_holds (s : State) : (s.lockOut).holds = s.holds := by simp [State.lockOut]
@[simp] theorem State.lockOut_map (s : State) : (s.lockOut).map = s.map := by simp [State.lockOut]
@[simp] theorem State.lockOut_meas (s : State) : (s.lockOut).meas = s.meas := by simp [State.lockOut]
@[simp] theorem State.lockOut_doors (s : State) : (s.lockOut).doors = s.doors := by simp [State.lockOut]
@[simp] theorem State.lockOut_eval (s : State) : (s.lockOut).eval = s.eval := by simp [State.lockOut]
@[simp] theorem State.lockOut_drive (s : State) : (s.lockOut).drive = s.drive := by simp [State.lockOut]
@[simp] theorem State.lockOut_defrost (s : State) : (s.lockOut).defrost = s.defrost := by simp [State.lockOut]
@[simp] theorem State.lockOut_air (s : State) : (s.lockOut).air = s.air := by simp [State.lockOut]
@[simp] theorem State.lockOut_link (s : State) : (s.lockOut).link = s.link := by simp [State.lockOut]
@[simp] theorem State.lockOut_notice (s : State) : (s.lockOut).notice = s.notice := by simp [State.lockOut]
@[simp] theorem State.lockOut_store (s : State) : (s.lockOut).store = s.store := by simp [State.lockOut]
@[simp] theorem State.lockOut_straps (s : State) : (s.lockOut).straps = s.straps := by simp [State.lockOut]
@[simp] theorem State.lockOut_pending (s : State) : (s.lockOut).pending = s.pending := by simp [State.lockOut]

@[simp] theorem State.takeFault_holds (s : State) : (s.takeFault).holds = s.holds := by unfold State.takeFault; dsimp only; split <;> (try split) <;> simp
@[simp] theorem State.takeFault_map (s : State) : (s.takeFault).map = s.map := by unfold State.takeFault; dsimp only; split <;> (try split) <;> simp
@[simp] theorem State.takeFault_meas (s : State) : (s.takeFault).meas = s.meas := by unfold State.takeFault; dsimp only; split <;> (try split) <;> simp
@[simp] theorem State.takeFault_doors (s : State) : (s.takeFault).doors = s.doors := by unfold State.takeFault; dsimp only; split <;> (try split) <;> simp
@[simp] theorem State.takeFault_eval (s : State) : (s.takeFault).eval = s.eval := by unfold State.takeFault; dsimp only; split <;> (try split) <;> simp
@[simp] theorem State.takeFault_drive (s : State) : (s.takeFault).drive = s.drive := by unfold State.takeFault; dsimp only; split <;> (try split) <;> simp
@[simp] theorem State.takeFault_defrost (s : State) : (s.takeFault).defrost = s.defrost := by unfold State.takeFault; dsimp only; split <;> (try split) <;> simp
@[simp] theorem State.takeFault_air (s : State) : (s.takeFault).air = s.air := by unfold State.takeFault; dsimp only; split <;> (try split) <;> simp
@[simp] theorem State.takeFault_link (s : State) : (s.takeFault).link = s.link := by unfold State.takeFault; dsimp only; split <;> (try split) <;> simp
@[simp] theorem State.takeFault_notice (s : State) : (s.takeFault).notice = s.notice := by unfold State.takeFault; dsimp only; split <;> (try split) <;> simp
@[simp] theorem State.takeFault_store (s : State) : (s.takeFault).store = s.store := by unfold State.takeFault; dsimp only; split <;> (try split) <;> simp
@[simp] theorem State.takeFault_straps (s : State) : (s.takeFault).straps = s.straps := by unfold State.takeFault; dsimp only; split <;> (try split) <;> simp
@[simp] theorem State.takeFault_pending (s : State) : (s.takeFault).pending = s.pending := by unfold State.takeFault; dsimp only; split <;> (try split) <;> simp

@[simp] theorem State.takeSag_holds (s : State) : (s.takeSag).holds = s.holds := by unfold State.takeSag; dsimp only; split <;> simp
@[simp] theorem State.takeSag_map (s : State) : (s.takeSag).map = s.map := by unfold State.takeSag; dsimp only; split <;> simp
@[simp] theorem State.takeSag_meas (s : State) : (s.takeSag).meas = s.meas := by unfold State.takeSag; dsimp only; split <;> simp
@[simp] theorem State.takeSag_doors (s : State) : (s.takeSag).doors = s.doors := by unfold State.takeSag; dsimp only; split <;> simp
@[simp] theorem State.takeSag_eval (s : State) : (s.takeSag).eval = s.eval := by unfold State.takeSag; dsimp only; split <;> simp
@[simp] theorem State.takeSag_drive (s : State) : (s.takeSag).drive = s.drive := by unfold State.takeSag; dsimp only; split <;> simp
@[simp] theorem State.takeSag_defrost (s : State) : (s.takeSag).defrost = s.defrost := by unfold State.takeSag; dsimp only; split <;> simp
@[simp] theorem State.takeSag_air (s : State) : (s.takeSag).air = s.air := by unfold State.takeSag; dsimp only; split <;> simp
@[simp] theorem State.takeSag_link (s : State) : (s.takeSag).link = s.link := by unfold State.takeSag; dsimp only; split <;> simp
@[simp] theorem State.takeSag_notice (s : State) : (s.takeSag).notice = s.notice := by unfold State.takeSag; dsimp only; split <;> simp
@[simp] theorem State.takeSag_store (s : State) : (s.takeSag).store = s.store := by unfold State.takeSag; dsimp only; split <;> simp
@[simp] theorem State.takeSag_straps (s : State) : (s.takeSag).straps = s.straps := by unfold State.takeSag; dsimp only; split <;> simp
@[simp] theorem State.takeSag_pending (s : State) : (s.takeSag).pending = s.pending := by unfold State.takeSag; dsimp only; split <;> simp

@[simp] theorem State.restore_holds (s : State) : (s.restore).holds = s.holds := by simp [State.restore]
@[simp] theorem State.restore_map (s : State) : (s.restore).map = s.map := by simp [State.restore]
@[simp] theorem State.restore_meas (s : State) : (s.restore).meas = s.meas := by simp [State.restore]
@[simp] theorem State.restore_doors (s : State) : (s.restore).doors = s.doors := by simp [State.restore]
@[simp] theorem State.restore_eval (s : State) : (s.restore).eval = s.eval := by simp [State.restore]
@[simp] theorem State.restore_drive (s : State) : (s.restore).drive = s.drive := by simp [State.restore]
@[simp] theorem State.restore_defrost (s : State) : (s.restore).defrost = s.defrost := by simp [State.restore]
@[simp] theorem State.restore_air (s : State) : (s.restore).air = s.air := by simp [State.restore]
@[simp] theorem State.restore_link (s : State) : (s.restore).link = s.link := by simp [State.restore]
@[simp] theorem State.restore_notice (s : State) : (s.restore).notice = s.notice := by simp [State.restore]
@[simp] theorem State.restore_store (s : State) : (s.restore).store = s.store := by simp [State.restore]
@[simp] theorem State.restore_straps (s : State) : (s.restore).straps = s.straps := by simp [State.restore]
@[simp] theorem State.restore_pending (s : State) : (s.restore).pending = s.pending := by simp [State.restore]

/-! ### Defrost -/

@[simp] theorem State.handDefrost_holds (s : State) : (s.handDefrost).holds = s.holds := by simp [State.handDefrost]
@[simp] theorem State.handDefrost_map (s : State) : (s.handDefrost).map = s.map := by simp [State.handDefrost]
@[simp] theorem State.handDefrost_meas (s : State) : (s.handDefrost).meas = s.meas := by simp [State.handDefrost]
@[simp] theorem State.handDefrost_doors (s : State) : (s.handDefrost).doors = s.doors := by simp [State.handDefrost]
@[simp] theorem State.handDefrost_eval (s : State) : (s.handDefrost).eval = s.eval := by simp [State.handDefrost]
@[simp] theorem State.handDefrost_arb (s : State) : (s.handDefrost).arb = s.arb := by simp [State.handDefrost]
@[simp] theorem State.handDefrost_drive (s : State) : (s.handDefrost).drive = s.drive := by simp [State.handDefrost]
@[simp] theorem State.handDefrost_defrost (s : State) : (s.handDefrost).defrost = s.defrost := by simp [State.handDefrost]
@[simp] theorem State.handDefrost_air (s : State) : (s.handDefrost).air = s.air := by simp [State.handDefrost]
@[simp] theorem State.handDefrost_time (s : State) : (s.handDefrost).time = s.time := by simp [State.handDefrost]
@[simp] theorem State.handDefrost_link (s : State) : (s.handDefrost).link = s.link := by simp [State.handDefrost]
@[simp] theorem State.handDefrost_notice (s : State) : (s.handDefrost).notice = s.notice := by simp [State.handDefrost]
@[simp] theorem State.handDefrost_store (s : State) : (s.handDefrost).store = s.store := by simp [State.handDefrost]
@[simp] theorem State.handDefrost_straps (s : State) : (s.handDefrost).straps = s.straps := by simp [State.handDefrost]
@[simp] theorem State.handDefrost_pending (s : State) : (s.handDefrost).pending = s.pending := by simp [State.handDefrost]

@[simp] theorem State.setPhase_holds (s : State) (p : Phase) : (s.setPhase p).holds = s.holds := by simp [State.setPhase]
@[simp] theorem State.setPhase_map (s : State) (p : Phase) : (s.setPhase p).map = s.map := by simp [State.setPhase]
@[simp] theorem State.setPhase_meas (s : State) (p : Phase) : (s.setPhase p).meas = s.meas := by simp [State.setPhase]
@[simp] theorem State.setPhase_doors (s : State) (p : Phase) : (s.setPhase p).doors = s.doors := by simp [State.setPhase]
@[simp] theorem State.setPhase_eval (s : State) (p : Phase) : (s.setPhase p).eval = s.eval := by simp [State.setPhase]
@[simp] theorem State.setPhase_arb (s : State) (p : Phase) : (s.setPhase p).arb = s.arb := by simp [State.setPhase]
@[simp] theorem State.setPhase_drive (s : State) (p : Phase) : (s.setPhase p).drive = s.drive := by simp [State.setPhase]
@[simp] theorem State.setPhase_air (s : State) (p : Phase) : (s.setPhase p).air = s.air := by simp [State.setPhase]
@[simp] theorem State.setPhase_time (s : State) (p : Phase) : (s.setPhase p).time = s.time := by simp [State.setPhase]
@[simp] theorem State.setPhase_link (s : State) (p : Phase) : (s.setPhase p).link = s.link := by simp [State.setPhase]
@[simp] theorem State.setPhase_notice (s : State) (p : Phase) : (s.setPhase p).notice = s.notice := by simp [State.setPhase]
@[simp] theorem State.setPhase_store (s : State) (p : Phase) : (s.setPhase p).store = s.store := by simp [State.setPhase]
@[simp] theorem State.setPhase_straps (s : State) (p : Phase) : (s.setPhase p).straps = s.straps := by simp [State.setPhase]
@[simp] theorem State.setPhase_pending (s : State) (p : Phase) : (s.setPhase p).pending = s.pending := by simp [State.setPhase]

@[simp] theorem State.enterPrechill_holds (s : State) : (s.enterPrechill).holds = s.holds := by simp [State.enterPrechill]
@[simp] theorem State.enterPrechill_map (s : State) : (s.enterPrechill).map = s.map := by simp [State.enterPrechill]
@[simp] theorem State.enterPrechill_meas (s : State) : (s.enterPrechill).meas = s.meas := by simp [State.enterPrechill]
@[simp] theorem State.enterPrechill_doors (s : State) : (s.enterPrechill).doors = s.doors := by simp [State.enterPrechill]
@[simp] theorem State.enterPrechill_eval (s : State) : (s.enterPrechill).eval = s.eval := by simp [State.enterPrechill]
@[simp] theorem State.enterPrechill_arb (s : State) : (s.enterPrechill).arb = s.arb := by simp [State.enterPrechill]
@[simp] theorem State.enterPrechill_drive (s : State) : (s.enterPrechill).drive = s.drive := by simp [State.enterPrechill]
@[simp] theorem State.enterPrechill_air (s : State) : (s.enterPrechill).air = s.air := by simp [State.enterPrechill]
@[simp] theorem State.enterPrechill_link (s : State) : (s.enterPrechill).link = s.link := by simp [State.enterPrechill]
@[simp] theorem State.enterPrechill_notice (s : State) : (s.enterPrechill).notice = s.notice := by simp [State.enterPrechill]
@[simp] theorem State.enterPrechill_store (s : State) : (s.enterPrechill).store = s.store := by simp [State.enterPrechill]
@[simp] theorem State.enterPrechill_straps (s : State) : (s.enterPrechill).straps = s.straps := by simp [State.enterPrechill]
@[simp] theorem State.enterPrechill_pending (s : State) : (s.enterPrechill).pending = s.pending := by simp [State.enterPrechill]

@[simp] theorem State.enterPending_holds (s : State) : (s.enterPending).holds = s.holds := by unfold State.enterPending; dsimp only; split <;> simp
@[simp] theorem State.enterPending_map (s : State) : (s.enterPending).map = s.map := by unfold State.enterPending; dsimp only; split <;> simp
@[simp] theorem State.enterPending_meas (s : State) : (s.enterPending).meas = s.meas := by unfold State.enterPending; dsimp only; split <;> simp
@[simp] theorem State.enterPending_doors (s : State) : (s.enterPending).doors = s.doors := by unfold State.enterPending; dsimp only; split <;> simp
@[simp] theorem State.enterPending_eval (s : State) : (s.enterPending).eval = s.eval := by unfold State.enterPending; dsimp only; split <;> simp
@[simp] theorem State.enterPending_arb (s : State) : (s.enterPending).arb = s.arb := by unfold State.enterPending; dsimp only; split <;> simp
@[simp] theorem State.enterPending_drive (s : State) : (s.enterPending).drive = s.drive := by unfold State.enterPending; dsimp only; split <;> simp
@[simp] theorem State.enterPending_air (s : State) : (s.enterPending).air = s.air := by unfold State.enterPending; dsimp only; split <;> simp
@[simp] theorem State.enterPending_link (s : State) : (s.enterPending).link = s.link := by unfold State.enterPending; dsimp only; split <;> simp
@[simp] theorem State.enterPending_notice (s : State) : (s.enterPending).notice = s.notice := by unfold State.enterPending; dsimp only; split <;> simp
@[simp] theorem State.enterPending_store (s : State) : (s.enterPending).store = s.store := by unfold State.enterPending; dsimp only; split <;> simp
@[simp] theorem State.enterPending_straps (s : State) : (s.enterPending).straps = s.straps := by unfold State.enterPending; dsimp only; split <;> simp
@[simp] theorem State.enterPending_pending (s : State) : (s.enterPending).pending = s.pending := by unfold State.enterPending; dsimp only; split <;> simp

@[simp] theorem State.compareInterval_holds (s : State) : (s.compareInterval).holds = s.holds := by unfold State.compareInterval; split <;> simp
@[simp] theorem State.compareInterval_map (s : State) : (s.compareInterval).map = s.map := by unfold State.compareInterval; split <;> simp
@[simp] theorem State.compareInterval_meas (s : State) : (s.compareInterval).meas = s.meas := by unfold State.compareInterval; split <;> simp
@[simp] theorem State.compareInterval_doors (s : State) : (s.compareInterval).doors = s.doors := by unfold State.compareInterval; split <;> simp
@[simp] theorem State.compareInterval_eval (s : State) : (s.compareInterval).eval = s.eval := by unfold State.compareInterval; split <;> simp
@[simp] theorem State.compareInterval_arb (s : State) : (s.compareInterval).arb = s.arb := by unfold State.compareInterval; split <;> simp
@[simp] theorem State.compareInterval_drive (s : State) : (s.compareInterval).drive = s.drive := by unfold State.compareInterval; split <;> simp
@[simp] theorem State.compareInterval_air (s : State) : (s.compareInterval).air = s.air := by unfold State.compareInterval; split <;> simp
@[simp] theorem State.compareInterval_link (s : State) : (s.compareInterval).link = s.link := by unfold State.compareInterval; split <;> simp
@[simp] theorem State.compareInterval_notice (s : State) : (s.compareInterval).notice = s.notice := by unfold State.compareInterval; split <;> simp
@[simp] theorem State.compareInterval_store (s : State) : (s.compareInterval).store = s.store := by unfold State.compareInterval; split <;> simp
@[simp] theorem State.compareInterval_straps (s : State) : (s.compareInterval).straps = s.straps := by unfold State.compareInterval; split <;> simp
@[simp] theorem State.compareInterval_pending (s : State) : (s.compareInterval).pending = s.pending := by unfold State.compareInterval; split <;> simp

@[simp] theorem State.enterIdle_holds (s : State) : (s.enterIdle).holds = s.holds := by simp [State.enterIdle]
@[simp] theorem State.enterIdle_map (s : State) : (s.enterIdle).map = s.map := by simp [State.enterIdle]
@[simp] theorem State.enterIdle_meas (s : State) : (s.enterIdle).meas = s.meas := by simp [State.enterIdle]
@[simp] theorem State.enterIdle_doors (s : State) : (s.enterIdle).doors = s.doors := by simp [State.enterIdle]
@[simp] theorem State.enterIdle_eval (s : State) : (s.enterIdle).eval = s.eval := by simp [State.enterIdle]
@[simp] theorem State.enterIdle_arb (s : State) : (s.enterIdle).arb = s.arb := by simp [State.enterIdle]
@[simp] theorem State.enterIdle_drive (s : State) : (s.enterIdle).drive = s.drive := by simp [State.enterIdle]
@[simp] theorem State.enterIdle_air (s : State) : (s.enterIdle).air = s.air := by simp [State.enterIdle]
@[simp] theorem State.enterIdle_link (s : State) : (s.enterIdle).link = s.link := by simp [State.enterIdle]
@[simp] theorem State.enterIdle_notice (s : State) : (s.enterIdle).notice = s.notice := by simp [State.enterIdle]
@[simp] theorem State.enterIdle_store (s : State) : (s.enterIdle).store = s.store := by simp [State.enterIdle]
@[simp] theorem State.enterIdle_straps (s : State) : (s.enterIdle).straps = s.straps := by simp [State.enterIdle]
@[simp] theorem State.enterIdle_pending (s : State) : (s.enterIdle).pending = s.pending := by simp [State.enterIdle]

@[simp] theorem State.enterHeat_holds (s : State) : (s.enterHeat).holds = s.holds := by simp [State.enterHeat]
@[simp] theorem State.enterHeat_map (s : State) : (s.enterHeat).map = s.map := by simp [State.enterHeat]
@[simp] theorem State.enterHeat_meas (s : State) : (s.enterHeat).meas = s.meas := by simp [State.enterHeat]
@[simp] theorem State.enterHeat_doors (s : State) : (s.enterHeat).doors = s.doors := by simp [State.enterHeat]
@[simp] theorem State.enterHeat_eval (s : State) : (s.enterHeat).eval = s.eval := by simp [State.enterHeat]
@[simp] theorem State.enterHeat_arb (s : State) : (s.enterHeat).arb = s.arb := by simp [State.enterHeat]
@[simp] theorem State.enterHeat_drive (s : State) : (s.enterHeat).drive = s.drive := by simp [State.enterHeat]
@[simp] theorem State.enterHeat_air (s : State) : (s.enterHeat).air = s.air := by simp [State.enterHeat]
@[simp] theorem State.enterHeat_link (s : State) : (s.enterHeat).link = s.link := by simp [State.enterHeat]
@[simp] theorem State.enterHeat_notice (s : State) : (s.enterHeat).notice = s.notice := by simp [State.enterHeat]
@[simp] theorem State.enterHeat_store (s : State) : (s.enterHeat).store = s.store := by simp [State.enterHeat]
@[simp] theorem State.enterHeat_straps (s : State) : (s.enterHeat).straps = s.straps := by simp [State.enterHeat]
@[simp] theorem State.enterHeat_pending (s : State) : (s.enterHeat).pending = s.pending := by simp [State.enterHeat]

@[simp] theorem State.withdrawArrivals_holds (s : State) : (s.withdrawArrivals).holds = s.holds := by simp [State.withdrawArrivals]
@[simp] theorem State.withdrawArrivals_map (s : State) : (s.withdrawArrivals).map = s.map := by simp [State.withdrawArrivals]
@[simp] theorem State.withdrawArrivals_meas (s : State) : (s.withdrawArrivals).meas = s.meas := by simp [State.withdrawArrivals]
@[simp] theorem State.withdrawArrivals_doors (s : State) : (s.withdrawArrivals).doors = s.doors := by simp [State.withdrawArrivals]
@[simp] theorem State.withdrawArrivals_eval (s : State) : (s.withdrawArrivals).eval = s.eval := by simp [State.withdrawArrivals]
@[simp] theorem State.withdrawArrivals_arb (s : State) : (s.withdrawArrivals).arb = s.arb := by simp [State.withdrawArrivals]
@[simp] theorem State.withdrawArrivals_drive (s : State) : (s.withdrawArrivals).drive = s.drive := by simp [State.withdrawArrivals]
@[simp] theorem State.withdrawArrivals_defrost (s : State) : (s.withdrawArrivals).defrost = s.defrost := by simp [State.withdrawArrivals]
@[simp] theorem State.withdrawArrivals_air (s : State) : (s.withdrawArrivals).air = s.air := by simp [State.withdrawArrivals]
@[simp] theorem State.withdrawArrivals_time (s : State) : (s.withdrawArrivals).time = s.time := by simp [State.withdrawArrivals]
@[simp] theorem State.withdrawArrivals_link (s : State) : (s.withdrawArrivals).link = s.link := by simp [State.withdrawArrivals]
@[simp] theorem State.withdrawArrivals_notice (s : State) : (s.withdrawArrivals).notice = s.notice := by simp [State.withdrawArrivals]
@[simp] theorem State.withdrawArrivals_store (s : State) : (s.withdrawArrivals).store = s.store := by simp [State.withdrawArrivals]
@[simp] theorem State.withdrawArrivals_straps (s : State) : (s.withdrawArrivals).straps = s.straps := by simp [State.withdrawArrivals]
@[simp] theorem State.withdrawArrivals_pending (s : State) : (s.withdrawArrivals).pending = s.pending := by simp [State.withdrawArrivals]

@[simp] theorem State.enterRelease_holds (s : State) : (s.enterRelease).holds = s.holds := by unfold State.enterRelease; dsimp only; split <;> simp
@[simp] theorem State.enterRelease_map (s : State) : (s.enterRelease).map = s.map := by unfold State.enterRelease; dsimp only; split <;> simp
@[simp] theorem State.enterRelease_meas (s : State) : (s.enterRelease).meas = s.meas := by unfold State.enterRelease; dsimp only; split <;> simp
@[simp] theorem State.enterRelease_doors (s : State) : (s.enterRelease).doors = s.doors := by unfold State.enterRelease; dsimp only; split <;> simp
@[simp] theorem State.enterRelease_eval (s : State) : (s.enterRelease).eval = s.eval := by unfold State.enterRelease; dsimp only; split <;> simp
@[simp] theorem State.enterRelease_arb (s : State) : (s.enterRelease).arb = s.arb := by unfold State.enterRelease; dsimp only; split <;> simp
@[simp] theorem State.enterRelease_drive (s : State) : (s.enterRelease).drive = s.drive := by unfold State.enterRelease; dsimp only; split <;> simp
@[simp] theorem State.enterRelease_air (s : State) : (s.enterRelease).air = s.air := by unfold State.enterRelease; dsimp only; split <;> simp
@[simp] theorem State.enterRelease_link (s : State) : (s.enterRelease).link = s.link := by unfold State.enterRelease; dsimp only; split <;> simp
@[simp] theorem State.enterRelease_notice (s : State) : (s.enterRelease).notice = s.notice := by unfold State.enterRelease; dsimp only; split <;> simp
@[simp] theorem State.enterRelease_store (s : State) : (s.enterRelease).store = s.store := by unfold State.enterRelease; dsimp only; split <;> simp
@[simp] theorem State.enterRelease_straps (s : State) : (s.enterRelease).straps = s.straps := by unfold State.enterRelease; dsimp only; split <;> simp
@[simp] theorem State.enterRelease_pending (s : State) : (s.enterRelease).pending = s.pending := by unfold State.enterRelease; dsimp only; split <;> simp

@[simp] theorem State.enterDrip_holds (s : State) : (s.enterDrip).holds = s.holds := by simp [State.enterDrip]
@[simp] theorem State.enterDrip_map (s : State) : (s.enterDrip).map = s.map := by simp [State.enterDrip]
@[simp] theorem State.enterDrip_meas (s : State) : (s.enterDrip).meas = s.meas := by simp [State.enterDrip]
@[simp] theorem State.enterDrip_doors (s : State) : (s.enterDrip).doors = s.doors := by simp [State.enterDrip]
@[simp] theorem State.enterDrip_eval (s : State) : (s.enterDrip).eval = s.eval := by simp [State.enterDrip]
@[simp] theorem State.enterDrip_arb (s : State) : (s.enterDrip).arb = s.arb := by simp [State.enterDrip]
@[simp] theorem State.enterDrip_drive (s : State) : (s.enterDrip).drive = s.drive := by simp [State.enterDrip]
@[simp] theorem State.enterDrip_air (s : State) : (s.enterDrip).air = s.air := by simp [State.enterDrip]
@[simp] theorem State.enterDrip_link (s : State) : (s.enterDrip).link = s.link := by simp [State.enterDrip]
@[simp] theorem State.enterDrip_notice (s : State) : (s.enterDrip).notice = s.notice := by simp [State.enterDrip]
@[simp] theorem State.enterDrip_store (s : State) : (s.enterDrip).store = s.store := by simp [State.enterDrip]
@[simp] theorem State.enterDrip_straps (s : State) : (s.enterDrip).straps = s.straps := by simp [State.enterDrip]
@[simp] theorem State.enterDrip_pending (s : State) : (s.enterDrip).pending = s.pending := by simp [State.enterDrip]

@[simp] theorem State.enterRecover_holds (s : State) : (s.enterRecover).holds = s.holds := by simp [State.enterRecover]
@[simp] theorem State.enterRecover_map (s : State) : (s.enterRecover).map = s.map := by simp [State.enterRecover]
@[simp] theorem State.enterRecover_meas (s : State) : (s.enterRecover).meas = s.meas := by simp [State.enterRecover]
@[simp] theorem State.enterRecover_doors (s : State) : (s.enterRecover).doors = s.doors := by simp [State.enterRecover]
@[simp] theorem State.enterRecover_eval (s : State) : (s.enterRecover).eval = s.eval := by simp [State.enterRecover]
@[simp] theorem State.enterRecover_arb (s : State) : (s.enterRecover).arb = s.arb := by simp [State.enterRecover]
@[simp] theorem State.enterRecover_drive (s : State) : (s.enterRecover).drive = s.drive := by simp [State.enterRecover]
@[simp] theorem State.enterRecover_air (s : State) : (s.enterRecover).air = s.air := by simp [State.enterRecover]
@[simp] theorem State.enterRecover_link (s : State) : (s.enterRecover).link = s.link := by simp [State.enterRecover]
@[simp] theorem State.enterRecover_notice (s : State) : (s.enterRecover).notice = s.notice := by simp [State.enterRecover]
@[simp] theorem State.enterRecover_store (s : State) : (s.enterRecover).store = s.store := by simp [State.enterRecover]
@[simp] theorem State.enterRecover_straps (s : State) : (s.enterRecover).straps = s.straps := by simp [State.enterRecover]
@[simp] theorem State.enterRecover_pending (s : State) : (s.enterRecover).pending = s.pending := by simp [State.enterRecover]

@[simp] theorem State.endRecover_holds (s : State) : (s.endRecover).holds = s.holds := by simp [State.endRecover]
@[simp] theorem State.endRecover_map (s : State) : (s.endRecover).map = s.map := by simp [State.endRecover]
@[simp] theorem State.endRecover_meas (s : State) : (s.endRecover).meas = s.meas := by simp [State.endRecover]
@[simp] theorem State.endRecover_doors (s : State) : (s.endRecover).doors = s.doors := by simp [State.endRecover]
@[simp] theorem State.endRecover_eval (s : State) : (s.endRecover).eval = s.eval := by simp [State.endRecover]
@[simp] theorem State.endRecover_arb (s : State) : (s.endRecover).arb = s.arb := by simp [State.endRecover]
@[simp] theorem State.endRecover_drive (s : State) : (s.endRecover).drive = s.drive := by simp [State.endRecover]
@[simp] theorem State.endRecover_air (s : State) : (s.endRecover).air = s.air := by simp [State.endRecover]
@[simp] theorem State.endRecover_link (s : State) : (s.endRecover).link = s.link := by simp [State.endRecover]
@[simp] theorem State.endRecover_notice (s : State) : (s.endRecover).notice = s.notice := by simp [State.endRecover]
@[simp] theorem State.endRecover_store (s : State) : (s.endRecover).store = s.store := by simp [State.endRecover]
@[simp] theorem State.endRecover_straps (s : State) : (s.endRecover).straps = s.straps := by simp [State.endRecover]
@[simp] theorem State.endRecover_pending (s : State) : (s.endRecover).pending = s.pending := by simp [State.endRecover]

@[simp] theorem State.endHeat_holds (s : State) (how : HeatEnd) : (s.endHeat how).holds = s.holds := by simp [State.endHeat]
@[simp] theorem State.endHeat_map (s : State) (how : HeatEnd) : (s.endHeat how).map = s.map := by simp [State.endHeat]
@[simp] theorem State.endHeat_meas (s : State) (how : HeatEnd) : (s.endHeat how).meas = s.meas := by simp [State.endHeat]
@[simp] theorem State.endHeat_doors (s : State) (how : HeatEnd) : (s.endHeat how).doors = s.doors := by simp [State.endHeat]
@[simp] theorem State.endHeat_eval (s : State) (how : HeatEnd) : (s.endHeat how).eval = s.eval := by simp [State.endHeat]
@[simp] theorem State.endHeat_arb (s : State) (how : HeatEnd) : (s.endHeat how).arb = s.arb := by simp [State.endHeat]
@[simp] theorem State.endHeat_drive (s : State) (how : HeatEnd) : (s.endHeat how).drive = s.drive := by simp [State.endHeat]
@[simp] theorem State.endHeat_air (s : State) (how : HeatEnd) : (s.endHeat how).air = s.air := by simp [State.endHeat]
@[simp] theorem State.endHeat_link (s : State) (how : HeatEnd) : (s.endHeat how).link = s.link := by simp [State.endHeat]
@[simp] theorem State.endHeat_notice (s : State) (how : HeatEnd) : (s.endHeat how).notice = s.notice := by simp [State.endHeat]
@[simp] theorem State.endHeat_store (s : State) (how : HeatEnd) : (s.endHeat how).store = s.store := by simp [State.endHeat]
@[simp] theorem State.endHeat_straps (s : State) (how : HeatEnd) : (s.endHeat how).straps = s.straps := by simp [State.endHeat]
@[simp] theorem State.endHeat_pending (s : State) (how : HeatEnd) : (s.endHeat how).pending = s.pending := by simp [State.endHeat]

@[simp] theorem State.startRecovery_holds (s : State) : (s.startRecovery).holds = s.holds := by simp [State.startRecovery]
@[simp] theorem State.startRecovery_map (s : State) : (s.startRecovery).map = s.map := by simp [State.startRecovery]
@[simp] theorem State.startRecovery_meas (s : State) : (s.startRecovery).meas = s.meas := by simp [State.startRecovery]
@[simp] theorem State.startRecovery_doors (s : State) : (s.startRecovery).doors = s.doors := by simp [State.startRecovery]
@[simp] theorem State.startRecovery_eval (s : State) : (s.startRecovery).eval = s.eval := by simp [State.startRecovery]
@[simp] theorem State.startRecovery_arb (s : State) : (s.startRecovery).arb = s.arb := by simp [State.startRecovery]
@[simp] theorem State.startRecovery_drive (s : State) : (s.startRecovery).drive = s.drive := by simp [State.startRecovery]
@[simp] theorem State.startRecovery_air (s : State) : (s.startRecovery).air = s.air := by simp [State.startRecovery]
@[simp] theorem State.startRecovery_link (s : State) : (s.startRecovery).link = s.link := by simp [State.startRecovery]
@[simp] theorem State.startRecovery_notice (s : State) : (s.startRecovery).notice = s.notice := by simp [State.startRecovery]
@[simp] theorem State.startRecovery_store (s : State) : (s.startRecovery).store = s.store := by simp [State.startRecovery]
@[simp] theorem State.startRecovery_straps (s : State) : (s.startRecovery).straps = s.straps := by simp [State.startRecovery]
@[simp] theorem State.startRecovery_pending (s : State) : (s.startRecovery).pending = s.pending := by simp [State.startRecovery]

@[simp] theorem State.endRecovery_holds (s : State) : (s.endRecovery).holds = s.holds := by unfold State.endRecovery; split <;> simp
@[simp] theorem State.endRecovery_map (s : State) : (s.endRecovery).map = s.map := by unfold State.endRecovery; split <;> simp
@[simp] theorem State.endRecovery_meas (s : State) : (s.endRecovery).meas = s.meas := by unfold State.endRecovery; split <;> simp
@[simp] theorem State.endRecovery_doors (s : State) : (s.endRecovery).doors = s.doors := by unfold State.endRecovery; split <;> simp
@[simp] theorem State.endRecovery_eval (s : State) : (s.endRecovery).eval = s.eval := by unfold State.endRecovery; split <;> simp
@[simp] theorem State.endRecovery_arb (s : State) : (s.endRecovery).arb = s.arb := by unfold State.endRecovery; split <;> simp
@[simp] theorem State.endRecovery_drive (s : State) : (s.endRecovery).drive = s.drive := by unfold State.endRecovery; split <;> simp
@[simp] theorem State.endRecovery_air (s : State) : (s.endRecovery).air = s.air := by unfold State.endRecovery; split <;> simp
@[simp] theorem State.endRecovery_link (s : State) : (s.endRecovery).link = s.link := by unfold State.endRecovery; split <;> simp
@[simp] theorem State.endRecovery_notice (s : State) : (s.endRecovery).notice = s.notice := by unfold State.endRecovery; split <;> simp
@[simp] theorem State.endRecovery_store (s : State) : (s.endRecovery).store = s.store := by unfold State.endRecovery; split <;> simp
@[simp] theorem State.endRecovery_straps (s : State) : (s.endRecovery).straps = s.straps := by unfold State.endRecovery; split <;> simp
@[simp] theorem State.endRecovery_pending (s : State) : (s.endRecovery).pending = s.pending := by unfold State.endRecovery; split <;> simp

/-! ### Zones and holds -/

@[simp] theorem State.handUrgencies_holds (s : State) : (s.handUrgencies).holds = s.holds := by unfold State.handUrgencies; dsimp only; split <;> simp
@[simp] theorem State.handUrgencies_map (s : State) : (s.handUrgencies).map = s.map := by unfold State.handUrgencies; dsimp only; split <;> simp
@[simp] theorem State.handUrgencies_meas (s : State) : (s.handUrgencies).meas = s.meas := by unfold State.handUrgencies; dsimp only; split <;> simp
@[simp] theorem State.handUrgencies_doors (s : State) : (s.handUrgencies).doors = s.doors := by unfold State.handUrgencies; dsimp only; split <;> simp
@[simp] theorem State.handUrgencies_eval (s : State) : (s.handUrgencies).eval = s.eval := by unfold State.handUrgencies; dsimp only; split <;> simp
@[simp] theorem State.handUrgencies_arb (s : State) : (s.handUrgencies).arb = s.arb := by unfold State.handUrgencies; dsimp only; split <;> simp
@[simp] theorem State.handUrgencies_drive (s : State) : (s.handUrgencies).drive = s.drive := by unfold State.handUrgencies; dsimp only; split <;> simp
@[simp] theorem State.handUrgencies_defrost (s : State) : (s.handUrgencies).defrost = s.defrost := by unfold State.handUrgencies; dsimp only; split <;> simp
@[simp] theorem State.handUrgencies_air (s : State) : (s.handUrgencies).air = s.air := by unfold State.handUrgencies; dsimp only; split <;> simp
@[simp] theorem State.handUrgencies_time (s : State) : (s.handUrgencies).time = s.time := by unfold State.handUrgencies; dsimp only; split <;> simp
@[simp] theorem State.handUrgencies_link (s : State) : (s.handUrgencies).link = s.link := by unfold State.handUrgencies; dsimp only; split <;> simp
@[simp] theorem State.handUrgencies_notice (s : State) : (s.handUrgencies).notice = s.notice := by unfold State.handUrgencies; dsimp only; split <;> simp
@[simp] theorem State.handUrgencies_store (s : State) : (s.handUrgencies).store = s.store := by unfold State.handUrgencies; dsimp only; split <;> simp
@[simp] theorem State.handUrgencies_straps (s : State) : (s.handUrgencies).straps = s.straps := by unfold State.handUrgencies; dsimp only; split <;> simp
@[simp] theorem State.handUrgencies_pending (s : State) : (s.handUrgencies).pending = s.pending := by unfold State.handUrgencies; dsimp only; split <;> simp

@[simp] theorem State.recomputePath_holds (s : State) (p : Path) : (s.recomputePath p).holds = s.holds := by simp [State.recomputePath]
@[simp] theorem State.recomputePath_map (s : State) (p : Path) : (s.recomputePath p).map = s.map := by simp [State.recomputePath]
@[simp] theorem State.recomputePath_meas (s : State) (p : Path) : (s.recomputePath p).meas = s.meas := by simp [State.recomputePath]
@[simp] theorem State.recomputePath_doors (s : State) (p : Path) : (s.recomputePath p).doors = s.doors := by simp [State.recomputePath]
@[simp] theorem State.recomputePath_arb (s : State) (p : Path) : (s.recomputePath p).arb = s.arb := by simp [State.recomputePath]
@[simp] theorem State.recomputePath_drive (s : State) (p : Path) : (s.recomputePath p).drive = s.drive := by simp [State.recomputePath]
@[simp] theorem State.recomputePath_defrost (s : State) (p : Path) : (s.recomputePath p).defrost = s.defrost := by simp [State.recomputePath]
@[simp] theorem State.recomputePath_air (s : State) (p : Path) : (s.recomputePath p).air = s.air := by simp [State.recomputePath]
@[simp] theorem State.recomputePath_time (s : State) (p : Path) : (s.recomputePath p).time = s.time := by simp [State.recomputePath]
@[simp] theorem State.recomputePath_link (s : State) (p : Path) : (s.recomputePath p).link = s.link := by simp [State.recomputePath]
@[simp] theorem State.recomputePath_notice (s : State) (p : Path) : (s.recomputePath p).notice = s.notice := by simp [State.recomputePath]
@[simp] theorem State.recomputePath_store (s : State) (p : Path) : (s.recomputePath p).store = s.store := by simp [State.recomputePath]
@[simp] theorem State.recomputePath_straps (s : State) (p : Path) : (s.recomputePath p).straps = s.straps := by simp [State.recomputePath]
@[simp] theorem State.recomputePath_events (s : State) (p : Path) : (s.recomputePath p).events = s.events := by simp [State.recomputePath]
@[simp] theorem State.recomputePath_pending (s : State) (p : Path) : (s.recomputePath p).pending = s.pending := by simp [State.recomputePath]

@[simp] theorem State.handDrawer_holds (s : State) (z : Zone) : (s.handDrawer z).holds = s.holds := by unfold State.handDrawer; split <;> simp
@[simp] theorem State.handDrawer_map (s : State) (z : Zone) : (s.handDrawer z).map = s.map := by unfold State.handDrawer; split <;> simp
@[simp] theorem State.handDrawer_meas (s : State) (z : Zone) : (s.handDrawer z).meas = s.meas := by unfold State.handDrawer; split <;> simp
@[simp] theorem State.handDrawer_doors (s : State) (z : Zone) : (s.handDrawer z).doors = s.doors := by unfold State.handDrawer; split <;> simp
@[simp] theorem State.handDrawer_arb (s : State) (z : Zone) : (s.handDrawer z).arb = s.arb := by unfold State.handDrawer; split <;> simp
@[simp] theorem State.handDrawer_drive (s : State) (z : Zone) : (s.handDrawer z).drive = s.drive := by unfold State.handDrawer; split <;> simp
@[simp] theorem State.handDrawer_defrost (s : State) (z : Zone) : (s.handDrawer z).defrost = s.defrost := by unfold State.handDrawer; split <;> simp
@[simp] theorem State.handDrawer_air (s : State) (z : Zone) : (s.handDrawer z).air = s.air := by unfold State.handDrawer; split <;> simp
@[simp] theorem State.handDrawer_time (s : State) (z : Zone) : (s.handDrawer z).time = s.time := by unfold State.handDrawer; split <;> simp
@[simp] theorem State.handDrawer_link (s : State) (z : Zone) : (s.handDrawer z).link = s.link := by unfold State.handDrawer; split <;> simp
@[simp] theorem State.handDrawer_notice (s : State) (z : Zone) : (s.handDrawer z).notice = s.notice := by unfold State.handDrawer; split <;> simp
@[simp] theorem State.handDrawer_store (s : State) (z : Zone) : (s.handDrawer z).store = s.store := by unfold State.handDrawer; split <;> simp
@[simp] theorem State.handDrawer_straps (s : State) (z : Zone) : (s.handDrawer z).straps = s.straps := by unfold State.handDrawer; split <;> simp
@[simp] theorem State.handDrawer_pending (s : State) (z : Zone) : (s.handDrawer z).pending = s.pending := by unfold State.handDrawer; split <;> simp

@[simp] theorem State.handOn_holds (s : State) (z : Zone) : (s.handOn z).holds = s.holds := by simp [State.handOn]
@[simp] theorem State.handOn_map (s : State) (z : Zone) : (s.handOn z).map = s.map := by simp [State.handOn]
@[simp] theorem State.handOn_meas (s : State) (z : Zone) : (s.handOn z).meas = s.meas := by simp [State.handOn]
@[simp] theorem State.handOn_doors (s : State) (z : Zone) : (s.handOn z).doors = s.doors := by simp [State.handOn]
@[simp] theorem State.handOn_arb (s : State) (z : Zone) : (s.handOn z).arb = s.arb := by simp [State.handOn]
@[simp] theorem State.handOn_drive (s : State) (z : Zone) : (s.handOn z).drive = s.drive := by simp [State.handOn]
@[simp] theorem State.handOn_defrost (s : State) (z : Zone) : (s.handOn z).defrost = s.defrost := by simp [State.handOn]
@[simp] theorem State.handOn_air (s : State) (z : Zone) : (s.handOn z).air = s.air := by simp [State.handOn]
@[simp] theorem State.handOn_time (s : State) (z : Zone) : (s.handOn z).time = s.time := by simp [State.handOn]
@[simp] theorem State.handOn_link (s : State) (z : Zone) : (s.handOn z).link = s.link := by simp [State.handOn]
@[simp] theorem State.handOn_notice (s : State) (z : Zone) : (s.handOn z).notice = s.notice := by simp [State.handOn]
@[simp] theorem State.handOn_store (s : State) (z : Zone) : (s.handOn z).store = s.store := by simp [State.handOn]
@[simp] theorem State.handOn_straps (s : State) (z : Zone) : (s.handOn z).straps = s.straps := by simp [State.handOn]
@[simp] theorem State.handOn_pending (s : State) (z : Zone) : (s.handOn z).pending = s.pending := by simp [State.handOn]

@[simp] theorem State.settleZone_holds (s : State) (rep : Option Report) (z : Zone) (a b : Bool) : (s.settleZone rep z a b).holds = s.holds := by simp [State.settleZone]
@[simp] theorem State.settleZone_map (s : State) (rep : Option Report) (z : Zone) (a b : Bool) : (s.settleZone rep z a b).map = s.map := by simp [State.settleZone]
@[simp] theorem State.settleZone_meas (s : State) (rep : Option Report) (z : Zone) (a b : Bool) : (s.settleZone rep z a b).meas = s.meas := by simp [State.settleZone]
@[simp] theorem State.settleZone_doors (s : State) (rep : Option Report) (z : Zone) (a b : Bool) : (s.settleZone rep z a b).doors = s.doors := by simp [State.settleZone]
@[simp] theorem State.settleZone_arb (s : State) (rep : Option Report) (z : Zone) (a b : Bool) : (s.settleZone rep z a b).arb = s.arb := by simp [State.settleZone]
@[simp] theorem State.settleZone_drive (s : State) (rep : Option Report) (z : Zone) (a b : Bool) : (s.settleZone rep z a b).drive = s.drive := by simp [State.settleZone]
@[simp] theorem State.settleZone_defrost (s : State) (rep : Option Report) (z : Zone) (a b : Bool) : (s.settleZone rep z a b).defrost = s.defrost := by simp [State.settleZone]
@[simp] theorem State.settleZone_air (s : State) (rep : Option Report) (z : Zone) (a b : Bool) : (s.settleZone rep z a b).air = s.air := by simp [State.settleZone]
@[simp] theorem State.settleZone_time (s : State) (rep : Option Report) (z : Zone) (a b : Bool) : (s.settleZone rep z a b).time = s.time := by simp [State.settleZone]
@[simp] theorem State.settleZone_link (s : State) (rep : Option Report) (z : Zone) (a b : Bool) : (s.settleZone rep z a b).link = s.link := by simp [State.settleZone]
@[simp] theorem State.settleZone_notice (s : State) (rep : Option Report) (z : Zone) (a b : Bool) : (s.settleZone rep z a b).notice = s.notice := by simp [State.settleZone]
@[simp] theorem State.settleZone_store (s : State) (rep : Option Report) (z : Zone) (a b : Bool) : (s.settleZone rep z a b).store = s.store := by simp [State.settleZone]
@[simp] theorem State.settleZone_straps (s : State) (rep : Option Report) (z : Zone) (a b : Bool) : (s.settleZone rep z a b).straps = s.straps := by simp [State.settleZone]
@[simp] theorem State.settleZone_events (s : State) (rep : Option Report) (z : Zone) (a b : Bool) : (s.settleZone rep z a b).events = s.events := by simp [State.settleZone]
@[simp] theorem State.settleZone_pending (s : State) (rep : Option Report) (z : Zone) (a b : Bool) : (s.settleZone rep z a b).pending = s.pending := by simp [State.settleZone]

@[simp] theorem State.enterTransit_holds (s : State) : (s.enterTransit).holds = s.holds := by unfold State.enterTransit; dsimp only; split <;> simp
@[simp] theorem State.enterTransit_map (s : State) : (s.enterTransit).map = s.map := by unfold State.enterTransit; dsimp only; split <;> simp
@[simp] theorem State.enterTransit_meas (s : State) : (s.enterTransit).meas = s.meas := by unfold State.enterTransit; dsimp only; split <;> simp
@[simp] theorem State.enterTransit_doors (s : State) : (s.enterTransit).doors = s.doors := by unfold State.enterTransit; dsimp only; split <;> simp
@[simp] theorem State.enterTransit_arb (s : State) : (s.enterTransit).arb = s.arb := by unfold State.enterTransit; dsimp only; split <;> simp
@[simp] theorem State.enterTransit_drive (s : State) : (s.enterTransit).drive = s.drive := by unfold State.enterTransit; dsimp only; split <;> simp
@[simp] theorem State.enterTransit_defrost (s : State) : (s.enterTransit).defrost = s.defrost := by unfold State.enterTransit; dsimp only; split <;> simp
@[simp] theorem State.enterTransit_air (s : State) : (s.enterTransit).air = s.air := by unfold State.enterTransit; dsimp only; split <;> simp
@[simp] theorem State.enterTransit_time (s : State) : (s.enterTransit).time = s.time := by unfold State.enterTransit; dsimp only; split <;> simp
@[simp] theorem State.enterTransit_link (s : State) : (s.enterTransit).link = s.link := by unfold State.enterTransit; dsimp only; split <;> simp
@[simp] theorem State.enterTransit_notice (s : State) : (s.enterTransit).notice = s.notice := by unfold State.enterTransit; dsimp only; split <;> simp
@[simp] theorem State.enterTransit_store (s : State) : (s.enterTransit).store = s.store := by unfold State.enterTransit; dsimp only; split <;> simp
@[simp] theorem State.enterTransit_straps (s : State) : (s.enterTransit).straps = s.straps := by unfold State.enterTransit; dsimp only; split <;> simp
@[simp] theorem State.enterTransit_pending (s : State) : (s.enterTransit).pending = s.pending := by unfold State.enterTransit; dsimp only; split <;> simp

@[simp] theorem State.readBlindLen_holds (s : State) (z : Zone) : (s.readBlindLen z).holds = s.holds := rfl
@[simp] theorem State.readBlindLen_map (s : State) (z : Zone) : (s.readBlindLen z).map = s.map := rfl
@[simp] theorem State.readBlindLen_meas (s : State) (z : Zone) : (s.readBlindLen z).meas = s.meas := rfl
@[simp] theorem State.readBlindLen_doors (s : State) (z : Zone) : (s.readBlindLen z).doors = s.doors := rfl
@[simp] theorem State.readBlindLen_arb (s : State) (z : Zone) : (s.readBlindLen z).arb = s.arb := rfl
@[simp] theorem State.readBlindLen_drive (s : State) (z : Zone) : (s.readBlindLen z).drive = s.drive := rfl
@[simp] theorem State.readBlindLen_defrost (s : State) (z : Zone) : (s.readBlindLen z).defrost = s.defrost := rfl
@[simp] theorem State.readBlindLen_air (s : State) (z : Zone) : (s.readBlindLen z).air = s.air := rfl
@[simp] theorem State.readBlindLen_time (s : State) (z : Zone) : (s.readBlindLen z).time = s.time := rfl
@[simp] theorem State.readBlindLen_link (s : State) (z : Zone) : (s.readBlindLen z).link = s.link := rfl
@[simp] theorem State.readBlindLen_notice (s : State) (z : Zone) : (s.readBlindLen z).notice = s.notice := rfl
@[simp] theorem State.readBlindLen_store (s : State) (z : Zone) : (s.readBlindLen z).store = s.store := rfl
@[simp] theorem State.readBlindLen_straps (s : State) (z : Zone) : (s.readBlindLen z).straps = s.straps := rfl
@[simp] theorem State.readBlindLen_events (s : State) (z : Zone) : (s.readBlindLen z).events = s.events := rfl
@[simp] theorem State.readBlindLen_pending (s : State) (z : Zone) : (s.readBlindLen z).pending = s.pending := rfl
@[simp] theorem State.readBlindLen_zone (s : State) (z y : Zone) : (s.readBlindLen z).zone y = s.zone y := rfl
@[simp] theorem State.readBlindLen_eval (s : State) (z : Zone) : (s.readBlindLen z).eval =
    { s.eval with blindUsed := s.eval.blindUsed.set z (s.eval.blindLen.get z) } := rfl

/-- All that the choice of the source can do to the zone's record (R35 to R38, R54): source and F by the table, the half and
its due time where BLIND begins, restarts or ends, and the placeholder's end with the first value (R32). -/
theorem State.selectSource_zone (s : State) (rep : Option Report) (z : Zone) (b : Bool) :
    (s.selectSource rep z b).zone z =
      let r := s.zone z
      let x := s.sourceOf rep (s.entry z) r.f
      let secs := 60 * (s.eval.blindUsed.get z).calling
      let starts := x.1 = .blind ∧ (r.source ≠ .blind ∨ b = true)
      let ends := x.1 ≠ .blind ∧ r.source = .blind
      { r with
        source := x.1, f := x.2
        placeholder := r.placeholder && (decide (x.1 = .blind) || s.sensorSeeding rep z)
        half := if starts then some .call else if ends then none else r.half
        blindDue := if starts then some (s.time.uptime + secs) else if ends then none else r.blindDue } := by
  unfold State.selectSource
  dsimp only
  split
  · split <;> simp_all [State.enterBlind]
  · split <;> simp_all [State.leaveBlind]

@[simp] theorem State.selectSource_holds (s : State) (rep : Option Report) (z : Zone) (b : Bool) : (s.selectSource rep z b).holds = s.holds := by unfold State.selectSource; dsimp only; split <;> (try split) <;> simp [State.enterBlind, State.leaveBlind]
@[simp] theorem State.selectSource_map (s : State) (rep : Option Report) (z : Zone) (b : Bool) : (s.selectSource rep z b).map = s.map := by unfold State.selectSource; dsimp only; split <;> (try split) <;> simp [State.enterBlind, State.leaveBlind]
@[simp] theorem State.selectSource_meas (s : State) (rep : Option Report) (z : Zone) (b : Bool) : (s.selectSource rep z b).meas = s.meas := by unfold State.selectSource; dsimp only; split <;> (try split) <;> simp [State.enterBlind, State.leaveBlind]
@[simp] theorem State.selectSource_doors (s : State) (rep : Option Report) (z : Zone) (b : Bool) : (s.selectSource rep z b).doors = s.doors := by unfold State.selectSource; dsimp only; split <;> (try split) <;> simp [State.enterBlind, State.leaveBlind]
@[simp] theorem State.selectSource_arb (s : State) (rep : Option Report) (z : Zone) (b : Bool) : (s.selectSource rep z b).arb = s.arb := by unfold State.selectSource; dsimp only; split <;> (try split) <;> simp [State.enterBlind, State.leaveBlind]
@[simp] theorem State.selectSource_drive (s : State) (rep : Option Report) (z : Zone) (b : Bool) : (s.selectSource rep z b).drive = s.drive := by unfold State.selectSource; dsimp only; split <;> (try split) <;> simp [State.enterBlind, State.leaveBlind]
@[simp] theorem State.selectSource_defrost (s : State) (rep : Option Report) (z : Zone) (b : Bool) : (s.selectSource rep z b).defrost = s.defrost := by unfold State.selectSource; dsimp only; split <;> (try split) <;> simp [State.enterBlind, State.leaveBlind]
@[simp] theorem State.selectSource_air (s : State) (rep : Option Report) (z : Zone) (b : Bool) : (s.selectSource rep z b).air = s.air := by unfold State.selectSource; dsimp only; split <;> (try split) <;> simp [State.enterBlind, State.leaveBlind]
@[simp] theorem State.selectSource_link (s : State) (rep : Option Report) (z : Zone) (b : Bool) : (s.selectSource rep z b).link = s.link := by unfold State.selectSource; dsimp only; split <;> (try split) <;> simp [State.enterBlind, State.leaveBlind]
@[simp] theorem State.selectSource_notice (s : State) (rep : Option Report) (z : Zone) (b : Bool) : (s.selectSource rep z b).notice = s.notice := by unfold State.selectSource; dsimp only; split <;> (try split) <;> simp [State.enterBlind, State.leaveBlind]
@[simp] theorem State.selectSource_store (s : State) (rep : Option Report) (z : Zone) (b : Bool) : (s.selectSource rep z b).store = s.store := by unfold State.selectSource; dsimp only; split <;> (try split) <;> simp [State.enterBlind, State.leaveBlind]
@[simp] theorem State.selectSource_straps (s : State) (rep : Option Report) (z : Zone) (b : Bool) : (s.selectSource rep z b).straps = s.straps := by unfold State.selectSource; dsimp only; split <;> (try split) <;> simp [State.enterBlind, State.leaveBlind]
@[simp] theorem State.selectSource_events (s : State) (rep : Option Report) (z : Zone) (b : Bool) : (s.selectSource rep z b).events = s.events := by unfold State.selectSource; dsimp only; split <;> (try split) <;> simp [State.enterBlind, State.leaveBlind]
@[simp] theorem State.selectSource_pending (s : State) (rep : Option Report) (z : Zone) (b : Bool) : (s.selectSource rep z b).pending = s.pending := by unfold State.selectSource; dsimp only; split <;> (try split) <;> simp [State.enterBlind, State.leaveBlind]

@[simp] theorem State.resolve_map (s : State) (z : Zone) : (s.resolve z).map = s.map := by simp [State.resolve]
@[simp] theorem State.resolve_meas (s : State) (z : Zone) : (s.resolve z).meas = s.meas := by simp [State.resolve]
@[simp] theorem State.resolve_doors (s : State) (z : Zone) : (s.resolve z).doors = s.doors := by simp [State.resolve]
@[simp] theorem State.resolve_eval (s : State) (z : Zone) : (s.resolve z).eval = s.eval := by simp [State.resolve]
@[simp] theorem State.resolve_arb (s : State) (z : Zone) : (s.resolve z).arb = s.arb := by simp [State.resolve]
@[simp] theorem State.resolve_drive (s : State) (z : Zone) : (s.resolve z).drive = s.drive := by simp [State.resolve]
@[simp] theorem State.resolve_defrost (s : State) (z : Zone) : (s.resolve z).defrost = s.defrost := by simp [State.resolve]
@[simp] theorem State.resolve_air (s : State) (z : Zone) : (s.resolve z).air = s.air := by simp [State.resolve]
@[simp] theorem State.resolve_time (s : State) (z : Zone) : (s.resolve z).time = s.time := by simp [State.resolve]
@[simp] theorem State.resolve_link (s : State) (z : Zone) : (s.resolve z).link = s.link := by simp [State.resolve]
@[simp] theorem State.resolve_notice (s : State) (z : Zone) : (s.resolve z).notice = s.notice := by simp [State.resolve]
@[simp] theorem State.resolve_store (s : State) (z : Zone) : (s.resolve z).store = s.store := by simp [State.resolve]
@[simp] theorem State.resolve_straps (s : State) (z : Zone) : (s.resolve z).straps = s.straps := by simp [State.resolve]
@[simp] theorem State.resolve_events (s : State) (z : Zone) : (s.resolve z).events = s.events := by simp [State.resolve]
@[simp] theorem State.resolve_pending (s : State) (z : Zone) : (s.resolve z).pending = s.pending := by simp [State.resolve]

@[simp] theorem State.handChange_holds (s : State) (z : Zone) (b : Option Governing) : (s.handChange z b).holds = s.holds := by unfold State.handChange; split <;> (try split) <;> simp
@[simp] theorem State.handChange_map (s : State) (z : Zone) (b : Option Governing) : (s.handChange z b).map = s.map := by unfold State.handChange; split <;> (try split) <;> simp
@[simp] theorem State.handChange_meas (s : State) (z : Zone) (b : Option Governing) : (s.handChange z b).meas = s.meas := by unfold State.handChange; split <;> (try split) <;> simp
@[simp] theorem State.handChange_doors (s : State) (z : Zone) (b : Option Governing) : (s.handChange z b).doors = s.doors := by unfold State.handChange; split <;> (try split) <;> simp
@[simp] theorem State.handChange_eval (s : State) (z : Zone) (b : Option Governing) : (s.handChange z b).eval = s.eval := by unfold State.handChange; split <;> (try split) <;> simp
@[simp] theorem State.handChange_arb (s : State) (z : Zone) (b : Option Governing) : (s.handChange z b).arb = s.arb := by unfold State.handChange; split <;> (try split) <;> simp
@[simp] theorem State.handChange_drive (s : State) (z : Zone) (b : Option Governing) : (s.handChange z b).drive = s.drive := by unfold State.handChange; split <;> (try split) <;> simp
@[simp] theorem State.handChange_defrost (s : State) (z : Zone) (b : Option Governing) : (s.handChange z b).defrost = s.defrost := by unfold State.handChange; split <;> (try split) <;> simp
@[simp] theorem State.handChange_air (s : State) (z : Zone) (b : Option Governing) : (s.handChange z b).air = s.air := by unfold State.handChange; split <;> (try split) <;> simp
@[simp] theorem State.handChange_time (s : State) (z : Zone) (b : Option Governing) : (s.handChange z b).time = s.time := by unfold State.handChange; split <;> (try split) <;> simp
@[simp] theorem State.handChange_link (s : State) (z : Zone) (b : Option Governing) : (s.handChange z b).link = s.link := by unfold State.handChange; split <;> (try split) <;> simp
@[simp] theorem State.handChange_notice (s : State) (z : Zone) (b : Option Governing) : (s.handChange z b).notice = s.notice := by unfold State.handChange; split <;> (try split) <;> simp
@[simp] theorem State.handChange_store (s : State) (z : Zone) (b : Option Governing) : (s.handChange z b).store = s.store := by unfold State.handChange; split <;> (try split) <;> simp
@[simp] theorem State.handChange_straps (s : State) (z : Zone) (b : Option Governing) : (s.handChange z b).straps = s.straps := by unfold State.handChange; split <;> (try split) <;> simp
@[simp] theorem State.handChange_pending (s : State) (z : Zone) (b : Option Governing) : (s.handChange z b).pending = s.pending := by unfold State.handChange; split <;> (try split) <;> simp

@[simp] theorem State.lapse_map (s : State) (i : Nat) (c : LapseCause) : (s.lapse i c).map = s.map := by unfold State.lapse; split <;> (try split) <;> simp
@[simp] theorem State.lapse_meas (s : State) (i : Nat) (c : LapseCause) : (s.lapse i c).meas = s.meas := by unfold State.lapse; split <;> (try split) <;> simp
@[simp] theorem State.lapse_doors (s : State) (i : Nat) (c : LapseCause) : (s.lapse i c).doors = s.doors := by unfold State.lapse; split <;> (try split) <;> simp
@[simp] theorem State.lapse_eval (s : State) (i : Nat) (c : LapseCause) : (s.lapse i c).eval = s.eval := by unfold State.lapse; split <;> (try split) <;> simp
@[simp] theorem State.lapse_arb (s : State) (i : Nat) (c : LapseCause) : (s.lapse i c).arb = s.arb := by unfold State.lapse; split <;> (try split) <;> simp
@[simp] theorem State.lapse_drive (s : State) (i : Nat) (c : LapseCause) : (s.lapse i c).drive = s.drive := by unfold State.lapse; split <;> (try split) <;> simp
@[simp] theorem State.lapse_defrost (s : State) (i : Nat) (c : LapseCause) : (s.lapse i c).defrost = s.defrost := by unfold State.lapse; split <;> (try split) <;> simp
@[simp] theorem State.lapse_air (s : State) (i : Nat) (c : LapseCause) : (s.lapse i c).air = s.air := by unfold State.lapse; split <;> (try split) <;> simp
@[simp] theorem State.lapse_link (s : State) (i : Nat) (c : LapseCause) : (s.lapse i c).link = s.link := by unfold State.lapse; split <;> (try split) <;> simp
@[simp] theorem State.lapse_notice (s : State) (i : Nat) (c : LapseCause) : (s.lapse i c).notice = s.notice := by unfold State.lapse; split <;> (try split) <;> simp
@[simp] theorem State.lapse_store (s : State) (i : Nat) (c : LapseCause) : (s.lapse i c).store = s.store := by unfold State.lapse; split <;> (try split) <;> simp
@[simp] theorem State.lapse_straps (s : State) (i : Nat) (c : LapseCause) : (s.lapse i c).straps = s.straps := by unfold State.lapse; split <;> (try split) <;> simp
@[simp] theorem State.lapse_pending (s : State) (i : Nat) (c : LapseCause) : (s.lapse i c).pending = s.pending := by unfold State.lapse; split <;> (try split) <;> simp

/-! ### What the operations of the valve, the path state and the reports do -/

/-- A valve at rest at the target the arbiter handed takes it and is reported (R163). -/
theorem State.takeValve_of_there {s : State} (hr : s.air.valveMotion = .atRest) (hp : s.air.valvePos = s.arb.valveTarget) :
    s.takeValve = (s.setAir { s.air with valveTarget := s.arb.valveTarget }).reportValve := by
  simp [State.takeValve, hr, hp]

/-- A valve at rest elsewhere begins to move to the target the arbiter handed (R163). -/
theorem State.takeValve_of_elsewhere {s : State} (hr : s.air.valveMotion = .atRest)
    (hp : s.air.valvePos ≠ s.arb.valveTarget) :
    s.takeValve = s.setAir { s.air with valveTarget := s.arb.valveTarget, valveMotion := .moving } := by
  simp [State.takeValve, hr, hp]
  rfl

/-- A valve that moves or homes stores the target the arbiter handed (R163, R164). -/
theorem State.takeValve_of_busy {s : State} (hr : s.air.valveMotion ≠ .atRest) :
    s.takeValve = s.setAir { s.air with valveTarget := s.arb.valveTarget } := by
  unfold State.takeValve
  split
  · contradiction
  · rfl

/-- An arrival is handed to the arbiter and to the defrost controller, and nothing else changes (R163). -/
theorem State.reportValve_eq (s : State) :
    s.reportValve = { s with events := s.events ++ [.valveToArbiter s.air.valvePos, .valveToDefrost s.air.valvePos] } := by
  simp [State.reportValve, State.hand, State.setEvents]

/-- A state that is no change hands nothing on (R57). -/
theorem State.changePath_of_same {s : State} {st : PathState} (h : s.arb.state = st) : s.changePath st = s := by
  simp [State.changePath, h]

/-- A change of state enters the state with its valve target and hands both on (R57, R60). -/
theorem State.changePath_of_ne {s : State} {st : PathState} (h : s.arb.state ≠ st) :
    s.changePath st = { s with
      arb := { s.arb with state := st, valveTarget := st.valveTarget }
      events := s.events ++ [.airPathState (decide (st = .runFreeze)),
        .arbiterToDefrost (decide (s.arb.state = .runFresh)) st.isHalted] } := by
  simp [State.changePath, h, State.setArb, State.hand, State.setEvents]

@[simp] theorem State.aimStart_events (s : State) (p : Option Path) :
    (s.aimStart p).events = s.events ++ [.airPathState false] := rfl

@[simp] theorem State.aimStart_startPath (s : State) (p : Option Path) : (s.aimStart p).arb.startPath = p := rfl

/-- Of the channel it reports, a report says what its taker sees (R125). -/
@[simp] theorem State.reading_reported (s : State) (r : Report) : s.reading (some r) r.channel = r := by
  simp [State.reading]

/-- Of another channel, the taker of a report sees the record as it stands (R125). -/
theorem State.reading_other {s : State} {r : Report} {c : Channel} (h : r.channel ≠ c) :
    s.reading (some r) c = s.reportOf c := by simp [State.reading, h]

@[simp] theorem State.reading_none (s : State) (c : Channel) : s.reading none c = s.reportOf c := rfl

/-! ### Fan outputs -/

/-- The active part of a period is the running duty in percent, twice the duty of 200 places, centred on the top of the count;
so a duty of 0 is inactive and one of 100 active throughout (R155). -/
theorem pwmActive_iff {duty k : Nat} (hd : duty ≤ 100) (hk : k < 200) :
    pwmActive duty k = true ↔ 100 - duty ≤ k ∧ k < 100 + duty := by
  unfold pwmActive pwmCounter
  split
  · rw [if_pos (by omega), decide_eq_true_eq]
    omega
  · split <;> rw [decide_eq_true_eq] <;> omega

/-- After a period boundary the outputs run by the set duties as they stood at it (R155). -/
theorem State.fanOutputs_after_boundary (s t : State) (k : Nat) (h : execPwmPeriodBoundary s = .next t) :
    (t.pff k, t.pzf k, t.pcf k) = (pwmActive s.air.ff k, pwmActive s.air.zf k, pwmActive s.air.cf k) := by
  cases h
  rfl

end Sys2Proof.Machine
end

