-- ==== Sys2Proof/Laws/PerInstr.lean ====
section
/-! SUPPORT. Facts about the syntax of every command, one lemma for each constructor. -/

/-- A request's CODE requires exactly as many bytes as its CODE and payload take (R185). -/
def Sys2Proof.Laws.RequestLength.Statement (c : Sys2Proof.Instr) : Prop :=
  ∀ req, Sys2Proof.Safety.requestBytes c = some req → Sys2Proof.Machine.requestLen (req.headD 0) = some req.length

theorem Sys2Proof.Laws.RequestLength.powerOnReset (straps : Sys2Proof.Straps) : Sys2Proof.Laws.RequestLength.Statement (.powerOnReset straps) := by
  intro req h; cases h
theorem Sys2Proof.Laws.RequestLength.uptimeWrapRestart (straps : Sys2Proof.Straps) : Sys2Proof.Laws.RequestLength.Statement (.uptimeWrapRestart straps) := by
  intro req h; cases h
theorem Sys2Proof.Laws.RequestLength.ident : Sys2Proof.Laws.RequestLength.Statement .ident := by
  intro req h; cases h; rfl
theorem Sys2Proof.Laws.RequestLength.systemQuery : Sys2Proof.Laws.RequestLength.Statement .systemQuery := by
  intro req h; cases h; rfl
theorem Sys2Proof.Laws.RequestLength.restart : Sys2Proof.Laws.RequestLength.Statement .restart := by
  intro req h; cases h; rfl
theorem Sys2Proof.Laws.RequestLength.holdOpen (zone : Sys2Proof.Byte) (kind : Sys2Proof.Byte) (target : Sys2Proof.Half) (halfBand : Sys2Proof.Byte) (priority : Sys2Proof.Byte) (flags : Sys2Proof.Byte) (minutes : Sys2Proof.Half) (floor : Sys2Proof.Byte) : Sys2Proof.Laws.RequestLength.Statement (.holdOpen zone kind target halfBand priority flags minutes floor) := by
  intro req h; cases h; rfl
theorem Sys2Proof.Laws.RequestLength.holdAmend (slot : Sys2Proof.Byte) (gen : Sys2Proof.Byte) (mask : Sys2Proof.Byte) (target : Sys2Proof.Half) (halfBand : Sys2Proof.Byte) (priority : Sys2Proof.Byte) (minutes : Sys2Proof.Half) (floor : Sys2Proof.Byte) (reach : Sys2Proof.Byte) : Sys2Proof.Laws.RequestLength.Statement (.holdAmend slot gen mask target halfBand priority minutes floor reach) := by
  intro req h; cases h; rfl
theorem Sys2Proof.Laws.RequestLength.holdRetire (slot : Sys2Proof.Byte) (gen : Sys2Proof.Byte) : Sys2Proof.Laws.RequestLength.Statement (.holdRetire slot gen) := by
  intro req h; cases h; rfl
theorem Sys2Proof.Laws.RequestLength.holdQuery (slot : Sys2Proof.Byte) (gen : Sys2Proof.Byte) : Sys2Proof.Laws.RequestLength.Statement (.holdQuery slot gen) := by
  intro req h; cases h; rfl
theorem Sys2Proof.Laws.RequestLength.holdList (zone : Sys2Proof.Byte) : Sys2Proof.Laws.RequestLength.Statement (.holdList zone) := by
  intro req h; cases h; rfl
theorem Sys2Proof.Laws.RequestLength.zoneQuery (zone : Sys2Proof.Byte) : Sys2Proof.Laws.RequestLength.Statement (.zoneQuery zone) := by
  intro req h; cases h; rfl
theorem Sys2Proof.Laws.RequestLength.regimeSet (regime : Sys2Proof.Byte) : Sys2Proof.Laws.RequestLength.Statement (.regimeSet regime) := by
  intro req h; cases h; rfl
theorem Sys2Proof.Laws.RequestLength.mapSet (zone : Sys2Proof.Byte) (regime : Sys2Proof.Byte) (fallback : Sys2Proof.Byte) (offset : Sys2Proof.Half) : Sys2Proof.Laws.RequestLength.Statement (.mapSet zone regime fallback offset) := by
  intro req h; cases h; rfl
theorem Sys2Proof.Laws.RequestLength.sensorQuery (channel : Sys2Proof.Byte) : Sys2Proof.Laws.RequestLength.Statement (.sensorQuery channel) := by
  intro req h; cases h; rfl
theorem Sys2Proof.Laws.RequestLength.correctionSet (slot : Sys2Proof.Byte) (op : Sys2Proof.Byte) (channel : Sys2Proof.Byte) (index : Sys2Proof.Byte) (value : Sys2Proof.Half) : Sys2Proof.Laws.RequestLength.Statement (.correctionSet slot op channel index value) := by
  intro req h; cases h; rfl
theorem Sys2Proof.Laws.RequestLength.doorQuery (door : Sys2Proof.Byte) (clear : Sys2Proof.Byte) : Sys2Proof.Laws.RequestLength.Statement (.doorQuery door clear) := by
  intro req h; cases h; rfl
theorem Sys2Proof.Laws.RequestLength.defrostNow : Sys2Proof.Laws.RequestLength.Statement .defrostNow := by
  intro req h; cases h; rfl
theorem Sys2Proof.Laws.RequestLength.defrostCancel : Sys2Proof.Laws.RequestLength.Statement .defrostCancel := by
  intro req h; cases h; rfl
theorem Sys2Proof.Laws.RequestLength.clearLockout : Sys2Proof.Laws.RequestLength.Statement .clearLockout := by
  intro req h; cases h; rfl
theorem Sys2Proof.Laws.RequestLength.noticeNext : Sys2Proof.Laws.RequestLength.Statement .noticeNext := by
  intro req h; cases h; rfl
theorem Sys2Proof.Laws.RequestLength.noticeEnable (mask : Sys2Proof.Half) : Sys2Proof.Laws.RequestLength.Statement (.noticeEnable mask) := by
  intro req h; cases h; rfl
theorem Sys2Proof.Laws.RequestLength.settingsWrite (item : Sys2Proof.Byte) (value : Sys2Proof.Quad) : Sys2Proof.Laws.RequestLength.Statement (.settingsWrite item value) := by
  intro req h; cases h; rfl
theorem Sys2Proof.Laws.RequestLength.settingsRead (item : Sys2Proof.Byte) : Sys2Proof.Laws.RequestLength.Statement (.settingsRead item) := by
  intro req h; cases h; rfl
theorem Sys2Proof.Laws.RequestLength.settingsStore : Sys2Proof.Laws.RequestLength.Statement .settingsStore := by
  intro req h; cases h; rfl
theorem Sys2Proof.Laws.RequestLength.storeWriteEnd : Sys2Proof.Laws.RequestLength.Statement .storeWriteEnd := by
  intro req h; cases h
theorem Sys2Proof.Laws.RequestLength.frameRefused (why : Sys2Proof.FrameRefusal) : Sys2Proof.Laws.RequestLength.Statement (.frameRefused why) := by
  intro req h; cases h
theorem Sys2Proof.Laws.RequestLength.overrun : Sys2Proof.Laws.RequestLength.Statement .overrun := by
  intro req h; cases h
theorem Sys2Proof.Laws.RequestLength.framingError : Sys2Proof.Laws.RequestLength.Statement .framingError := by
  intro req h; cases h
theorem Sys2Proof.Laws.RequestLength.byteGapTimeout : Sys2Proof.Laws.RequestLength.Statement .byteGapTimeout := by
  intro req h; cases h
theorem Sys2Proof.Laws.RequestLength.replyStart : Sys2Proof.Laws.RequestLength.Statement .replyStart := by
  intro req h; cases h
theorem Sys2Proof.Laws.RequestLength.replySent (straps : Sys2Proof.Straps) : Sys2Proof.Laws.RequestLength.Statement (.replySent straps) := by
  intro req h; cases h
theorem Sys2Proof.Laws.RequestLength.holdExpiry (slot : Nat) : Sys2Proof.Laws.RequestLength.Statement (.holdExpiry slot) := by
  intro req h; cases h
theorem Sys2Proof.Laws.RequestLength.holdChangeEvaluation (zone : Sys2Proof.Zone) : Sys2Proof.Laws.RequestLength.Statement (.holdChangeEvaluation zone) := by
  intro req h; cases h
theorem Sys2Proof.Laws.RequestLength.channelConversion (channel : Sys2Proof.Channel) (count : Nat) : Sys2Proof.Laws.RequestLength.Statement (.channelConversion channel count) := by
  intro req h; cases h
theorem Sys2Proof.Laws.RequestLength.oneSecondEvaluation (zone : Sys2Proof.Zone) : Sys2Proof.Laws.RequestLength.Statement (.oneSecondEvaluation zone) := by
  intro req h; cases h
theorem Sys2Proof.Laws.RequestLength.blindHalf (zone : Sys2Proof.Zone) : Sys2Proof.Laws.RequestLength.Statement (.blindHalf zone) := by
  intro req h; cases h
theorem Sys2Proof.Laws.RequestLength.doorSample (door : Sys2Proof.Door) (a : Sys2Proof.Level) (b : Sys2Proof.Level) (c : Sys2Proof.Level) : Sys2Proof.Laws.RequestLength.Statement (.doorSample door a b c) := by
  intro req h; cases h
theorem Sys2Proof.Laws.RequestLength.doorAjar (door : Sys2Proof.Door) : Sys2Proof.Laws.RequestLength.Statement (.doorAjar door) := by
  intro req h; cases h
theorem Sys2Proof.Laws.RequestLength.doorChangeEvaluation (door : Sys2Proof.Door) : Sys2Proof.Laws.RequestLength.Statement (.doorChangeEvaluation door) := by
  intro req h; cases h
theorem Sys2Proof.Laws.RequestLength.airRecompute (kind : Sys2Proof.AirKind) : Sys2Proof.Laws.RequestLength.Statement (.airRecompute kind) := by
  intro req h; cases h
theorem Sys2Proof.Laws.RequestLength.fanDelay : Sys2Proof.Laws.RequestLength.Statement .fanDelay := by
  intro req h; cases h
theorem Sys2Proof.Laws.RequestLength.damperArrival : Sys2Proof.Laws.RequestLength.Statement .damperArrival := by
  intro req h; cases h
theorem Sys2Proof.Laws.RequestLength.flapArrival : Sys2Proof.Laws.RequestLength.Statement .flapArrival := by
  intro req h; cases h
theorem Sys2Proof.Laws.RequestLength.homingEnd (motor : Sys2Proof.HomingMotor) : Sys2Proof.Laws.RequestLength.Statement (.homingEnd motor) := by
  intro req h; cases h
theorem Sys2Proof.Laws.RequestLength.valveArrival : Sys2Proof.Laws.RequestLength.Statement .valveArrival := by
  intro req h; cases h
theorem Sys2Proof.Laws.RequestLength.startCompletion : Sys2Proof.Laws.RequestLength.Statement .startCompletion := by
  intro req h; cases h
theorem Sys2Proof.Laws.RequestLength.releaseEnd : Sys2Proof.Laws.RequestLength.Statement .releaseEnd := by
  intro req h; cases h
theorem Sys2Proof.Laws.RequestLength.arbiterReview : Sys2Proof.Laws.RequestLength.Statement .arbiterReview := by
  intro req h; cases h
theorem Sys2Proof.Laws.RequestLength.pumpdownStage : Sys2Proof.Laws.RequestLength.Statement .pumpdownStage := by
  intro req h; cases h
theorem Sys2Proof.Laws.RequestLength.holdoffStage : Sys2Proof.Laws.RequestLength.Statement .holdoffStage := by
  intro req h; cases h
theorem Sys2Proof.Laws.RequestLength.recoveryStage : Sys2Proof.Laws.RequestLength.Statement .recoveryStage := by
  intro req h; cases h
theorem Sys2Proof.Laws.RequestLength.inhibit : Sys2Proof.Laws.RequestLength.Statement .inhibit := by
  intro req h; cases h
theorem Sys2Proof.Laws.RequestLength.dwellMin : Sys2Proof.Laws.RequestLength.Statement .dwellMin := by
  intro req h; cases h
theorem Sys2Proof.Laws.RequestLength.dwellMax : Sys2Proof.Laws.RequestLength.Statement .dwellMax := by
  intro req h; cases h
theorem Sys2Proof.Laws.RequestLength.speedStep : Sys2Proof.Laws.RequestLength.Statement .speedStep := by
  intro req h; cases h
theorem Sys2Proof.Laws.RequestLength.driveLinkTick : Sys2Proof.Laws.RequestLength.Statement .driveLinkTick := by
  intro req h; cases h
theorem Sys2Proof.Laws.RequestLength.statusFrame (seq : Sys2Proof.Byte) (actual : Sys2Proof.Byte) (code : Sys2Proof.Byte) (check : Sys2Proof.Byte) : Sys2Proof.Laws.RequestLength.Statement (.statusFrame seq actual code check) := by
  intro req h; cases h
theorem Sys2Proof.Laws.RequestLength.mainsSample (count : Nat) : Sys2Proof.Laws.RequestLength.Statement (.mainsSample count) := by
  intro req h; cases h
theorem Sys2Proof.Laws.RequestLength.arbiterSag : Sys2Proof.Laws.RequestLength.Statement .arbiterSag := by
  intro req h; cases h
theorem Sys2Proof.Laws.RequestLength.arbiterNormal : Sys2Proof.Laws.RequestLength.Statement .arbiterNormal := by
  intro req h; cases h
theorem Sys2Proof.Laws.RequestLength.arbiterChangeToDefrost : Sys2Proof.Laws.RequestLength.Statement .arbiterChangeToDefrost := by
  intro req h; cases h
theorem Sys2Proof.Laws.RequestLength.defrostS4Report : Sys2Proof.Laws.RequestLength.Statement .defrostS4Report := by
  intro req h; cases h
theorem Sys2Proof.Laws.RequestLength.pendingLimit : Sys2Proof.Laws.RequestLength.Statement .pendingLimit := by
  intro req h; cases h
theorem Sys2Proof.Laws.RequestLength.prechillPhaseExpiry : Sys2Proof.Laws.RequestLength.Statement .prechillPhaseExpiry := by
  intro req h; cases h
theorem Sys2Proof.Laws.RequestLength.heatPhaseExpiry : Sys2Proof.Laws.RequestLength.Statement .heatPhaseExpiry := by
  intro req h; cases h
theorem Sys2Proof.Laws.RequestLength.dripPhaseExpiry : Sys2Proof.Laws.RequestLength.Statement .dripPhaseExpiry := by
  intro req h; cases h
theorem Sys2Proof.Laws.RequestLength.recoverPhaseExpiry : Sys2Proof.Laws.RequestLength.Statement .recoverPhaseExpiry := by
  intro req h; cases h
theorem Sys2Proof.Laws.RequestLength.coilS3Report : Sys2Proof.Laws.RequestLength.Statement .coilS3Report := by
  intro req h; cases h
theorem Sys2Proof.Laws.RequestLength.coilRecovery : Sys2Proof.Laws.RequestLength.Statement .coilRecovery := by
  intro req h; cases h
theorem Sys2Proof.Laws.RequestLength.coilRecoveryCutShort : Sys2Proof.Laws.RequestLength.Statement .coilRecoveryCutShort := by
  intro req h; cases h
theorem Sys2Proof.Laws.RequestLength.deadlineFallsDue : Sys2Proof.Laws.RequestLength.Statement .deadlineFallsDue := by
  intro req h; cases h
theorem Sys2Proof.Laws.RequestLength.noticeRaise (kind : Sys2Proof.Notice) : Sys2Proof.Laws.RequestLength.Statement (.noticeRaise kind) := by
  intro req h; cases h
theorem Sys2Proof.Laws.RequestLength.characterReceived (b : Sys2Proof.Byte) : Sys2Proof.Laws.RequestLength.Statement (.characterReceived b) := by
  intro req h; cases h
theorem Sys2Proof.Laws.RequestLength.driveReceiverByte (c : Sys2Proof.DriveChar) : Sys2Proof.Laws.RequestLength.Statement (.driveReceiverByte c) := by
  intro req h; cases h
theorem Sys2Proof.Laws.RequestLength.damperStep : Sys2Proof.Laws.RequestLength.Statement .damperStep := by
  intro req h; cases h
theorem Sys2Proof.Laws.RequestLength.valveStep : Sys2Proof.Laws.RequestLength.Statement .valveStep := by
  intro req h; cases h
theorem Sys2Proof.Laws.RequestLength.pwmPeriodBoundary : Sys2Proof.Laws.RequestLength.Statement .pwmPeriodBoundary := by
  intro req h; cases h
end

