-- ==== Sys2Proof/Tests/Slice0.lean ====
section
/-! SUPPORT. The model's own tests: the refusals of well-formedness, the manual's worked examples, and for each statement
with hypotheses a state and operands that meet them, clause by clause. Each example names the section it is taken from. -/

namespace Sys2Proof.Tests

open Sys2Proof.Machine Sys2Proof.Safety

/-! ### Helpers -/

/-- The state after a command. -/
def after (c : Instr) (s : State) : State :=
  match exec c s with
  | .next t => t
  | _ => s

def withEvents (l : List Handoff) (s : State) : State := { s with events := l }
def withLink (l : LinkPort) : State := { State.reset with link := l }
def withArb (a : Arbiter) : State := { State.reset with arb := a }
def withAir (a : Air) : State := { State.reset with air := a }
def inPhase (p : Phase) (s : State) : State := { s with defrost := { s.defrost with phase := p } }
def inPath (p : PathState) : State := withArb { State.reset.arb with state := p, inhibitRunning := false }

/-- A state with the expiry of `k` in flight. -/
def withExpiry (k : DeadlineKey) (s : State) : State := { s with time := { s.time with expiries := [⟨k, ⟨0, 0⟩⟩] } }

/-- A state at an instant with nothing in the deadline list. -/
def at_ (uptime ms : Nat) : State := { State.reset with time := ⟨uptime, ms, [], []⟩ }

/-- A state whose channel `c` has the state `st` and F. -/
def sensing (c : Channel) (st : ChannelState) (f : Int) : State :=
  { State.reset with meas := { State.reset.meas with
      channels := State.reset.meas.channels.set c { resetChannel 2 with state := st, f := f } } }

/-- A state in which CHILL is out of TRANSIT, with the damper and the flap at rest. -/
def settled : State :=
  { State.reset with
    map := { State.reset.map with step := none, target := none, startUp := false }
    air := { State.reset.air with damperMotion := .atRest, flapSide := some .fresh } }

/-- A state with one more hold, 3/1, in a zone: the zone's BASE hold is SHADOWED under it unless it has lapsed (R5). -/
def holding (z : Zone) (k : HoldKind) (st : HoldState) : State :=
  let base : HoldState := if st.isLapsed then .effective else .shadowed
  let b := State.reset.holds.put (baseSlot z) ((State.reset.holds.at (baseSlot z)).map fun h => { h with state := base })
  let t := b.put 3 (some { resetBase 3 z (-200) 10 with kind := k, state := st, priority := 4 })
  { settled with holds := { t with lists := t.lists.set z (⟨3, 1⟩ :: t.lists.get z) } }

/-- A state whose 24 slots are occupied. -/
def fullTable : State :=
  { settled with holds := { settled.holds with
      slots := settled.holds.slots.map fun sl => { sl with hold := some (resetBase 0 .fresh 30 10) } } }

def withMains (m : Mains) : State := { State.reset with meas := { State.reset.meas with mains := m } }

def withDoor (d : Door) (r : DoorRec) (s : State) : State := { s with doors := { s.doors with recs := s.doors.recs.set d r } }

def withDrive (d : DriveLink) (s : State) : State := { s with drive := d }

/-! ### Well-formedness: an ill-formed term for each check -/

theorem test_wf_refuses_a_count_above_the_adc : (Instr.channelConversion .s0 4096).wellFormed = false := by decide
theorem test_wf_refuses_a_mains_count_above_the_adc : (Instr.mainsSample 4096).wellFormed = false := by decide
theorem test_wf_refuses_a_slot_outside_the_open_slots :
    (Instr.holdExpiry 2).wellFormed = false ∧ (Instr.holdExpiry 24).wellFormed = false := by decide
theorem test_wf_admits_the_ends_of_the_ranges :
    (Instr.channelConversion .s0 4095).wellFormed = true ∧ (Instr.holdExpiry 3).wellFormed = true ∧
      (Instr.holdExpiry 23).wellFormed = true := by decide

/-! ### The manual's worked examples -/

/-- R8's four values. -/
theorem test_quantise : [32, 33, -32, -33].map quantise = [30, 35, -30, -35] := by decide

/-- Section 6.2, Worked conversions. -/
theorem test_worked_conversions :
    [48, 1000, 2048, 2175, 3010, 4047].map (interpolate (breakpoint [] .s2)) = [666, 237, 20, -2, -157, -479] ∧
      badKind 47 = some .short ∧ badKind 4048 = some .open_ := by decide

/-- Section 6.3, a correction on the freezer channel: the reply to the write, then counts 3010 and 3300. -/
theorem test_correction_example :
    let s := { State.reset with meas := { State.reset.meas with corrections := [none, none, some ⟨.s2, 13, -225⟩, none] } }
    let t := after (.correctionSet 0 1 2 12 (-166)) s
    [3010, 3300].map (interpolate (breakpoint t.meas.corrections .s2)) = [-154, -219] ∧
      (after (.correctionSet 1 1 2 12 (-160)) { t with link := s.link }).link.reply = some ⟨.duplicate, false, []⟩ ∧
      (after (.correctionSet 0 1 2 12 (-110)) { t with link := s.link }).link.reply = some ⟨.nonmonotonic, false, []⟩ ∧
      (after (.correctionSet 0 0 0 0 0) { t with link := s.link }).meas.corrections = s.meas.corrections := by
  decide +kernel

/-- Section 6.4, how the filter settles: F toward 50 with shift 3, and from -10 toward -14. -/
theorem test_filter_example :
    let go (v f : Int) := f + filterStep 3 (v - f)
    [30, 33, 35, 37, 39, 40, 41, 46, 47].map (go 50) = [33, 35, 37, 39, 40, 41, 42, 47, 47] ∧
      [-10, -11].map (go (-14)) = [-11, -11] := by decide

/-- Section 1.4, bounds applied in turn: a BOOST at -253 with half-band 12 and an EASE at -200 on FREEZE. -/
theorem test_bounds_example :
    let s := after (.holdOpen 2 1 (-253) 12 4 0 0 0) State.reset
    let e := after (.holdOpen 2 2 (-200) 12 4 0 0 0) State.reset
    (s.holds.at 3).map (fun h => (h.target, h.halfBand)) = some (-240, 10) ∧
      s.link.reply = some ⟨.ok, true, [3, 1, 0]⟩ ∧
      (e.holds.at 3).map (·.target) = some (-180) ∧ e.link.reply.map (·.clamped) = some true := by
  decide +kernel

/-- Section 1.8, counting across a lapse: hold 6/1 over two seconds, and the BASE hold over the third. -/
theorem test_compliance_example :
    let h := { resetBase 6 .freeze (-220) 10 with
      kind := .boost, lapseOnReach := true, figures := ⟨false, 12, 59, 8, 30, false⟩ }
    let h1 := h.complied (-205) true false
    let b := resetBase 2 .freeze (-180) 15
    h1.figures = ⟨false, 13, 0, 8, 30, false⟩ ∧ h1.lapsesByReach (-210) true = true ∧
      (h1.complied (-210) true false).figures = ⟨true, 13, 1, 8, 30, false⟩ ∧
      (b.complied (-210) true false).figures = ⟨false, 0, 1, 0, 1, false⟩ := by decide

/-- Section 1.9: the HOLD OPEN taken at uptime 5000. -/
theorem test_hold_open_sequence :
    let t := after (.holdOpen 0 1 15 10 4 5 120 0) (at_ 5000 0)
    t.time.deadlines = [⟨.holdExpiry 3, ⟨12200, 0⟩⟩] ∧ t.link.reply = some ⟨.ok, false, [3, 1, 0]⟩ ∧
      t.holds.lists.fresh = [⟨3, 1⟩, ⟨0, 1⟩] ∧ (t.holds.at 0).map (·.state) = some .shadowed := by decide +kernel

/-- R3: a generation of 255 is followed by 1. -/
theorem test_generation_wraps : nextGeneration 255 = 1 ∧ nextGeneration 1 = 2 := by decide

/-- Section 2.11, uptime 7200: F -159, wait age 420, excess 36, urgency 142. -/
theorem test_zone_sequence :
    let s := sensing .s2 .good (-159)
    let r := { s.zone .freeze with state := .calling, f := -160, waitAge := 419 }
    let t := after (.oneSecondEvaluation .freeze) (withEvents [.oneSecond .freeze (s.reportOf .s2)] (s.setZone .freeze r))
    let z := t.zone .freeze
    (z.state, z.waitAge, z.excess, z.urgency, z.warmCount) = (.calling, 420, 36, 142, 0) ∧
      t.eval.paths.freeze.urgency = 142 ∧ (t.holds.at 2).map (·.figures.effSeconds) = some 1 := by decide +kernel

/-- R125: an evaluation taken after a later conversion uses the F that its report carries. -/
theorem test_report_keeps_its_value :
    let s := sensing .s2 .good (-140)
    let t := after (.oneSecondEvaluation .freeze) (withEvents [.oneSecond .freeze ⟨.s2, .good, -159, some (-159)⟩] s)
    ((t.zone .freeze).f, (t.channel .s2).f) = (-159, -140) := by decide +kernel

/-- R32: a door event that finds S2 FAULTED before F has taken a value keeps the call, though the placeholder 0 lies above
T + H; with a value of 0 taken, the zone calls. -/
theorem test_placeholder_is_not_tested :
    let s := withEvents [.doorToZone .zd .close] (sensing .s2 .faulted 0)
    let v := s.setZone .freeze { s.zone .freeze with placeholder := false }
    ((after (.doorChangeEvaluation .zd) s).zone .freeze).state = .satisfied ∧
      ((after (.doorChangeEvaluation .zd) v).zone .freeze).state = .calling := by decide +kernel

/-- R33: a BLIND calling half written as 30 minutes is not used at the delivery that comes before the zone's next one-second
evaluation, and is used after it. -/
theorem test_written_blind_length_waits :
    let s := sensing .s2 .faulted 0
    let b := after (.settingsWrite 0x0F (30 : BitVec 32))
      (s.setZone .freeze { s.zone .freeze with source := .blind, half := some .idle })
    let e := after (.oneSecondEvaluation .freeze) (withEvents [.oneSecond .freeze (b.reportOf .s2)] b)
    let due (s : State) := ((after (.blindHalf .freeze) (withExpiry (.blindHalf .freeze) s)).zone .freeze).blindDue
    (due b, due e) = (some 1200, some 1800) := by decide +kernel

/-- Section 3.6: the derate's two values. -/
theorem test_derate : [399, 400, 415, 429, 430, 436].map ambientDerate = [100, 100, 93, 86, 85, 85] := by decide

/-- Section 3.6, a BOOST floor against a hot kitchen: target 75, and the first and last slew steps. -/
theorem test_speed_example :
    let s := sensing .s5 .good 436
    let s := { s with eval := { s.eval with paths := ⟨⟨850, false, some 75⟩, ⟨0, false, none⟩⟩ } }
    s.targetOn .fresh = 75 ∧ [40, 45, 70, 75].map (fun v => slew v 75) = [45, 50, 75, 75] ∧ slew 75 60 = 70 := by
  decide +kernel

/-- Section 3.9, the way through a fault and a sag: the rows 10000, 10250, 10400 and 10580. -/
theorem test_fault_and_sag_example :
    let s := withDrive { State.reset.drive with last := some ⟨9, 60⟩ }
      { at_ 10000 0 with arb := { State.reset.arb with state := .runFreeze, speed := 60, inhibitRunning := false } }
    let f := after (.statusFrame 9 0 7 (0 - 16)) s
    let g := after .arbiterSag { f with time := { f.time with uptime := 10250 }, events := [.mains .sag] }
    let n := after .arbiterNormal { g with time := { g.time with uptime := 10400 }, events := [.mains .normal] }
    let r := after .recoveryStage { n with time := ⟨10580, 0, [], [⟨.stage, ⟨10580, 0⟩⟩]⟩ }
    (f.arb.state, f.arb.stack, f.arb.faultCount) = (.halted .fault, [.path .runFreeze], 1) ∧
      f.time.deadlines = [⟨.inhibit, ⟨10300, 0⟩⟩, ⟨.stage, ⟨10600, 0⟩⟩] ∧
      g.arb.stack = [.holdoff 350, .path .runFreeze] ∧ g.time.deadlines = [⟨.inhibit, ⟨10300, 0⟩⟩] ∧
      n.time.deadlines = [⟨.inhibit, ⟨10300, 0⟩⟩, ⟨.stage, ⟨10580, 0⟩⟩] ∧
      r.arb.state = .halted .fault ∧ r.time.deadlines = [⟨.stage, ⟨10930, 0⟩⟩] := by decide +kernel

/-- R96's table, row by row. -/
theorem test_interval_adaptation :
    adaptInterval 86400 .termination false 480 = 108000 ∧ adaptInterval 86401 .termination false 599 = 108001 ∧
      adaptInterval 240000 .termination false 300 = 259200 ∧ adaptInterval 86400 .termination false 600 = 86400 ∧
      adaptInterval 86400 .expiry false 2400 = 43200 ∧ adaptInterval 43201 .expiry false 2400 = 21600 ∧
      adaptInterval 30000 .expiry false 2400 = 21600 ∧ adaptInterval 86400 .expiry true 1500 = 86400 := by decide

/-- Section 5.5's table of damper targets. -/
theorem test_damper_law :
    let s (excess : Nat) : State := { settled with
      eval := { settled.eval with demand := true
                                  zones := settled.eval.zones.set .chill { settled.zone .chill with excess := excess } } }
    [1, 10, 20, 35, 36].map (fun e => damperLaw (s e)) = [128, 200, 280, 400, 400] := by decide +kernel

/-- R155: a set duty of 60 does not reach PFF before the period boundary; after it the output is active in the places 40 to
159 of the period's 200. -/
theorem test_fan_output_takes_the_set_duty_at_the_boundary :
    let s := withAir { State.reset.air with ff := 60 }
    let t := after .pwmPeriodBoundary s
    (List.range 200).all (fun k => !s.pff k) = true ∧
      (t.pff 39, t.pff 40, t.pff 159, t.pff 160, t.pzf 100) = (false, true, true, false, false) := by decide +kernel

/-- Section 8.8: FF 78 at urgency 450 and CF 52 at S5 286 in RUN_FRESH. -/
theorem test_fan_laws :
    let s := sensing .s5 .good 286
    let s := { s with
      straps := ⟨false, true⟩, air := { s.air with path := .runFresh }
      eval := { s.eval with paths := ⟨⟨450, false, none⟩, ⟨0, false, none⟩⟩ } }
    (ffLaw s, cfLaw s s.ambient, zfLaw s) = (78, 52, 0) := by decide +kernel

/-- Section 8.8, line 196: with PUMPDOWN entered and its hand-off not yet taken, an S5 report leaves FF at 78; the taken change
makes it 0. -/
theorem test_air_sees_the_state_it_took :
    let s := sensing .s5 .good 286
    let s := { s with
      air := { s.air with path := .runFresh }, arb := { s.arb with state := .pumpdown, inhibitRunning := false }
      eval := { s.eval with paths := ⟨⟨450, false, none⟩, ⟨0, false, none⟩⟩ }
      events := [.airPathState false, .airS5 (s.reportOf .s5)] }
    let t := after (.airRecompute .s5Report) s
    (t.air.ff, (after (.airRecompute .pathState) t).air.ff) = (78, 0) := by decide +kernel

/-- R160: with the delivery of FAN_DELAY and the departure both arrived and the delivery taken first, ZF is set to 100 and then
to 0. -/
theorem test_fan_delay_before_the_departure :
    let s : State := { State.reset with
      air := { State.reset.air with path := .runFreeze, fanDelay := some .active }
      time := ⟨90, 0, [], [⟨.fanDelay, ⟨90, 0⟩⟩]⟩, events := [.airPathState false] }
    let t := after .fanDelay s
    (t.air.zf, (after (.airRecompute .pathState) t).air.zf) = (100, 0) := by decide +kernel

/-- Section 7.2, bounce and a glitch: the samples of 0 to 100 ms. -/
theorem test_bounce_example :
    let go (l : List Level) : State := l.foldl (fun s x => after (.doorSample .zd x x x) s) State.reset
    let first : List Level := [.high, .high, .low, .high, .high, .high, .high, .high, .high, .high]
    ((go first).door .zd).run = 7 ∧ ((go first).door .zd).level = .low ∧
      ((go (first ++ [.high])).door .zd).state = .opened ∧ ((go (first ++ [.high])).door .zd).run = 0 := by
  decide +kernel

/-- Section 7.7, uptime 41,000: ZD opens, count 58, DOOR_AJAR due at 41,120. -/
theorem test_door_opens :
    let s := withDoor .zd ⟨.low, 7, .closed, some 40010, some 12, true, false, 57⟩ (at_ 41000 0)
    let t := after (.doorSample .zd .high .high .low) s
    t.door .zd = ⟨.high, 0, .opened, some 41000, some 12, true, false, 58⟩ ∧
      t.time.deadlines = [⟨.doorAjar .zd, ⟨41120, 0⟩⟩] := by decide +kernel

/-- Section 9.3, the list through the start of a freezer run: the five entries at 5000.400. -/
theorem test_deadline_list_example :
    let s := { at_ 5000 400 with
      arb := { State.reset.arb with startPath := some .freeze, inhibitRunning := false, valveTarget := 120 }
      time := ⟨5000, 400, [⟨.holdExpiry 3, ⟨5600, 0⟩⟩], []⟩
      events := [.valveToArbiter 120] }
    let s := { s with meas := (sensing .s4 .good (-20)).meas }
    (after (.airRecompute .pathState) (after .startCompletion s)).time.deadlines
      = [⟨.speedStep, ⟨5010, 400⟩⟩, ⟨.fanDelay, ⟨5090, 400⟩⟩, ⟨.dwellMin, ⟨5240, 400⟩⟩, ⟨.holdExpiry 3, ⟨5600, 0⟩⟩,
        ⟨.dwellMax, ⟨6800, 400⟩⟩] := by decide +kernel

/-- Section 10.8: the NOTICE NEXT frame, its reply, and a SYSTEM QUERY frame that arrives while the reply is being sent. -/
theorem test_notice_round :
    let s := { State.reset with notice := ⟨0x42, 0x7FF, true⟩ }
    let t := after .replyStart (after .noticeNext
      (([0x5C, 0x01, 0x50, 0xAF].foldl (fun s b => after (.characterReceived b) s) s)))
    let o := [0x5C, 0x01, 0x02, 0xFD].foldl (fun s b => after (.characterReceived b) s) t
    t.link.tx = [0x5D, 0x03, 0x00, 0x02, 0x02, 0xF9] ∧ t.notice = ⟨0x40, 0x7FF, true⟩ ∧
      o.link.overrun = true ∧ o.link.tx = t.link.tx ∧
      ((after .replyStart (after .systemQuery (after (.replySent ⟨false, false⟩) o))).link.tx[3]?) = some 0x03 := by
  decide +kernel

/-- Section 10.8: NOTICE ENABLE with mask 07BFh while DOOR_AJAR is pending. -/
theorem test_notice_enable_example :
    let t := after (.noticeEnable 0x07BF) { State.reset with notice := ⟨0x40, 0x7FF, true⟩ }
    t.link.reply = some ⟨.ok, false, [0xBF, 0x07, 0x40, 0x00]⟩ ∧ t.notice.attn = false := by decide +kernel

/-- R163, R93: an arrival is handed to the arbiter and to the defrost controller; the one at the FRESH end in RELEASE makes the
phase HEAT, though the target CLOSED of a halt waits for the air handler. -/
theorem test_arrival_ends_release :
    let s : State := inPhase .release { inPath (.halted .sag) with
      air := { State.reset.air with valveTarget := 0, valvePos := 0, valveMotion := .moving } }
    let t := after .valveArrival s
    t.events = [.valveToArbiter 0, .valveToDefrost 0] ∧ t.arb.valveTarget = 60 ∧
      (after .releaseEnd t).defrost.phase = .heat := by decide +kernel

/-- R179: a LENGTH frame, from COUNT, leaves the receiver in DRAIN; a CHECK frame leaves it as it is. -/
theorem test_length_frame_drains :
    (after (.frameRefused .lengthFrame) State.reset).link.rx = .drain ∧
      (after (.frameRefused .check) State.reset).link.rx = .hunt := by decide +kernel

/-- R178: 5Ch on the line is a low start bit, 0 0 1 1 1 0 1 0, and a high stop bit; a single wrong sample is outvoted, a start
bit that does not last is discarded, and a low stop bit is a framing error. -/
theorem test_line_decides_its_bits :
    let l : Level := .low
    let h : Level := .high
    let sent := sampled (characterLevels 0x5C)
    characterLevels 0x5C = [l, l, l, h, h, h, l, h, l, h] ∧ lineCommands ([h, h] ++ sent) = [.characterReceived 0x5C] ∧
      lineCommands (sent.set (16 * 3 + 7) l) = [.characterReceived 0x5C] ∧
      lineCommands ((sent.set (16 * 3 + 7) l).set (16 * 3 + 8) l) = [.characterReceived 0x58] ∧
      lineCommands (List.replicate 6 l ++ List.replicate 30 h) = [] ∧
      lineCommands (sampled [l, l, l, h, h, h, l, h, l, l]) = [.framingError] := by decide +kernel

/-- R200 and State.reset agree: a power-on reset with both straps low and an image never written leaves State.reset. -/
theorem test_power_on_reset_leaves_reset : after (.powerOnReset ⟨false, false⟩) (at_ 77 5) = State.reset := by
  decide +kernel

/-! ### Witnesses: a state and operands that meet the hypotheses of each statement, clause by clause -/

theorem witness_StepRunsTheFrontCommand : { State.reset with pending := [.ident, .restart] }.pending = .ident :: [.restart] := rfl

theorem witness_EveryCommandAnswersAndKeepsTheQueue :
    inFlight .arbiterReview State.reset = false ∧
      ((∀ x, Instr.ident ≠ .powerOnReset x) ∧ (∀ x, Instr.ident ≠ .uptimeWrapRestart x) ∧ ∀ x, Instr.ident ≠ .replySent x) :=
  ⟨by decide, nofun, nofun, nofun⟩

/-- An entry due at the present instant, one due a millisecond later, and the cases of the idle step: a flap drive at its end and a
millisecond before, a store at 400 ms and at 399, and the three cases of the clock. -/
theorem witness_TheClockMovesAndDueEntriesLeave :
    let flap (ends : Instant) : State := { at_ 4 0 with air := { State.reset.air with flapMotion := .moving .fresh ends } }
    let store (began : Instant) : State :=
      { at_ 4 399 with store := ⟨none, some ⟨Config.factoryContents, began⟩, true⟩ }
    (⟨300, 0⟩ : Instant).toMs ≤ (at_ 300 0).now.toMs ∧ (at_ 299 999).now.toMs < (⟨300, 0⟩ : Instant).toMs ∧
      State.reset.time.deadlines = [⟨.inhibit, ⟨300, 0⟩⟩] ∧ State.reset.pending = [] ∧
      (∀ d ∈ State.reset.time.deadlines.head?, State.reset.now.toMs < d.due.toMs) ∧
      (flap ⟨4, 0⟩).air.flapMotion = .moving .fresh ⟨4, 0⟩ ∧ (⟨4, 0⟩ : Instant).toMs ≤ (flap ⟨4, 0⟩).now.toMs ∧
      ¬ (⟨4, 1⟩ : Instant).toMs ≤ (flap ⟨4, 1⟩).now.toMs ∧
      (⟨3, 999⟩ : Instant).toMs + 400 ≤ (store ⟨3, 999⟩).now.toMs ∧ ¬ (⟨4, 0⟩ : Instant).toMs + 400 ≤ (store ⟨4, 0⟩).now.toMs ∧
      (store ⟨4, 0⟩).air.flapMotion = .atRest ∧ State.reset.store.writing = none ∧ (at_ 0 998).time.ms < 999 ∧
      (at_ 4294967294 999).time.uptime < 4294967295 ∧ 999 ≤ (at_ 4294967295 999).time.ms ∧
      (∀ d ∈ (at_ 4294967295 999).time.deadlines.head?, (at_ 4294967295 999).now.toMs < d.due.toMs) := by decide +kernel

/-- A request that comes to a free port. -/
theorem witness_RequestFrameReachesItsBlock :
    requestBytes (.holdRetire 3 1) = some [0x12, 3, 1] ∧ State.reset.link.rx = .hunt ∧ State.reset.link.port = .idle := by
  decide +kernel

theorem witness_ReceiverMovesByItsTable :
    let at1 (rx : RxState) : State := withLink { State.reset.link with rx := rx }
    State.reset.link.rx = .hunt ∧ (at1 .count).link.rx = .count ∧ (1 ≤ (1 : Byte).toNat ∧ (60 : Byte).toNat ≤ 60) ∧
      ((0 : Byte).toNat = 0 ∧ 60 < (61 : Byte).toNat) ∧ (at1 (.body 2 [1])).link.rx = .body 2 [1] ∧
      ([1] : List Byte).length < 2 ∧ (at1 (.body 1 [1])).link.rx = .body 1 [1] ∧ 1 ≤ ([1] : List Byte).length ∧
      (at1 .drain).link.rx = .drain ∧
      (withLink ⟨.count, .sending, false, none, none, [], false⟩).link.port ≠ .idle := by decide +kernel

/-- A bad CHECK, an unknown code, a wrong length and a good IDENT, at an IDLE port; and a busy port, with a request that is not
the one waiting. -/
theorem witness_CompleteFrameIsJudgedByRows :
    let at1 (p : PortState) : State := withLink { State.reset.link with rx := .body 1 [0x01], port := p }
    let s := withLink ⟨.hunt, .serving, false, some [0x01], none, [], false⟩
    (at1 .idle).link.rx = .body 1 [0x01] ∧ ([0x01] : List Byte).length = 1 ∧ (at1 .idle).link.port = .idle ∧
      (at1 .sending).link.port ≠ .idle ∧ byteOf 1 + byteSum ([0x01] ++ [0x00]) ≠ 0 ∧
      byteOf 1 + byteSum ([0x70] ++ [0x8F]) = 0 ∧ requestLen (([0x70] ++ [0x8F]).headD 0) = none ∧
      byteOf 1 + byteSum ([0x12] ++ [0xED]) = 0 ∧ requestLen (([0x12] ++ [0xED]).headD 0) = some 3 ∧
      byteOf 1 + byteSum ([0x01] ++ [0xFE]) = 0 ∧ requestLen (([0x01] ++ [0xFE]).headD 0) = some 1 ∧
      s.link.port ≠ .idle ∧ requestBytes .restart = some [0x03] ∧ s.link.request ≠ some [0x03] := by decide +kernel

theorem witness_ReplyStartSendsTheFrame :
    let s := withLink ⟨.hunt, .serving, true, none, some ⟨.ok, true, [7]⟩, [], false⟩
    s.link.port = .serving ∧ s.link.reply = some ⟨.ok, true, [7]⟩ := by decide +kernel

theorem witness_ReplySentEndsTheRequest :
    let s (r : Bool) := withLink ⟨.hunt, .sending, false, none, none, [], r⟩
    Taken .restart State.reset ∧ (s true).link.port = .sending ∧ (s false).link.restarting = false ∧
      (s true).link.restarting = true := by decide +kernel

/-- Each query's codes at the ends of their ranges, an entry of a list, a correction of S5, and the last item that is a number,
the first pair and the last. -/
theorem witness_QueriesAnswerAndChangeNothing :
    Taken .ident State.reset ∧
    Taken .systemQuery State.reset ∧ Taken (.zoneQuery 2) State.reset ∧ zoneOf 2 = some .freeze ∧ 2 < (3 : Byte).toNat ∧
      Taken (.holdQuery 0 1) State.reset ∧ (State.reset.holds.named ⟨0, 1⟩).isSome = true ∧
      State.reset.holds.named ⟨0, 2⟩ = none ∧ Taken (.holdList 0) State.reset ∧ Taken (.sensorQuery 5) State.reset ∧
      channelOf 5 = some .s5 ∧ (6 : Byte).toNat = 6 ∧ 6 < (7 : Byte).toNat ∧ Taken (.settingsRead 0x21) State.reset ∧
      (itemOf 0x21).isSome = true ∧ 0x21 < (0x22 : Byte).toNat ∧ (0x1C : Byte).toNat = 28 ∧
      (0x1D : Byte).toNat = 0x1D + 0 ∧ (0x21 : Byte).toNat = 0x1D + 4 ∧
      (State.reset.holds.lists.get .fresh)[0]? = some ⟨0, 1⟩ ∧
      (correctionsOf [none, none, none, some ⟨.s5, 16, -3⟩] .s5)[0]? = some (3, ⟨.s5, 16, -3⟩) := by decide +kernel

/-- HOLD OPEN: undefined codes at the first value outside, BASE, EASE with a floor, CHILL in TRANSIT, and a full table.
HOLD AMEND: a name of no record, a lapsed hold, BASE and EASE with barred fields, and CHILL in TRANSIT. -/
theorem witness_HoldRequestsAreCheckedInOrder :
    Taken (.holdOpen 2 1 0 0 0 0 0 0) State.reset ∧ 2 < (3 : Byte).toNat ∧ (2 : Byte).toNat ≤ 2 ∧ (0 : Byte).toNat = 0 ∧
      (2 : Byte).getLsbD 1 = true ∧ State.reset.map.step ≠ none ∧ settled.map.step = none ∧
      (∀ sl ∈ fullTable.holds.slots, sl.hold ≠ none) ∧ fullTable.map.step = none ∧
      Taken (.holdAmend 3 1 4 0 0 0 0 0 0) (holding .fresh .boost (.lapsed .expired)) ∧
      State.reset.holds.named ⟨3, 1⟩ = none ∧
      ((holding .fresh .boost (.lapsed .expired)).holds.named ⟨3, 1⟩).map (·.state.isLapsed) = some true ∧
      (State.reset.holds.named ⟨0, 1⟩).map (fun h => (h.state.isLapsed, h.kind)) = some (false, .base) ∧
      (4 : Byte).getLsbD 2 = true ∧ (0x10 : Byte).getLsbD 4 = true ∧
      ((holding .fresh .ease .effective).holds.named ⟨3, 1⟩).map (fun h => (h.state.isLapsed, h.kind)) = some (false, .ease) ∧
      (State.reset.holds.named ⟨1, 1⟩).map (fun h => (h.state.isLapsed, h.zone)) = some (false, .chill) := by decide +kernel

theorem witness_HoldOpenCreatesTheRecord :
    Taken (.holdOpen 2 1 (-253) 12 4 7 120 75) State.reset ∧ zoneOf 2 = some .freeze ∧ kindOf 1 = some .boost ∧
      HoldKind.boost ≠ .base ∧ (HoldKind.boost = .ease → (7 : Byte).getLsbD 1 = false ∧ (7 : Byte).getLsbD 2 = false) ∧
      (Zone.freeze = .chill → State.reset.map.step = none) ∧ State.reset.holds.slots[3]? = some ⟨1, none⟩ ∧
      (∀ j < 3, (State.reset.holds.at j).isSome = true) := by decide +kernel

theorem witness_HoldAmendChangesTheNamedFields :
    let s := holding .freeze .boost .effective
    let h := { resetBase 3 .freeze (-200) 10 with kind := .boost, state := .effective, priority := 4 }
    let r : State := { s with holds := s.holds.put 3 (some { h with figures := ⟨true, 1, 2, 0, 3, false⟩ }) }
    Taken (.holdAmend 3 1 0x3F (-215) 10 5 30 60 1) s ∧ BaseSafe s ∧ s.holds.named ⟨3, 1⟩ = some h ∧
      h.state.isLapsed = false ∧ h.kind = .boost ∧ h.zone = .freeze ∧ BaseSafe r ∧
      (r.holds.named ⟨3, 1⟩).map (fun x => (x.figures.reached, x.state.isLapsed)) = some (true, false) ∧
      BaseSafe (holding .chill .ease .effective) ∧ (holding .chill .ease .effective).map.step = none := by decide +kernel

theorem witness_HoldRetireFreesTheSlot :
    let s := holding .freeze .boost (.lapsed .reached)
    Taken (.holdRetire 3 1) s ∧ BaseSafe s ∧ s.holds.named ⟨3, 2⟩ = none ∧
      (s.holds.named ⟨0, 1⟩).map (·.kind) = some .base ∧ (s.holds.named ⟨3, 1⟩).map (·.kind) = some .boost := by
  decide +kernel

theorem witness_HoldExpiryLapsesTheHold :
    let s := withExpiry (.holdExpiry 3) (holding .freeze .boost .effective)
    let t := withExpiry (.holdExpiry 3) (holding .freeze .boost (.lapsed .reached))
    Delivers s (.holdExpiry 3) ⟨0, 0⟩ ∧ (s.holds.at 3).map (·.state.isLapsed) = some false ∧
      Delivers t (.holdExpiry 3) ⟨0, 0⟩ ∧ (t.holds.at 3).map (·.state.isLapsed) = some true := by decide +kernel

/-! A state that meets every invariant and has a next state: five seconds after reset, with nothing in the list. -/

theorem witness_a_step_five_seconds_after_reset : step (at_ 5 0) = .next (at_ 5 1) := rfl

/-- R2: a second BASE hold of a zone is outside the invariant of the hold table, and so is a generation of 0. -/
theorem test_second_base_is_no_hold_table :
    ¬ BaseSafe (holding .chill .base .effective) ∧
      ¬ BaseSafe { settled with holds := { settled.holds with slots := settled.holds.slots.set 23 ⟨0, none⟩ } } := by
  decide +kernel

theorem witness_EveryStepKeepsTheHoldTable : BaseSafe (at_ 5 0) := by decide +kernel

theorem witness_EveryStepKeepsTheDamperShutWhileTheFlapMoves : DamperSafe (at_ 5 0) := by decide +kernel

/-- In HEAT. -/
theorem witness_EveryStepKeepsRefrigerantOffAHeatedCoil : CoilSafe (inPhase .heat (at_ 5 0)) := by decide +kernel

theorem witness_EveryStepKeepsHeaterRangesAndAttn :
    HeaterSafe (at_ 5 0) ∧ (DefrostSafe (at_ 5 0) ∧ AttnSafe (at_ 5 0)) := by decide +kernel

theorem witness_EveryStepKeepsSpeedAndStack : SpeedSafe (at_ 5 0) ∧ StackSafe (at_ 5 0) := by decide +kernel

theorem witness_EveryStepKeepsTheDeadlineListOrdered : DeadlinesSafe (withExpiry .stage State.reset) := by decide +kernel

theorem witness_EveryStepKeepsTheZoneRecords : UrgencySafe (at_ 5 0) ∧ TransitSafe (at_ 5 0) := by decide +kernel

/-- A change for a zone whose F is a placeholder, for one that is judged, and for CHILL in TRANSIT. -/
theorem witness_HoldChangeIsStored :
    let g : Governing := ⟨⟨3, 1⟩, -200, 10, .boost, some 60, 4⟩
    let s := withEvents [.holdChange .freeze g] (sensing .s2 .good (-150))
    let v := s.setZone .freeze { s.zone .freeze with placeholder := false, f := -150 }
    let t := withEvents [.holdChange .chill g] State.reset
    takeFirst (holdChangeOf .freeze) s.events = some (g, []) ∧ (s.zone .freeze).state ≠ .transit ∧
      (s.zone .freeze).placeholder = true ∧ takeFirst (holdChangeOf .freeze) v.events = some (g, []) ∧
      (v.zone .freeze).state ≠ .transit ∧ (v.zone .freeze).placeholder = false ∧
      takeFirst (holdChangeOf .chill) t.events = some (g, []) ∧ (t.zone .chill).state = .transit := by decide +kernel

/-- Each source of R35: a usable sensor, one in SEEDING, a usable fallback, and none; and the changes of R37, from BLIND and
from FALLBACK to SENSED. -/
theorem witness_OneSecondEvaluationSettlesTheZone :
    let rep (st : ChannelState) (f : Int) : Report := ⟨.s2, st, f, some f⟩
    let s (z : Zone) (r : Report) (src : Source) : State := withEvents [.oneSecond z r]
      (settled.setZone z { settled.zone z with source := src, half := if src = .blind then some .idle else none })
    let freeze (st : ChannelState) (src : Source) := s .freeze (rep st (-165)) src
    let faulty : State := { s .chill ⟨.s0, .good, 5, some 5⟩ .fallback with
      meas := { State.reset.meas with channels := State.reset.meas.channels.set .s1 { resetChannel 3 with state := .faulted } } }
    takeFirst (oneSecondOf .freeze) (freeze .suspect .sensed).events = some (rep .suspect (-165), []) ∧
      sourceDue (seenWith (rep .suspect (-165)) (freeze .suspect .blind)) (settled.entry .freeze) 7 = (.sensed, -165) ∧
      sourceDue (seenWith (rep .seeding 0) (freeze .seeding .sensed)) (settled.entry .freeze) 7 = (.sensed, 7) ∧
      sourceDue (seenWith (rep .faulted 0) (freeze .faulted .blind)) (settled.entry .freeze) 7 = (.blind, 7) ∧
      sourceDue (seenWith ⟨.s0, .good, 5, some 5⟩ faulty) (faulty.entry .chill) 7 = (.fallback, -35) ∧
      ((freeze .suspect .blind).zone .freeze).source = .blind ∧
      ((freeze .suspect .fallback).zone .freeze).source = .fallback := by decide +kernel

/-- A count one short of the limit, beyond the margin and not suppressed; inside the band; and a zone that is not tested. -/
theorem witness_OneSecondEvaluationTimesExcursions :
    let rep (st : ChannelState) (f : Int) : Report := ⟨.s0, st, f, some f⟩
    let s (r : Report) (n : Nat) : State := withEvents [.oneSecond .fresh r]
      (settled.setZone .fresh { settled.zone .fresh with warmCount := n, coldCount := n })
    takeFirst (oneSecondOf .fresh) (s (rep .good 71) 1799).events = some (rep .good 71, []) ∧
      sourceDue (seenWith (rep .good 71) (s (rep .good 71) 1799)) (settled.entry .fresh) 0 = (.sensed, 71) ∧
      (settled.zone .fresh).t + (settled.zone .fresh).h + (settled.entry .fresh).warmMargin < 71 ∧
      -11 < (settled.zone .fresh).t - (settled.zone .fresh).h - 30 ∧ suppressedIn (s (rep .good 71) 1799) .fresh = false ∧
      60 * (s (rep .good 71) 1799).eval.excursionTime = 1800 ∧ ((s (rep .good 71) 1799).zone .fresh).warm = false ∧
      (seenWith (rep .seeding 0) (s (rep .seeding 0) 5) .s0).1 = .seeding ∧ (settled.zone .fresh).state ≠ .transit := by
  decide +kernel

/-- A BOOST with lapse-on-reach that reaches its band, and a BASE hold out of band. -/
theorem witness_OneSecondEvaluationCountsTheHold :
    let rep (f : Int) : Report := ⟨.s2, .good, f, some f⟩
    let s := withEvents [.oneSecond .freeze (rep (-190))] (holding .freeze .boost .effective)
    let b : State := { s with holds := s.holds.put 3 ((s.holds.at 3).map fun h => { h with lapseOnReach := true }) }
    let o := withEvents [.oneSecond .freeze (rep (-154))] settled
    takeFirst (oneSecondOf .freeze) b.events = some (rep (-190), []) ∧ BaseSafe b ∧
      (b.effectiveHold .freeze).map (fun h => (h.kind, h.lapseOnReach, h.figures.reached, h.target, h.halfBand))
        = some (.boost, true, false, -200, 10) ∧
      BaseSafe o ∧ (o.effectiveHold .freeze).map (fun h => (h.kind, h.target, h.halfBand)) = some (.base, -180, 15) ∧
      suppressedIn o .freeze = false ∧ (o.zone .freeze).state ≠ .transit := by decide +kernel

/-- A report that finds the sensor FAULTED with no fallback; and a delivery in either half. -/
theorem witness_BlindZoneFollowsItsSchedule :
    let rep : Report := ⟨.s2, .faulted, -165, none⟩
    let s := withEvents [.oneSecond .freeze rep] settled
    let b (h : BlindHalf) : State := withExpiry (.blindHalf .freeze)
      (settled.setZone .freeze { settled.zone .freeze with source := .blind, half := some h })
    takeFirst (oneSecondOf .freeze) s.events = some (rep, []) ∧ (s.zone .freeze).source ≠ .blind ∧
      (seenWith rep s (s.entry .freeze).sensor).1 = .faulted ∧ (s.entry .freeze).fallback = none ∧
      (s.zone .freeze).state ≠ .transit ∧
      Delivers (b .call) (.blindHalf .freeze) ⟨0, 0⟩ ∧ ((b .call).zone .freeze).half = some .call ∧
      Delivers (b .idle) (.blindHalf .freeze) ⟨0, 0⟩ ∧ ((b .idle).zone .freeze).half = some .idle := by decide +kernel

/-- A door of a zone, and, in a map whose CHILL entry has no door, a door of none. -/
theorem witness_DoorEventPausesItsZone :
    let s := withEvents [.doorToZone .zd .open_] State.reset
    let e := { settled.map with active := { settled.map.active with chill := { settled.entry .chill with doors := [] } } }
    let t : State := { settled with map := e, events := [.doorToZone .dr .close] }
    takeFirst (doorEventOf .zd) s.events = some (.open_, []) ∧ s.zoneOfDoor .zd = some .freeze ∧
      takeFirst (doorEventOf .dr) t.events = some (.close, []) ∧ t.zoneOfDoor .dr = none := by decide +kernel

/-- CHILLED asked for and in force, FROZEN asked for with the damper away from 0, with it shut, and SOFT to FROZEN with the
flap already there; an undefined code; a change in progress. -/
theorem witness_RegimeSetBeginsTheChange :
    let wide : State := { settled with air := { settled.air with damperPos := 120, damperTarget := 120 } }
    let soft : State := { settled with
      map := { settled.map with regime := .soft }, air := { settled.air with flapSide := some .freeze } }
    Taken (.regimeSet 2) settled ∧ 2 < (3 : Byte).toNat ∧ regimeOf 2 = some .frozen ∧ regimeOf 0 = some .chilled ∧
      State.reset.map.step ≠ none ∧ settled.map.step = none ∧ settled.map.regime = .chilled ∧
      settled.air.damperMotion = .atRest ∧ settled.air.damperPos = 0 ∧ settled.air.flapSide ≠ some .freeze ∧
      wide.air.damperPos ≠ 0 ∧ soft.map.regime = .soft ∧ soft.map.step = none ∧ soft.air.flapMotion = .atRest ∧
      soft.air.flapSide = some .freeze ∧ soft.air.damperPos = 0 ∧ BaseSafe soft := by decide +kernel

theorem witness_MapSetStoresThePair :
    Taken (.mapSet 1 2 5 (-201)) State.reset ∧ 2 < (3 : Byte).toNat ∧ ¬ ((6 : Byte).toNat ≤ 5 ∨ (6 : Byte).toNat = 255) ∧
      (1 : Byte).toNat = 1 ∧ (2 : Byte).toNat ≤ 2 ∧ (5 : Byte).toNat ≤ 5 ∧ (5 : Byte).toNat ≠ (1 : Byte).toNat ∧
      (255 : Byte).toNat = 255 ∧ channelOf 5 = some .s5 ∧ regimeOf 2 = some .frozen := by decide +kernel

/-- A drive whose 4 s end now and one that ends a millisecond later; the commit of a start-up and of a regime change. -/
theorem witness_FlapArrivalCommitsTheRegime :
    let moving (startUp : Bool) (ends : Instant) : State := { holding .chill .boost (.lapsed .expired) with
      map := { settled.map with step := some .flap, target := some .frozen, startUp := startUp }
      air := { settled.air with flapMotion := .moving .freeze ends } }
    (moving false ⟨0, 1⟩).now.toMs < (⟨0, 1⟩ : Instant).toMs ∧ (⟨0, 0⟩ : Instant).toMs ≤ (moving false ⟨0, 0⟩).now.toMs ∧
      (moving true ⟨0, 0⟩).air.flapMotion = .moving .freeze ⟨0, 0⟩ ∧ (moving true ⟨0, 0⟩).map.step = some .flap ∧
      (moving true ⟨0, 0⟩).map.startUp = true ∧ (moving false ⟨0, 0⟩).map.startUp = false ∧
      ((moving false ⟨0, 0⟩).holds.at 3).map (·.state.isLapsed) = some true ∧
      ((moving false ⟨0, 0⟩).holds.at 1).isSome = true ∧ BaseSafe (moving false ⟨0, 0⟩) ∧
      { settled with air := { settled.air with flapMotion := .moving .freeze ⟨0, 0⟩ } }.map.step ≠ some .flap := by
  decide +kernel

/-- The damper and the valve at rest, moving, at their targets and at the first and last homing steps; in RELEASE, a target
that the arbiter last handed and one that it has replaced. -/
theorem witness_MotorsStepAndReportTheirArrivals :
    let d (m : Motion) (target : Nat) : State :=
      { State.reset with air := { State.reset.air with damperMotion := m, damperTarget := target } }
    let v (m : Motion) (pos : Nat) : State := inPhase .release (withAir { State.reset.air with valveMotion := m, valvePos := pos })
    let late : State := { v .moving 60 with arb := { State.reset.arb with valveTarget := 120 } }
    settled.air.damperMotion = .atRest ∧ (d .moving 5).air.damperMotion = .moving ∧
      (d (.homing 439) 0).air.damperMotion = .homing 439 ∧ (d (.homing 440) 0).air.damperMotion = .homing 440 ∧
      (d (.homing 440) 0).map.step = some .closing ∧ (d (.homing 440) 5).air.damperTarget ≠ 0 ∧
      (d .moving 0).air.damperPos = (d .moving 0).air.damperTarget ∧
      (v .atRest 60).air.valveMotion = .atRest ∧ (v .moving 60).air.valvePos = (v .moving 60).air.valveTarget ∧
      (v .moving 60).air.valveTarget = (v .moving 60).arb.valveTarget ∧ late.air.valveTarget ≠ late.arb.valveTarget ∧
      (v (.homing 139) 0).air.valveMotion = .homing 139 ∧ (v (.homing 200) 60).air.valveMotion = .homing 200 ∧
      ¬ (State.reset.air.flapMotion = .atRest ∧ State.reset.air.flapSide = some State.reset.targetSide) ∧
      (settled.air.flapMotion = .atRest ∧ settled.air.flapSide = some settled.targetSide) ∧ BaseSafe settled := by
  decide +kernel

/-- The ends of the good counts; a run that the third bad conversion ends, in SEEDING and in SUSPECT; the zone whose trigger
channel S2 is. -/
theorem witness_ConversionMovesAndReportsTheChannel :
    let s (st : ChannelState) : State := { State.reset with meas := { State.reset.meas with
      channels := State.reset.meas.channels.set .s2 { resetChannel 2 with state := st, badRun := 2, goodRun := 4 } } }
    (47 < 48 ∧ 4047 < 4048 ∧ 48 ≤ 48) ∧ 3 ≤ ((s .suspect).channel .s2).badRun + 1 ∧
      5 ≤ ((s .recovering).channel .s2).goodRun + 1 ∧ ¬ 3 ≤ (State.reset.channel .s2).badRun + 1 ∧
      [Zone.fresh, .chill, .freeze].filter (fun z => decide (State.reset.eval.trigger.get z = .s2)) = [.freeze] := by
  decide +kernel

/-- An undefined slot and operation; a clear that fits and one that does not; a write that fits, one that repeats another
slot, one out of range and one that breaks the order. -/
theorem witness_CorrectionSetIsCheckedAndWritten :
    let a : List (Option Correction) := [some ⟨.s2, 12, -230⟩, none, some ⟨.s2, 13, -235⟩, none]
    Taken (.correctionSet 0 1 2 12 (-166)) State.reset ∧ 3 < (4 : Byte).toNat ∧ 1 < (2 : Byte).toNat ∧
      channelOf 2 = some .s2 ∧ 5 < (6 : Byte).toNat ∧ 16 < (17 : Byte).toNat ∧ (16 : Byte).toNat ≤ 16 ∧
      (∀ i < 16, breakpoint (a.set 0 none) .s2 (i + 1) < breakpoint (a.set 0 none) .s2 i) ∧
      ¬ (∀ i < 16, breakpoint (a.set 2 none) .s2 (i + 1) < breakpoint (a.set 2 none) .s2 i) ∧
      a.getD 2 none = some ⟨.s2, 13, -235⟩ ∧ 2 ≠ (1 : Byte).toNat ∧
      ¬ ((-501 : Half).toInt ≥ -500) ∧ (-500 : Half).toInt = -500 ∧ (700 : Half).toInt ≤ 700 := by decide +kernel

/-- Both mains states, at the thresholds and a count below each; the first and the last of each run. -/
theorem witness_MainsSampleDeclaresSagAndNormal :
    let n (l : Nat) := withMains ⟨.normal, l, 0, 0, 2600, 2800⟩
    let g (h : Nat) := withMains ⟨.sag, 0, h, 0, 2600, 2800⟩
    (n 0).meas.mains.state = .normal ∧ 2599 < (n 0).meas.mains.sag ∧ (n 0).meas.mains.lowRun = 0 ∧
      1 ≤ (n 1).meas.mains.lowRun ∧ (n 1).meas.mains.sag ≤ 2600 ∧ (g 48).meas.mains.state = .sag ∧
      2799 < (g 48).meas.mains.recover ∧ (g 48).meas.mains.recover ≤ 2800 ∧ (g 48).meas.mains.highRun < 49 ∧
      49 ≤ (g 49).meas.mains.highRun := by decide +kernel

/-- A sample that agrees, one below the required run, the one that opens and the one that closes; DOOR_AJAR on an OPEN and
on an AJAR door. -/
theorem witness_DoorsOpenCloseAndGoAjar :
    let shut (n : Nat) := withDoor .zd { resetDoor with run := n } State.reset
    let ajar (st : DoorState) := withExpiry (.doorAjar .zd) (withDoor .zd { resetDoor with state := st } State.reset)
    ((shut 6).door .zd).level = .low ∧ ((shut 6).door .zd).run + 1 < 8 ∧ 8 ≤ ((shut 7).door .zd).run + 1 ∧
      (shut 7).doors.rejection = 80 ∧ (withDoor .zd ⟨.high, 7, .opened, some 0, none, false, false, 1⟩ (shut 0)).doors.recs.zd.level = .high ∧
      Delivers (ajar .opened) (.doorAjar .zd) ⟨0, 0⟩ ∧ ((ajar .opened).door .zd).state = .opened ∧
      Delivers (ajar .ajar) (.doorAjar .zd) ⟨0, 0⟩ ∧ ((ajar .ajar).door .zd).state ≠ .opened := by decide +kernel

theorem witness_DoorQueryReportsAndClears :
    Taken (.doorQuery 3 1) State.reset ∧ 3 < (4 : Byte).toNat ∧ doorOf 3 = some .zd := by decide +kernel

/-- An S5 report and a change of path state, with the valve at rest on its target, at rest elsewhere and homing; both fan
straps; a door open; a transit step; a moving flap; and CHILL's demand with the flap at rest. -/
theorem witness_AirDutiesFollowTheirLaws :
    let rep : Report := ⟨.s5, .good, 300, some 300⟩
    let rest (pos : Nat) : Air := { settled.air with path := .runFresh, valveMotion := .atRest, valvePos := pos }
    let s : State := { settled with
      events := [.airS5 rep, .airPathState false], straps := ⟨false, true⟩, air := rest 60
      eval := { settled.eval with demand := true } }
    let o := withDoor .dr { resetDoor with state := .opened } s
    let f : State := { s with air := { s.air with flapMotion := .moving .freeze ⟨4, 0⟩ } }
    takeFirst (airEvent .s5Report) s.events = some (.s5 rep, [.airPathState false]) ∧
      takeFirst (airEvent .pathState) s.events = some (.pathState false, [.airS5 rep]) ∧
      s.air.valveMotion = .atRest ∧ s.air.valvePos = s.arb.valveTarget ∧ (rest 120).valvePos ≠ s.arb.valveTarget ∧
      settled.air.valveMotion ≠ .atRest ∧ s.straps.strap1 = true ∧ s.air.path = .runFresh ∧
      State.reset.straps.strap1 = false ∧ State.reset.map.step ≠ none ∧ (o.door .dr).state = .opened ∧
      f.air.flapMotion ≠ .atRest ∧ (s.entry .chill).actuator = .damper .fresh ∧ s.map.step = none ∧
      s.air.flapMotion = .atRest ∧ s.air.flapSide = some .fresh ∧ s.eval.demand = true ∧ s.air.damperMotion = .atRest := by
  decide +kernel

/-- The change into and out of RUN_FREEZE, with S4 at -50, at -49 and not GOOD; the S4 report; and the expiry, with the state
taken still RUN_FREEZE. -/
theorem witness_FanDelayHoldsTheFreezerFan :
    let rep (f : Int) : Report := ⟨.s4, .good, f, some f⟩
    let run (f : Int) : State := { sensing .s4 .good f with
      arb := { State.reset.arb with state := .runFreeze }, events := [.airPathState true, .airS4 (rep f)] }
    let active : State := { run (-49) with air := { State.reset.air with path := .runFreeze, fanDelay := some .active } }
    takeFirst (airEvent .pathState) (run (-50)).events = some (.pathState true, [.airS4 (rep (-50))]) ∧
      (run (-50)).arb.state = .runFreeze ∧ standing (run (-50)) .s4 = (.good, -50) ∧ standing (run (-49)) .s4 = (.good, -49) ∧
      (standing State.reset .s4).1 ≠ .good ∧ State.reset.arb.state ≠ .runFreeze ∧
      takeFirst (airEvent .s4Report) (run (-50)).events = some (.s4 (rep (-50)), [.airPathState true]) ∧
      active.air.fanDelay = some .active ∧ State.reset.air.fanDelay ≠ some .active ∧
      Delivers (withExpiry .fanDelay active) .fanDelay ⟨0, 0⟩ ∧ (active.door .zd).state ≠ .opened ∧
      active.air.path = .runFreeze ∧ active.defrost.phase ≠ .heat ∧ active.defrost.phase ≠ .drip := by decide +kernel

/-- A state with a review in flight, the arbiter in the given state and the given path urgencies. -/
def reviewed (p : PathState) (fresh freeze : Nat) : State :=
  { inPath p with
    events := [.review], eval := { State.reset.eval with paths := ⟨⟨fresh, false, none⟩, ⟨freeze, false, none⟩⟩ } }

/-- PUMPDOWN and a halt; OFF under INHIBIT, with nothing wanted, with equal urgencies and with a preference; a start in
progress whose path is available, and one whose path is not. -/
theorem witness_ReviewInOffChoosesTheStartPath :
    let s := reviewed .off 400 400
    let starting (r : Bool) : State := { s with
      arb := { s.arb with startPath := some .fresh }, defrost := { s.defrost with recovery := r } }
    takeFirst (onlyEvent .review) s.events = some ((), []) ∧ (reviewed .pumpdown 0 0).arb.state = .pumpdown ∧
      (reviewed (.halted .sag) 0 0).arb.state.isHalted = true ∧ s.arb.state = .off ∧ s.arb.startPath = none ∧
      State.reset.arb.inhibitRunning = true ∧ (reviewed .off 0 0).eval.paths.fresh.urgency = 0 ∧
      s.arb.inhibitRunning = false ∧ s.eval.paths.fresh.urgency = s.eval.paths.freeze.urgency ∧
      s.defrost.recovery = false ∧ s.defrost.phase = .idle ∧
      { s.arb with resumePref := some .fresh }.resumePref = some .fresh ∧
      (starting false).arb.startPath = some .fresh ∧ (starting false).defrost.recovery = false ∧
      (starting true).defrost.recovery = true := by decide +kernel

/-- A run that stays, one that switches 300 above, one that stops, one whose path is not available and one pinned. -/
theorem witness_ReviewOfARunDecides :
    let s (p : PathState) (a b : Nat) : State :=
      { reviewed p a b with arb := { (reviewed p a b).arb with dwellMinMet := true, speed := 60 } }
    takeFirst (onlyEvent .review) (s .runFresh 100 399).events = some ((), []) ∧ Path.fresh ≠ .freeze ∧
      (s .runFresh 100 399).arb.state = .runFresh ∧ (s .runFreeze 400 100).arb.state = .runFreeze ∧
      (s .runFresh 100 399).arb.dwellMinMet = true ∧ ¬ (100 + 300 ≤ 399) ∧ 100 + 300 ≤ 400 ∧
      (s .runFresh 0 0).eval.paths.fresh.urgency = 0 ∧ (s .runFreeze 0 0).eval.paths.freeze.urgency = 0 ∧
      { (s .runFresh 1 1).defrost with recovery := true }.recovery = true ∧
      (inPhase .heat (s .runFreeze 1 1)).defrost.phase = .heat ∧
      (inPhase .prechill (s .runFreeze 1 1)).defrost.phase = .prechill := by decide +kernel

theorem witness_ArrivalCompletesTheStart :
    let s (p : Path) (r : Bool) : State := { inPath .off with
      arb := { (inPath .off).arb with startPath := some p }, events := [.valveToArbiter 120]
      defrost := { State.reset.defrost with recovery := r } }
    takeFirst arbiterArrivalOf (s .freeze false).events = some (120, []) ∧ (s .freeze false).arb.state = .off ∧
      (s .fresh false).arb.startPath = some .fresh ∧ 120 ≠ valveEnd .fresh ∧ 120 = valveEnd .freeze ∧
      (s .freeze false).available .freeze = true ∧ (s .fresh false).available .fresh = true ∧
      (s .fresh true).available .fresh = false ∧ (inPath .pumpdown).arb.state = .pumpdown ∧
      (inPath (.halted .sag)).arb.state.isHalted = true := by decide +kernel

theorem witness_PumpdownEndsAtItsStage :
    let s (u : Nat) := withExpiry .stage (reviewed .pumpdown 0 u)
    (s 1).arb.state = .pumpdown ∧ Delivers (s 1) .stage ⟨0, 0⟩ ∧ 0 < (s 1).eval.paths.freeze.urgency ∧
      (s 1).defrost.phase = .idle ∧ (s 0).eval.paths.freeze.urgency = 0 := by decide +kernel

theorem witness_StageRestoresTheContext :
    let s (c : HaltCause) (st : List Context) : State :=
      withExpiry .stage (withArb { State.reset.arb with state := .halted c, stack := st })
    Delivers (s .fault [.path .runFreeze]) .stage ⟨0, 0⟩ ∧
      (s .fault [.path .runFreeze]).arb.state = .halted .fault ∧ (s .sag [.path .off]).arb.state = .halted .sag ∧
      (s .sag [.holdoff 350, .path .runFreeze]).arb.stack = [.holdoff 350, .path .runFreeze] ∧
      (s .sag [.path .off]).arb.inhibitRunning = true := by decide +kernel

theorem witness_ArbiterTimersAct :
    let s (k : DeadlineKey) := withExpiry k (inPath .runFresh)
    Delivers (s .dwellMin) .dwellMin ⟨0, 0⟩ ∧ Delivers (s .dwellMax) .dwellMax ⟨0, 0⟩ ∧ Delivers (s .inhibit) .inhibit ⟨0, 0⟩ ∧
      Delivers (s .speedStep) .speedStep ⟨0, 0⟩ ∧ (s .speedStep).arb.state.path = some .fresh ∧
      (inPath .pumpdown).arb.state = .pumpdown ∧ (inPath (.halted .fault)).arb.state.isHalted = true := by decide +kernel

theorem witness_SagHaltsAndNormalWaits :
    let s (m : MainsState) (p : PathState) := withEvents [.mains m] (inPath p)
    let f : State := { s .sag (.halted .fault) with time := ⟨10, 0, [⟨.stage, ⟨610, 0⟩⟩], []⟩ }
    takeFirst mainsOf (s .sag .off).events = some (.sag, []) ∧ (s .sag (.halted .lockout)).arb.state = .halted .lockout ∧
      (s .sag .pumpdown).arb.state.commandsRun = true ∧ (s .sag .off).arb.state ≠ .halted .lockout ∧
      f.arb.state = .halted .fault ∧
      (f.time.deadlines ++ f.time.expiries).find? (fun e => decide (e.key = .stage)) = some ⟨.stage, ⟨610, 0⟩⟩ ∧
      (s .sag (.halted .sag)).arb.state = .halted .sag ∧
      takeFirst mainsOf (s .normal (.halted .sag)).events = some (.normal, []) ∧
      (s .normal .off).arb.state ≠ .halted .sag := by decide +kernel

theorem witness_ClearLockoutEndsTheLockout :
    let s := inPath (.halted .lockout)
    let sag : State := { s with meas := (withMains ⟨.sag, 0, 0, 0, 2600, 2800⟩).meas }
    let inhibited := withArb { s.arb with inhibitRunning := true }
    Taken .clearLockout s ∧ s.arb.state = .halted .lockout ∧ (inPath (.halted .fault)).arb.state ≠ .halted .lockout ∧
      s.meas.mains.state = .normal ∧ inhibited.arb.inhibitRunning = true ∧ inhibited.arb.startPath = none ∧
      sag.meas.mains.state = .sag ∧ sag.arb.state = .halted .lockout := by decide +kernel

/-- A first tick, a fifth miss of a DRIVE that carried speed 0, and a fifth miss in LOCKOUT. -/
theorem witness_DriveTickSendsTheNextFrame :
    let s := withDrive { State.reset.drive with last := some ⟨7, 0⟩, miss := 4, seq := 255 } State.reset
    State.reset.drive.last = none ∧ s.drive.last = some ⟨7, 0⟩ ∧ s.drive.answered = false ∧ 5 ≤ s.drive.miss + 1 ∧
      ¬ 0 < (⟨7, 0⟩ : SentDrive).speed ∧ (inPath (.halted .lockout)).arb.state.commandsRun = false := by decide +kernel

/-- A SILENT link, a fifth miss and a STATUS with code 7; a first fault and a third. -/
theorem witness_CompressorFaultHalts :
    let s (silent : Bool) (n : Nat) : State :=
      withDrive { State.reset.drive with last := some ⟨9, 60⟩, silent := silent, miss := 4 }
        (withArb { State.reset.arb with state := .runFreeze, speed := 60, faultCount := n })
    (s true 0).arb.state.commandsRun = true ∧ (s true 0).drive.last = some ⟨9, 60⟩ ∧ 0 < (⟨9, 60⟩ : SentDrive).speed ∧
      (s true 0).drive.silent = true ∧ (s false 0).drive.silent = false ∧ (s false 0).drive.answered = false ∧
      5 ≤ (s false 0).drive.miss + 1 ∧ (9 : Byte) + 60 + 7 + 180 = 0 ∧ (9 : Byte).toNat = (⟨9, 60⟩ : SentDrive).seq ∧
      (7 : Byte) ≠ 0 ∧ (s true 1).arb.faultCount < 2 ∧ 2 ≤ (s true 2).arb.faultCount := by decide +kernel

theorem witness_StatusFrameIsStoredOrDiscarded :
    let s (rx : DriveRx) := withDrive { State.reset.drive with last := some ⟨9, 60⟩, rx := rx } State.reset
    ¬ ((9 : Byte) + 60 + 7 + 181 = 0) ∧ (9 : Byte) + 60 + 0 + 187 = 0 ∧ (s .waiting).drive.last = some ⟨9, 60⟩ ∧
      (s .waiting).arb.state.commandsRun = false ∧ (s .waiting).drive.rx = .waiting ∧
      (s (.body [9, 60])).drive.rx = .body [9, 60] ∧ ([9, 60] : List Byte).length < 3 ∧
      (s (.body [9, 60, 0])).drive.rx = .body [9, 60, 0] := by decide +kernel

theorem witness_DefrostRequestsAreAnsweredByPhase :
    Taken .defrostNow State.reset ∧ Taken .defrostCancel State.reset ∧
      ([.prechill, .release, .heat, .drip, .pending, .recover] : List Phase).all
        (fun p => decide ((inPhase p State.reset).defrost.phase = p)) = true ∧
      State.reset.defrost.phase = .idle ∧ State.reset.arb.state ≠ .runFreeze ∧
      (inPath .runFreeze).arb.state = .runFreeze ∧ 21600 ≤ State.reset.defrost.interval := by decide +kernel

/-- A report at 80 in HEAT, and one at -50 in RECOVER; a count that reaches the interval in IDLE and one that does not. -/
theorem witness_S4ReportCountsFrostAndTests :
    let rep (f : Int) : Report := ⟨.s4, .good, f, some f⟩
    let s (p : Phase) (acc : Nat) (f : Int) : State := { State.reset with
      defrost := { State.reset.defrost with phase := p, accumulator := acc }, events := [.s4Report (rep f)] }
    takeFirst s4ReportOf (s .heat 5 80).events = some (rep 80, []) ∧ (s .heat 5 80).defrost.timeOnly = false ∧
      (s .heat 5 79).defrost.phase = .heat ∧ (s .recover 5 (-50)).defrost.phase = .recover ∧
      min 999999 ((s .recover 5 (-50)).defrost.accumulator + 17) < (s .recover 5 (-50)).defrost.interval ∧
      (s .idle 86400 0).defrost.interval ≤ min 999999 (s .idle 86400 0).defrost.accumulator ∧
      min 999999 ((s .idle 86382 0).defrost.accumulator + 17) < (s .idle 86382 0).defrost.interval ∧
      (s .drip 5 0).defrost.phase ≠ .heat ∧ (s .drip 5 0).defrost.phase ≠ .recover := by decide +kernel

/-- An end of RUN_FRESH; a change to RUN_FREEZE in PENDING; a halt in PRECHILL, with the valve homing, and with it at rest on the
FRESH end while the arbiter's target is there, CLOSED and the FREEZE end. -/
theorem witness_ArbiterChangeMovesTheDefrost :
    let s (ended halted : Bool) (p : Phase) : State :=
      withEvents [.arbiterToDefrost ended halted] (inPhase p (inPath .runFreeze))
    let rest (target : Nat) : State := { s false true .prechill with
      air := { State.reset.air with valveMotion := .atRest, valveTarget := 0 }
      arb := { State.reset.arb with valveTarget := target } }
    takeFirst pathChangeOf (s true false .idle).events = some ((true, false), []) ∧
      takeFirst pathChangeOf (s false true .prechill).events = some ((false, true), []) ∧
      (s false false .pending).defrost.phase = .pending ∧ (s false false .pending).arb.state = .runFreeze ∧
      (s false true .prechill).air.valveMotion ≠ .atRest ∧ (rest 0).air.valveMotion = .atRest ∧ (rest 0).air.valvePos = 0 ∧
      (rest 0).valveOffCoil = true ∧ (rest 60).valveOffCoil = true ∧ (rest 120).valveOffCoil = false := by decide +kernel

/-- PENDING_LIMIT in and out of PENDING; PHASE in PRECHILL with the valve homing and at rest; an arrival in RELEASE at CLOSED, at
the FREEZE end, and with the arbiter's target at the FREEZE end. -/
theorem witness_ReleaseAndHeatAreEntered :
    let s (k : DeadlineKey) (p : Phase) := withExpiry k (inPhase p State.reset)
    let a (pos : Nat) := withEvents [.valveToDefrost pos] (inPhase .release State.reset)
    let rest : State := { s .phase .prechill with air := { State.reset.air with valveMotion := .atRest, valvePos := 60 } }
    let aimed : State := { a 60 with arb := { State.reset.arb with valveTarget := 120 } }
    Delivers (s .pendingLimit .pending) .pendingLimit ⟨0, 0⟩ ∧ (s .pendingLimit .pending).defrost.phase = .pending ∧
      (s .pendingLimit .prechill).defrost.phase ≠ .pending ∧ Delivers (s .phase .prechill) .phase ⟨0, 0⟩ ∧
      (s .phase .prechill).air.valveMotion ≠ .atRest ∧ rest.air.valveMotion = .atRest ∧ rest.air.valvePos = 60 ∧
      rest.valveOffCoil = true ∧ takeFirst defrostArrivalOf (a 60).events = some (60, []) ∧
      (a 60).defrost.phase = .release ∧ (a 60).coilSpared = true ∧ aimed.coilSpared = false ∧
      takeFirst defrostArrivalOf (a 120).events = some (120, []) := by decide +kernel

theorem witness_PhaseExpiryEndsThePhase :
    let s (p : Phase) := withExpiry .phase (inPhase p State.reset)
    let full : State := { s .recover with defrost := { (s .recover).defrost with accumulator := 86400 } }
    Delivers (s .heat) .phase ⟨0, 0⟩ ∧ (s .heat).defrost.phase = .heat ∧ (s .drip).defrost.phase = .drip ∧
      (s .recover).defrost.phase = .recover ∧ (s .recover).defrost.accumulator < (s .recover).defrost.interval ∧
      full.defrost.interval ≤ full.defrost.accumulator ∧ full.arb.state ≠ .runFreeze := by decide +kernel

theorem witness_CoilRecoveryEndsInThreeWays :
    let rep (f : Int) : Report := ⟨.s3, .good, f, some f⟩
    let s (r : Bool) : State := withExpiry .coilRecovery { State.reset with
      defrost := { State.reset.defrost with recovery := r }, events := [.s3Report (rep 10), .cutShort 1500] }
    takeFirst s3ReportOf (s true).events = some (rep 10, [.cutShort 1500]) ∧ ¬ 10 ≤ (rep 9).f ∧
      takeFirst cutShortOf (s true).events = some (1500, [.s3Report (rep 10)]) ∧
      Delivers (s true) .coilRecovery ⟨0, 0⟩ ∧ (s true).defrost.recovery = true ∧ (s false).defrost.recovery = false := by
  decide +kernel

theorem witness_NoticesAreRaisedCollectedAndEnabled :
    let s : State := { State.reset with notice := ⟨0x42, 0x7FF, true⟩, events := [.raise .storeDone] }
    takeFirst (onlyEvent (.raise .storeDone)) s.events = some ((), []) ∧ Taken .noticeNext s ∧
      noticeIn .compressorFault s.notice.pending = true ∧ noticeIn .compressorFault s.notice.enabled = true ∧
      ([.compressorLockout, .compressorFault, .mainsSag, .sensorFault, .warmExcursion, .coldExcursion, .doorAjar,
        .holdLapsed, .regimeDone, .defrostDone, .storeDone] : List Notice).all (fun m =>
          !(noticeIn m s.notice.pending) || decide (noticeCode .compressorFault ≤ noticeCode m)) = true ∧
      Taken (.noticeEnable 0x07BF) s ∧ State.reset.notice.pending = 0 := by decide +kernel

/-- The codes at the ends of the table; a target off the grid; the interval in IDLE, at the accumulator and above it, and
elsewhere; the sag threshold that moves the recover threshold and one that does not; the steps of the rejection time. -/
theorem witness_SettingsWriteIsBroughtIntoRange :
    let full : State := { State.reset with defrost := { State.reset.defrost with accumulator := 21600 } }
    Taken (.settingsWrite 0x1B 81) State.reset ∧ 0x1D ≤ (0x1D : Byte).toNat ∧
      (5 * (((-12 : Quad).toInt + 2) / 5), (13 : Quad).toInt) = (-10, 13) ∧
      (inPhase .heat State.reset).defrost.phase ≠ .idle ∧ full.defrost.phase = .idle ∧ 21600 ≤ full.defrost.accumulator ∧
      full.arb.state ≠ .runFreeze ∧ State.reset.defrost.accumulator < 21600 ∧ (inPath .runFreeze).arb.state = .runFreeze ∧
      State.reset.meas.mains.recover < (2701 : Quad).toInt.toNat + 100 ∧
      ¬ State.reset.meas.mains.recover < (2700 : Quad).toInt.toNat + 100 ∧
      (0 : Quad).toInt ≤ 0 ∧ (40 : Quad).toInt ≤ 40 ∧ (80 : Quad).toInt ≤ 80 ∧ (-1 : Quad).toInt = -1 := by decide +kernel

theorem witness_SettingsStoreWritesTheCopy :
    let w : State := { State.reset with store := ⟨none, some ⟨Config.factoryContents, ⟨0, 0⟩⟩, true⟩ }
    Taken .settingsStore State.reset ∧ State.reset.store.writing = none ∧ w.store.writing ≠ none := by decide +kernel

/-- An image never written and a good one; the end of RESTART's reply; the last instant of the uptime and one before it. -/
theorem witness_StartUpLeavesTheResetValues :
    let good : State := { State.reset with store := ⟨some Config.factoryContents, none, false⟩ }
    let sent := withLink ⟨.hunt, .sending, false, none, none, [], true⟩
    State.reset.store.image = none ∧ good.store.image = some Config.factoryContents ∧ sent.link.port = .sending ∧
      sent.link.restarting = true ∧ 4294967295 ≤ (at_ 4294967295 999).time.uptime ∧ 999 ≤ (at_ 4294967295 999).time.ms ∧
      (at_ 4294967295 998).time.ms < 999 := by decide +kernel

/-- R197: an image's values out of their ranges are brought in, the BASE hold of CHILL against the stored regime. -/
theorem test_start_up_brings_the_image_into_range :
    let g : Settings := { Config.factorySettings with regime := .soft, sag := 900, recover := 1050, rejection := 41 }
    let c : ImageContents := { Config.factoryContents with settings := g, bases := ⟨(30, 10), (3, 22), (-180, 15)⟩ }
    let t := after (.powerOnReset ⟨false, false⟩) { State.reset with store := ⟨some c, none, false⟩ }
    (t.meas.mains.sag, t.meas.mains.recover, t.doors.rejection) = (1000, 1100, 80) ∧ t.map.regime = .soft ∧
      (t.holds.at 1).map (fun h => (h.target, h.halfBand)) = some (-30, 20) ∧ t.store.defaulted = false := by decide +kernel

end Sys2Proof.Tests
end

section
/-! Rules of the hold table: what its operations leave in a slot, in a list and in a record. -/

namespace Sys2Proof.Machine

open Sys2Proof.Safety

/-! ### Slots and the records in them -/

theorem HoldTable.at_eq_some {t : HoldTable} {i : Nat} {h : Hold} :
    t.at i = some h ↔ ∃ sl, t.slots[i]? = some sl ∧ sl.hold = some h := by
  simp [HoldTable.at, Option.bind_eq_some_iff]

theorem HoldTable.named_eq_bind (t : HoldTable) (x : Handle) :
    t.named x = t.slots[x.slot]?.bind fun sl => if sl.generation = x.gen then sl.hold else none := by
  unfold HoldTable.named
  cases t.slots[x.slot]? <;> rfl

theorem HoldTable.named_eq_some {t : HoldTable} {x : Handle} {h : Hold} :
    t.named x = some h ↔ ∃ sl, t.slots[x.slot]? = some sl ∧ sl.generation = x.gen ∧ sl.hold = some h := by
  simp [HoldTable.named_eq_bind, Option.bind_eq_some_iff]

theorem HoldTable.at_of_named {t : HoldTable} {x : Handle} {h : Hold} (hx : t.named x = some h) :
    t.at x.slot = some h := by
  obtain ⟨sl, hsl, -, hh⟩ := named_eq_some.1 hx
  exact at_eq_some.2 ⟨sl, hsl, hh⟩

/-- What stands in a slot is read from the slots alone. -/
@[simp] theorem HoldTable.at_withLists (t : HoldTable) (l : PerZone (List Handle)) (j : Nat) :
    HoldTable.at { t with lists := l } j = t.at j := rfl

@[simp] theorem HoldTable.named_withLists (t : HoldTable) (l : PerZone (List Handle)) (x : Handle) :
    HoldTable.named { t with lists := l } x = t.named x := rfl

theorem HoldTable.at_congr {t t' : HoldTable} {j : Nat} (h : t'.slots[j]? = t.slots[j]?) : t'.at j = t.at j := by
  simp [HoldTable.at, h]

theorem HoldTable.named_congr {t t' : HoldTable} {x : Handle} (h : t'.slots[x.slot]? = t.slots[x.slot]?) :
    t'.named x = t.named x := by simp [HoldTable.named_eq_bind, h]

/-! ### A record replaced, a slot freed -/

theorem HoldTable.put_eq_modify (t : HoldTable) (i : Nat) (r : Option Hold) :
    t.put i r = { t with slots := t.slots.modify i fun sl => { sl with hold := r } } := by
  unfold HoldTable.put
  split
  · next hn => rw [List.modify_eq_self (List.getElem?_eq_none_iff.1 hn)]
  · next sl hs =>
    obtain ⟨hi, rfl⟩ := List.getElem?_eq_some_iff.1 hs
    rw [List.modify_eq_set_get _ hi]
    rfl

theorem HoldTable.free_eq_modify (t : HoldTable) (i : Nat) :
    t.free i = { t with slots := t.slots.modify i fun sl => ⟨nextGeneration sl.generation, none⟩ } := by
  unfold HoldTable.free
  split
  · next hn => rw [List.modify_eq_self (List.getElem?_eq_none_iff.1 hn)]
  · next sl hs =>
    obtain ⟨hi, rfl⟩ := List.getElem?_eq_some_iff.1 hs
    rw [List.modify_eq_set_get _ hi]
    rfl

@[simp] theorem HoldTable.put_lists (t : HoldTable) (i : Nat) (r : Option Hold) : (t.put i r).lists = t.lists := by
  rw [put_eq_modify]

@[simp] theorem HoldTable.put_length (t : HoldTable) (i : Nat) (r : Option Hold) :
    (t.put i r).slots.length = t.slots.length := by simp [put_eq_modify]

theorem HoldTable.put_slots_self {t : HoldTable} {i : Nat} {sl : Slot} (h : t.slots[i]? = some sl) (r : Option Hold) :
    (t.put i r).slots[i]? = some { sl with hold := r } := by simp [put_eq_modify, h]

theorem HoldTable.put_slots_other (t : HoldTable) {i j : Nat} (r : Option Hold) (h : j ≠ i) :
    (t.put i r).slots[j]? = t.slots[j]? := by simp [put_eq_modify, Ne.symm h]

theorem HoldTable.put_at_other (t : HoldTable) {i j : Nat} (r : Option Hold) (h : j ≠ i) : (t.put i r).at j = t.at j :=
  at_congr (put_slots_other t r h)

theorem HoldTable.put_at_self {t : HoldTable} {i : Nat} {sl : Slot} (h : t.slots[i]? = some sl) (r : Option Hold) :
    (t.put i r).at i = r := by simp [HoldTable.at, put_slots_self h]

theorem HoldTable.put_at_of_at {t : HoldTable} {i : Nat} {h : Hold} (hi : t.at i = some h) (r : Option Hold) :
    (t.put i r).at i = r := by
  obtain ⟨sl, hsl, -⟩ := at_eq_some.1 hi
  exact put_at_self hsl r

/-- A record put in a slot leaves every slot its generation (R3). -/
@[simp] theorem HoldTable.put_generations (t : HoldTable) (i : Nat) (r : Option Hold) :
    (t.put i r).slots.map (·.generation) = t.slots.map (·.generation) := by
  rw [put_eq_modify]
  refine List.ext_getElem? fun j => ?_
  simp only [List.getElem?_map, List.getElem?_modify]
  cases t.slots[j]? with
  | none => rfl
  | some sl => simp only [Option.map_eq_map, Option.map_some]; split <;> rfl

theorem HoldTable.put_put (t : HoldTable) (i : Nat) (r r' : Option Hold) : (t.put i r).put i r' = t.put i r' := by
  simp [put_eq_modify, List.modify_modify_eq, Function.comp_def]

@[simp] theorem HoldTable.put_withLists (t : HoldTable) (l : PerZone (List Handle)) (i : Nat) (r : Option Hold) :
    HoldTable.put { t with lists := l } i r = { t.put i r with lists := l } := by simp only [put_eq_modify]

@[simp] theorem HoldTable.free_length (t : HoldTable) (i : Nat) : (t.free i).slots.length = t.slots.length := by
  simp [free_eq_modify]

theorem HoldTable.free_slots_self {t : HoldTable} {i : Nat} {sl : Slot} (h : t.slots[i]? = some sl) :
    (t.free i).slots[i]? = some ⟨nextGeneration sl.generation, none⟩ := by simp [free_eq_modify, h]

theorem HoldTable.free_slots_other (t : HoldTable) {i j : Nat} (h : j ≠ i) : (t.free i).slots[j]? = t.slots[j]? := by
  simp [free_eq_modify, Ne.symm h]

/-! ### The first hold of a list that is not LAPSED -/

theorem HoldTable.firstLive_eq_find? (t : HoldTable) (l : List Handle) :
    t.firstLive l = (l.filterMap t.named).find? fun r => !r.state.isLapsed := by
  induction l with
  | nil => rfl
  | cons x xs ih =>
    cases hx : t.named x with
    | none => simp [HoldTable.firstLive, hx, ih]
    | some r => cases hr : r.state.isLapsed <;> simp [HoldTable.firstLive, hx, hr, ih]

/-- Where the records that a list names change by `f`, which neither lapses nor revives one, the first live one does. -/
theorem HoldTable.firstLive_map {t t' : HoldTable} (f : Hold → Hold) {l : List Handle}
    (hl : ∀ x ∈ l, t'.named x = (t.named x).map f ∧
      ∀ r, t.named x = some r → (f r).state.isLapsed = r.state.isLapsed) :
    t'.firstLive l = (t.firstLive l).map f := by
  induction l with
  | nil => rfl
  | cons x xs ih =>
    rw [List.forall_mem_cons] at hl
    obtain ⟨⟨hx, hr⟩, hxs⟩ := hl
    cases hn : t.named x with
    | none => simp [HoldTable.firstLive, hx, hn, ih hxs]
    | some r =>
      have hlap := hr r hn
      cases hb : r.state.isLapsed <;> simp [HoldTable.firstLive, hx, hn, hlap, hb, ih hxs]

/-- The zone's EFFECTIVE hold, as the table gives it (R5). -/
def HoldTable.live (t : HoldTable) (z : Zone) : Option Hold := t.firstLive (t.lists.get z)

theorem State.effectiveHold_eq (s : State) (z : Zone) : s.effectiveHold z = s.holds.live z := rfl

/-- A first live hold is named by the list and has not lapsed. -/
theorem HoldTable.live_eq_some {t : HoldTable} {z : Zone} {h : Hold} (hl : t.live z = some h) :
    (∃ x ∈ t.lists.get z, t.named x = some h) ∧ h.state.isLapsed = false := by
  rw [HoldTable.live, firstLive_eq_find?] at hl
  have hm := List.mem_of_find?_eq_some hl
  have hp := List.find?_some hl
  exact ⟨by simpa [List.mem_filterMap] using hm, by simpa using hp⟩

/-- A list that names a hold that has not lapsed has a first one. -/
theorem HoldTable.live_isSome {t : HoldTable} {z : Zone} {x : Handle} {h : Hold} (hx : x ∈ t.lists.get z)
    (hn : t.named x = some h) (hl : h.state.isLapsed = false) : (t.live z).isSome = true := by
  rw [HoldTable.live, firstLive_eq_find?, List.find?_isSome]
  exact ⟨h, List.mem_filterMap.2 ⟨x, hx, hn⟩, by simp [hl]⟩

/-! ### Re-resolution (R5) -/

theorem restate_of_other {z : Zone} {eff : Option Handle} {h : Hold} (hz : h.zone ≠ z) : restate z eff h = h := by
  simp [restate, hz]

theorem restate_of_lapsed {z : Zone} {eff : Option Handle} {h : Hold} (hl : h.state.isLapsed = true) :
    restate z eff h = h := by simp [restate, hl]

theorem restate_of_live {z : Zone} {eff : Option Handle} {h : Hold} (hz : h.zone = z) (hl : h.state.isLapsed = false) :
    restate z eff h = { h with state := if some h.handle = eff then .effective else .shadowed } := by
  simp [restate, hz, hl]

/-- A record rewritten to agree with R5 changes in its state alone. -/
theorem restate_eq (z : Zone) (eff : Option Handle) (h : Hold) :
    restate z eff h = { h with state := (restate z eff h).state } := by
  unfold restate
  split <;> rfl

theorem restate_eq_self_iff {z : Zone} {eff : Option Handle} {h : Hold} :
    restate z eff h = h ↔ (h.zone = z → h.state.isLapsed = false →
      h.state = if some h.handle = eff then .effective else .shadowed) := by
  constructor
  · intro he hz hl
    rw [restate_of_live hz hl] at he
    exact (congrArg Hold.state he).symm
  · intro hs
    by_cases hc : h.zone = z ∧ h.state.isLapsed = false
    · rw [restate_of_live hc.1 hc.2, ← hs hc.1 hc.2]
    · simp [restate, hc]

@[simp] theorem restate_handle (z : Zone) (eff : Option Handle) (h : Hold) : (restate z eff h).handle = h.handle := by
  rw [restate_eq]

@[simp] theorem restate_zone (z : Zone) (eff : Option Handle) (h : Hold) : (restate z eff h).zone = h.zone := by
  rw [restate_eq]

@[simp] theorem restate_isLapsed (z : Zone) (eff : Option Handle) (h : Hold) :
    (restate z eff h).state.isLapsed = h.state.isLapsed := by
  unfold restate
  split
  · next hc => rw [hc.2]; dsimp only; split <;> rfl
  · rfl

theorem asResolved_eq_restate (t : State) (z : Zone) (h : Hold) :
    asResolved t z h = restate z ((t.holds.live z).map (·.handle)) h := by
  simp [asResolved, restate, State.effectiveHold_eq, eq_comm (a := some h.handle)]

/-- The table with the records of a zone rewritten to agree with R5. -/
def HoldTable.restated (t : HoldTable) (z : Zone) : HoldTable :=
  { t with slots := t.slots.map fun sl => { sl with hold := sl.hold.map (restate z ((t.live z).map (·.handle))) } }

theorem State.resolve_eq (s : State) (z : Zone) : s.resolve z = s.setHolds (s.holds.restated z) := rfl

@[simp] theorem HoldTable.restated_lists (t : HoldTable) (z : Zone) : (t.restated z).lists = t.lists := rfl

theorem HoldTable.restated_slots (t : HoldTable) (z : Zone) (j : Nat) :
    (t.restated z).slots[j]?
      = t.slots[j]?.map fun sl => { sl with hold := sl.hold.map (restate z ((t.live z).map (·.handle))) } := by
  simp [HoldTable.restated]

@[simp] theorem HoldTable.restated_length (t : HoldTable) (z : Zone) :
    (t.restated z).slots.length = t.slots.length := by
  simp [HoldTable.restated]

@[simp] theorem HoldTable.restated_generations (t : HoldTable) (z : Zone) :
    (t.restated z).slots.map (·.generation) = t.slots.map (·.generation) := by
  simp [HoldTable.restated, Function.comp_def]

theorem HoldTable.restated_at (t : HoldTable) (z : Zone) (j : Nat) :
    (t.restated z).at j = (t.at j).map (restate z ((t.live z).map (·.handle))) := by
  simp only [HoldTable.at, restated_slots]
  cases t.slots[j]? <;> rfl

theorem HoldTable.restated_named (t : HoldTable) (z : Zone) (x : Handle) :
    (t.restated z).named x = (t.named x).map (restate z ((t.live z).map (·.handle))) := by
  simp only [named_eq_bind, restated_slots]
  cases t.slots[x.slot]? with
  | none => rfl
  | some sl => simp only [Option.map_some, Option.bind_some]; split <;> rfl

/-- Re-resolution rewrites states and changes no zone's EFFECTIVE hold otherwise. -/
theorem HoldTable.restated_live (t : HoldTable) (z y : Zone) :
    (t.restated z).live y = (t.live y).map (restate z ((t.live z).map (·.handle))) :=
  firstLive_map _ fun x _ => ⟨restated_named t z x, fun r _ => restate_isLapsed _ _ r⟩

@[simp] theorem HoldTable.restated_live_handle (t : HoldTable) (z y : Zone) :
    ((t.restated z).live y).map (·.handle) = (t.live y).map (·.handle) := by
  rw [restated_live, Option.map_map]
  exact congrArg (Option.map · _) (funext fun h => restate_handle z _ h)

/-! ### Hand-on (R6) and the re-governing of a zone -/

/-- What governs a zone is read from the holds and the map. -/
theorem State.governing_congr {s t : State} (hh : t.holds = s.holds) (hm : t.map = s.map) (z : Zone) :
    t.governing z = s.governing z := by
  simp only [State.governing, State.effectiveHold_eq, State.entry, hh, hm]

theorem governmentHanded_congr {s s' t t' : State} (hs : s'.holds = s.holds) (hsm : s'.map = s.map)
    (ht : t'.holds = t.holds) (htm : t'.map = t.map) (z : Zone) :
    governmentHanded s' t' z = governmentHanded s t z := by
  simp only [governmentHanded, State.governing_congr hs hsm, State.governing_congr ht htm]

/-- The hand-on of a change appends what R6 names. -/
theorem State.handChange_eq (s t : State) (z : Zone) :
    t.handChange z (s.governing z) = t.setEvents (t.events ++ governmentHanded s t z) := by
  unfold State.handChange governmentHanded
  cases t.governing z with
  | none => simp [State.setEvents]
  | some g =>
    dsimp only
    split
    · simp [State.setEvents]
    · rfl

/-- A change to a zone's holds that reaches the table, the deadlines and the notices alone, with the re-resolution and
the hand-on that follow it (R5, R6). -/
theorem State.regovern_of_change {s : State} {z : Zone} {change : State → State} {tab : HoldTable} {time : Timebase}
    {raised : List Handoff}
    (hc : change s = { s with holds := tab, time := time, events := s.events ++ raised }) :
    s.regovern z change = { s with
      holds := tab.restated z, time := time
      events := s.events ++ raised ++ governmentHanded s (s.regovern z change) z } := by
  have he : s.regovern z change
      = ((change s).resolve z).setEvents (((change s).resolve z).events
          ++ governmentHanded s ((change s).resolve z) z) := State.handChange_eq s _ z
  rw [he, governmentHanded_congr (t := (change s).resolve z) rfl rfl rfl rfl, hc]
  rfl

/-- After the re-resolution of a zone every record has the state that R5 gives it there. -/
theorem asResolved_of_restated {t : State} {tab : HoldTable} {z : Zone} (ht : t.holds = tab.restated z) :
    asResolved t z = restate z ((tab.live z).map (·.handle)) := by
  funext h
  rw [asResolved_eq_restate, ht, HoldTable.restated_live_handle]

theorem HoldTable.at_restated {t : State} {tab : HoldTable} {z : Zone} (ht : t.holds = tab.restated z) (j : Nat) :
    t.holds.at j = (tab.at j).map (asResolved t z) := by
  rw [asResolved_of_restated ht, ht, restated_at]

end Sys2Proof.Machine
end

section
/-! The invariant of the hold table, said of the table alone: each slot, each zone's list, and the states of R5. -/

namespace Sys2Proof.Machine

open Sys2Proof.Safety

/-- A slot stands as R1 to R3 have it: its generation is in range, its record carries the slot's handle, and BASE
records stand in slots 0 to 2 alone. -/
def HoldTable.SlotSound (t : HoldTable) (i : Nat) : Prop :=
  ∀ sl, t.slots[i]? = some sl → (1 ≤ sl.generation ∧ sl.generation ≤ 255) ∧
    ∀ h, sl.hold = some h → h.handle = ⟨i, sl.generation⟩ ∧ (i < 3 ∨ h.kind ≠ .base)

/-- The record that `x` names has no lower priority than the one that `y` names. -/
def HoldTable.Before (t : HoldTable) (x y : Handle) : Prop :=
  ∀ a, t.named x = some a → ∀ b, t.named y = some b → b.priority ≤ a.priority

/-- What R1 and R2 ask of the BASE hold of a zone. -/
structure Hold.IsBase (h : Hold) (z : Zone) : Prop where
  kind : h.kind = .base
  zone : h.zone = z
  live : h.state.isLapsed = false
  noReach : h.lapseOnReach = false
  noExpiry : h.expiry = none

/-- A zone's list names the zone's records, each once, the higher priority first, with the BASE hold (R2, R4). -/
structure HoldTable.ListSound (t : HoldTable) (z : Zone) : Prop where
  nodup : (t.lists.get z).Nodup
  members : ∀ x ∈ t.lists.get z, ∃ h, t.named x = some h ∧ h.zone = z
  sorted : (t.lists.get z).Pairwise t.Before
  listed : ∀ i h, t.at i = some h → h.zone = z → h.handle ∈ t.lists.get z
  base : ∃ h, t.named ⟨baseSlot z, 1⟩ = some h ∧ h.IsBase z

/-- The slots and the lists of the table stand as R1 to R4 have them. -/
structure HoldTable.Sound (t : HoldTable) : Prop where
  length : t.slots.length = 24
  slot : ∀ i, t.SlotSound i
  list : ∀ z, t.ListSound z

/-- Every record of the zone has the state of R5. -/
def HoldTable.Settled (t : HoldTable) (z : Zone) : Prop :=
  ∀ i h, t.at i = some h → h.zone = z → restate z ((t.live z).map (·.handle)) h = h

/-- No HOLD_EXPIRY of a BASE hold stands in the list or is in flight (R169). -/
def Timebase.NamesOpenSlots (x : Timebase) : Prop := (x.deadlines ++ x.expiries).all namesOpenSlot = true

/-! ### The invariant of the statements -/

theorem slotAgrees_iff (t : HoldTable) (i : Nat) : slotAgrees t.slots i = true ↔ t.SlotSound i := by
  unfold slotAgrees HoldTable.SlotSound
  cases t.slots[i]? with
  | none => simp
  | some sl => cases hh : sl.hold <;> simp [hh, and_assoc]

theorem listOrdered_iff (t : HoldTable) (z : Zone) :
    listOrdered t z = true ↔ (t.lists.get z).Nodup ∧ (∀ x ∈ t.lists.get z, ∃ h, t.named x = some h ∧ h.zone = z) ∧
      (t.lists.get z).Pairwise t.Before := by
  simp only [listOrdered, Bool.and_eq_true, decide_eq_true_eq, List.all_eq_true, List.pairwise_map,
    List.pairwise_filterMap, and_assoc]
  refine and_congr_right fun _ => and_congr ?_ Iff.rfl
  refine forall₂_congr fun x _ => ?_
  cases t.named x <;> simp

theorem baseStands_iff (t : HoldTable) (z : Zone) :
    baseStands t z = true ↔ (∃ h, t.named ⟨baseSlot z, 1⟩ = some h ∧ h.IsBase z) ∧ ⟨baseSlot z, 1⟩ ∈ t.lists.get z := by
  unfold baseStands
  cases hn : t.named ⟨baseSlot z, 1⟩ with
  | none => simp
  | some h =>
    have hb : h.IsBase z ↔ h.kind = .base ∧ h.zone = z ∧ h.state.isLapsed = false ∧ h.lapseOnReach = false ∧
        h.expiry = none :=
      ⟨fun ⟨a, b, c, d, e⟩ => ⟨a, b, c, d, e⟩, fun ⟨a, b, c, d, e⟩ => ⟨a, b, c, d, e⟩⟩
    simp [hb, and_assoc]

theorem recordStands_iff (s : State) (h : Hold) :
    recordStands s h = true ↔ h.handle ∈ s.holds.lists.get h.zone ∧
      restate h.zone ((s.holds.live h.zone).map (·.handle)) h = h := by
  simp [recordStands, asResolved_eq_restate]

theorem HoldTable.exists_at_iff_mem (t : HoldTable) (h : Hold) :
    (∃ i, t.at i = some h) ↔ h ∈ t.slots.filterMap (·.hold) := by
  rw [List.mem_filterMap]
  constructor
  · rintro ⟨i, hi⟩
    obtain ⟨sl, hsl, hh⟩ := at_eq_some.1 hi
    exact ⟨sl, List.mem_of_getElem? hsl, hh⟩
  · rintro ⟨sl, hsl, hh⟩
    obtain ⟨i, hi⟩ := List.mem_iff_getElem?.1 hsl
    exact ⟨i, at_eq_some.2 ⟨sl, hi, hh⟩⟩

/-- In a table whose slots stand as they must, a handle names the record that carries it. -/
theorem HoldTable.named_iff {t : HoldTable} {x : Handle} {h : Hold} (hs : t.SlotSound x.slot) :
    t.named x = some h ↔ t.at x.slot = some h ∧ h.handle = x := by
  rw [named_eq_some, at_eq_some]
  constructor
  · rintro ⟨sl, hsl, hg, hh⟩
    refine ⟨⟨sl, hsl, hh⟩, ?_⟩
    rw [((hs sl hsl).2 h hh).1, hg]
  · rintro ⟨⟨sl, hsl, hh⟩, rfl⟩
    exact ⟨sl, hsl, congrArg Handle.gen ((hs sl hsl).2 h hh).1.symm, hh⟩

theorem forall_zone {p : Zone → Prop} : (∀ z, p z) ↔ p .fresh ∧ p .chill ∧ p .freeze :=
  ⟨fun h => ⟨h _, h _, h _⟩, fun ⟨hf, hc, hz⟩ z => by cases z <;> assumption⟩

/-- The invariant of the statements, by table, states and deadlines. -/
theorem baseSafe_iff (s : State) :
    BaseSafe s ↔ s.holds.Sound ∧ (∀ z, s.holds.Settled z) ∧ s.time.NamesOpenSlots := by
  have hrec : (s.holds.slots.filterMap (·.hold)).all (recordStands s) = true ↔
      ∀ i h, s.holds.at i = some h → h.handle ∈ s.holds.lists.get h.zone ∧
        restate h.zone ((s.holds.live h.zone).map (·.handle)) h = h := by
    simp only [List.all_eq_true, recordStands_iff]
    constructor
    · intro hall i h hi
      exact hall h ((HoldTable.exists_at_iff_mem _ h).1 ⟨i, hi⟩)
    · intro hall h hm
      obtain ⟨i, hi⟩ := (HoldTable.exists_at_iff_mem _ h).2 hm
      exact hall i h hi
  have hslot : s.holds.slots.length = 24 →
      ((List.range 24).all (slotAgrees s.holds.slots) = true ↔ ∀ i, s.holds.SlotSound i) := by
    intro hlen
    simp only [List.all_eq_true, List.mem_range, slotAgrees_iff]
    refine ⟨fun hall i sl hi => ?_, fun hall i _ => hall i⟩
    exact hall i (hlen ▸ (List.getElem?_eq_some_iff.1 hi).1) sl hi
  constructor
  · rintro ⟨hbase, ⟨hlen, hslots⟩, htime, hlists, hrecs⟩
    replace hbase := forall_zone (p := fun z => baseStands s.holds z = true) |>.2 hbase
    replace hlists := forall_zone (p := fun z => listOrdered s.holds z = true) |>.2 hlists
    rw [hrec] at hrecs
    refine ⟨⟨hlen, (hslot hlen).1 hslots, fun z => ?_⟩, fun z i h hi hz => hz ▸ (hrecs i h hi).2, htime⟩
    obtain ⟨hnd, hmem, hsort⟩ := (listOrdered_iff _ z).1 (hlists z)
    exact ⟨hnd, hmem, hsort, fun i h hi hz => hz ▸ (hrecs i h hi).1, ((baseStands_iff _ z).1 (hbase z)).1⟩
  · rintro ⟨⟨hlen, hslots, hlist⟩, hset, htime⟩
    have hbase (z : Zone) : baseStands s.holds z = true := by
      obtain ⟨h, hn, hb⟩ := (hlist z).base
      obtain ⟨hat, hh⟩ := (HoldTable.named_iff (hslots _)).1 hn
      exact (baseStands_iff _ z).2 ⟨⟨h, hn, hb⟩, hh ▸ (hlist z).listed _ h hat hb.zone⟩
    have hord (z : Zone) : listOrdered s.holds z = true :=
      (listOrdered_iff _ z).2 ⟨(hlist z).nodup, (hlist z).members, (hlist z).sorted⟩
    exact ⟨forall_zone.1 hbase, ⟨hlen, (hslot hlen).2 hslots⟩, htime, forall_zone.1 hord,
      hrec.2 fun i h hi => ⟨(hlist h.zone).listed i h hi rfl, hset h.zone i h hi rfl⟩⟩

theorem HoldTable.Sound.named_iff {t : HoldTable} (hs : t.Sound) {x : Handle} {h : Hold} :
    t.named x = some h ↔ t.at x.slot = some h ∧ h.handle = x := HoldTable.named_iff (hs.slot _)

theorem HoldTable.Sound.handle_slot {t : HoldTable} (hs : t.Sound) {i : Nat} {h : Hold} (hi : t.at i = some h) :
    h.handle.slot = i := by
  obtain ⟨sl, hsl, hh⟩ := at_eq_some.1 hi
  rw [((hs.slot i sl hsl).2 h hh).1]

theorem HoldTable.Sound.named_of_at {t : HoldTable} (hs : t.Sound) {i : Nat} {h : Hold} (hi : t.at i = some h) :
    t.named h.handle = some h := hs.named_iff.2 ⟨(hs.handle_slot hi).symm ▸ hi, rfl⟩

/-- The slots 0 to 2 hold the BASE holds (R2, R30). -/
theorem HoldTable.Sound.base_at {t : HoldTable} (hs : t.Sound) {i : Nat} (hi : i < 3) :
    ∃ z h, t.at i = some h ∧ h.IsBase z ∧ i = baseSlot z := by
  have hb (z : Zone) : ∃ h, t.at (baseSlot z) = some h ∧ h.IsBase z := by
    obtain ⟨h, hn, hb⟩ := (hs.list z).base
    exact ⟨h, at_of_named hn, hb⟩
  have hz : ∃ z, i = baseSlot z := by
    interval_cases i
    · exact ⟨.fresh, rfl⟩
    · exact ⟨.chill, rfl⟩
    · exact ⟨.freeze, rfl⟩
  obtain ⟨z, rfl⟩ := hz
  obtain ⟨h, hat, hbase⟩ := hb z
  exact ⟨z, h, hat, hbase, rfl⟩

/-- A record is BASE exactly where its slot is one of the first three (R2). -/
theorem HoldTable.Sound.base_iff {t : HoldTable} (hs : t.Sound) {i : Nat} {h : Hold} (hi : t.at i = some h) :
    h.kind = .base ↔ i < 3 := by
  constructor
  · intro hk
    obtain ⟨sl, hsl, hh⟩ := at_eq_some.1 hi
    exact ((hs.slot i sl hsl).2 h hh).2.resolve_right (not_not_intro hk)
  · intro hlt
    obtain ⟨z, b, hb, hbase, -⟩ := hs.base_at hlt
    cases hi.symm.trans hb
    exact hbase.kind

/-- Every zone has an EFFECTIVE hold (R5), for its BASE hold stands in its list and never lapses. -/
theorem HoldTable.Sound.live_isSome {t : HoldTable} (hs : t.Sound) (z : Zone) : (t.live z).isSome = true := by
  obtain ⟨h, hn, hb⟩ := (hs.list z).base
  obtain ⟨hat, hh⟩ := hs.named_iff.1 hn
  exact HoldTable.live_isSome (hh ▸ (hs.list z).listed _ h hat hb.zone) hn hb.live

/-- The EFFECTIVE hold of a zone stands in the slot of its handle and is the zone's. -/
theorem HoldTable.Sound.at_of_live {t : HoldTable} (hs : t.Sound) {z : Zone} {h : Hold} (hl : t.live z = some h) :
    t.at h.handle.slot = some h ∧ h.zone = z ∧ h.state.isLapsed = false := by
  obtain ⟨⟨x, hx, hn⟩, hlive⟩ := live_eq_some hl
  obtain ⟨hat, rfl⟩ := hs.named_iff.1 hn
  obtain ⟨h', hn', hz⟩ := (hs.list z).members _ hx
  cases hn.symm.trans hn'
  exact ⟨hat, hz, hlive⟩

end Sys2Proof.Machine
end

section
/-! Changes that keep the invariant of the hold table: at one slot and one list, and the re-resolution of a zone. -/

namespace Sys2Proof.Machine

open Sys2Proof.Safety

/-! ### Handles after a change of one slot -/

/-- After a record is put in a slot, the slot's handle names it and every other handle names what it did (R3). -/
theorem HoldTable.put_named {t : HoldTable} {i : Nat} {sl : Slot} (hi : t.slots[i]? = some sl) (r : Option Hold)
    (x : Handle) : (t.put i r).named x = if x = ⟨i, sl.generation⟩ then r else t.named x := by
  by_cases hx : x.slot = i
  · subst hx
    rw [named_eq_bind, named_eq_bind, put_slots_self hi, hi]
    by_cases hg : sl.generation = x.gen
    · simp [hg]
    · have hne : x ≠ ⟨x.slot, sl.generation⟩ := fun h => hg (congrArg Handle.gen h).symm
      simp [hg, hne]
  · have hne : x ≠ ⟨i, sl.generation⟩ := fun h => hx (congrArg Handle.slot h)
    rw [if_neg hne, named_congr (put_slots_other t r hx)]

/-! ### A change at one slot and in one zone's list -/

/-- The tables differ in slot `i` and in the list of zone `z` alone, and the slot's record, if any, is the zone's. -/
structure HoldTable.ChangesAt (i : Nat) (z : Zone) (t t' : HoldTable) : Prop where
  length : t'.slots.length = t.slots.length
  slots : ∀ j, j ≠ i → t'.slots[j]? = t.slots[j]?
  lists : ∀ y, y ≠ z → t'.lists.get y = t.lists.get y
  before : ∀ h, t.at i = some h → h.zone = z
  after : ∀ h, t'.at i = some h → h.zone = z

section ChangesAt

variable {i : Nat} {z y : Zone} {t t' : HoldTable}

/-- Another zone's list names what it did. -/
theorem HoldTable.ChangesAt.named_of_mem (hc : ChangesAt i z t t') (hs : t.Sound) (hy : y ≠ z) {x : Handle}
    (hx : x ∈ t.lists.get y) : t'.named x = t.named x := by
  obtain ⟨h, hn, hz⟩ := (hs.list y).members x hx
  refine named_congr (hc.slots _ fun hi => hy ?_)
  rw [← hz, ← hc.before h (hi ▸ at_of_named hn)]

/-- Another zone's records stand where they did. -/
theorem HoldTable.ChangesAt.at_of_zone (hc : ChangesAt i z t t') (hy : y ≠ z) {j : Nat} {h : Hold} (hz : h.zone = y) :
    t'.at j = some h ↔ t.at j = some h := by
  by_cases hj : j = i
  · subst hj
    exact ⟨fun hj => absurd (hz.symm.trans (hc.after h hj)) hy, fun hj => absurd (hz.symm.trans (hc.before h hj)) hy⟩
  · rw [at_congr (hc.slots j hj)]

theorem HoldTable.ChangesAt.live_other (hc : ChangesAt i z t t') (hs : t.Sound) (hy : y ≠ z) :
    t'.live y = t.live y := by
  rw [live, live, hc.lists y hy, firstLive_map (t := t) id fun x hx => ⟨?_, fun _ _ => rfl⟩, Option.map_id_fun, id]
  rw [hc.named_of_mem hs hy hx, Option.map_id_fun, id]

theorem HoldTable.ChangesAt.listSound_other (hc : ChangesAt i z t t') (hs : t.Sound) (hy : y ≠ z) : t'.ListSound y := by
  have hn {x : Handle} (hx : x ∈ t.lists.get y) : t'.named x = t.named x := hc.named_of_mem hs hy hx
  have hl := hs.list y
  obtain ⟨b, hb, hbase⟩ := hl.base
  have hmem : ⟨baseSlot y, 1⟩ ∈ t.lists.get y := by
    obtain ⟨hat, hh⟩ := hs.named_iff.1 hb
    exact hh ▸ hl.listed _ b hat hbase.zone
  constructor
  case nodup => exact hc.lists y hy ▸ hl.nodup
  case members =>
    intro x hx
    rw [hc.lists y hy] at hx
    exact hn hx ▸ hl.members x hx
  case sorted =>
    rw [hc.lists y hy]
    refine hl.sorted.imp_of_mem fun {x w} hx hw hb => ?_
    rw [Before, hn hx, hn hw]
    exact hb
  case listed =>
    intro j h hj hz
    rw [hc.lists y hy]
    exact hl.listed j h ((hc.at_of_zone hy hz).1 hj) hz
  case base => exact ⟨b, hn hmem ▸ hb, hbase⟩

/-- A change at one slot and one list keeps the table sound where that slot and that list are. -/
theorem HoldTable.ChangesAt.sound (hc : ChangesAt i z t t') (hs : t.Sound) (hi : t'.SlotSound i) (hz : t'.ListSound z) :
    t'.Sound where
  length := hc.length.trans hs.length
  slot j := by
    by_cases hj : j = i
    · exact hj ▸ hi
    · intro sl hsl
      exact hs.slot j sl (hc.slots j hj ▸ hsl)
  list y := by
    by_cases hy : y = z
    · exact hy ▸ hz
    · exact hc.listSound_other hs hy

theorem HoldTable.ChangesAt.settled_other (hc : ChangesAt i z t t') (hs : t.Sound) (hy : y ≠ z) (hset : t.Settled y) :
    t'.Settled y := by
  intro j h hj hz
  rw [hc.live_other hs hy]
  exact hset j h ((hc.at_of_zone hy hz).1 hj) hz

end ChangesAt

/-! ### Re-resolution -/

theorem restate_restate (z : Zone) (eff : Option Handle) (h : Hold) :
    restate z eff (restate z eff h) = restate z eff h := by
  by_cases hc : h.zone = z ∧ h.state.isLapsed = false
  · rw [restate_of_live (by simpa using hc.1) (by simpa using hc.2), restate_handle, restate_of_live hc.1 hc.2]
  · have hid : restate z eff h = h := by simp [restate, hc]
    rw [hid, hid]

theorem Hold.IsBase.restate {h : Hold} {y : Zone} (hb : h.IsBase y) (z : Zone) (eff : Option Handle) :
    (Machine.restate z eff h).IsBase y := by
  have hl := (restate_isLapsed z eff h).trans hb.live
  rw [restate_eq] at hl ⊢
  exact ⟨hb.kind, hb.zone, hl, hb.noReach, hb.noExpiry⟩

theorem HoldTable.Sound.restated {t : HoldTable} (hs : t.Sound) (z : Zone) : (t.restated z).Sound where
  length := (restated_length t z).trans hs.length
  slot i sl hsl := by
    rw [restated_slots, Option.map_eq_some_iff] at hsl
    obtain ⟨sl, hsl, rfl⟩ := hsl
    refine ⟨(hs.slot i sl hsl).1, fun h hh => ?_⟩
    obtain ⟨r, hr, rfl⟩ := Option.map_eq_some_iff.1 hh
    rw [restate_eq]
    exact (hs.slot i sl hsl).2 r hr
  list y := by
    have hl := hs.list y
    constructor
    case nodup => exact hl.nodup
    case members =>
      intro x hx
      obtain ⟨h, hn, hz⟩ := hl.members x hx
      exact ⟨_, by rw [restated_named, hn, Option.map_some], by rw [restate_zone, hz]⟩
    case sorted =>
      refine hl.sorted.imp fun {x w} hb a ha b hb' => ?_
      rw [restated_named, Option.map_eq_some_iff] at ha hb'
      obtain ⟨a, ha, rfl⟩ := ha
      obtain ⟨b, hb', rfl⟩ := hb'
      rw [restate_eq _ _ a, restate_eq _ _ b]
      exact hb a ha b hb'
    case listed =>
      intro i h hi hz
      rw [restated_at, Option.map_eq_some_iff] at hi
      obtain ⟨h, hi, rfl⟩ := hi
      rw [restate_handle]
      exact hl.listed i h hi (by rwa [restate_zone] at hz)
    case base =>
      obtain ⟨h, hn, hb⟩ := hl.base
      exact ⟨_, by rw [restated_named, hn, Option.map_some], hb.restate z _⟩

/-- The zone that is re-resolved has the states of R5. -/
theorem HoldTable.settled_restated_self (t : HoldTable) (z : Zone) : (t.restated z).Settled z := by
  intro i h hi _
  rw [restated_at, Option.map_eq_some_iff] at hi
  obtain ⟨h, -, rfl⟩ := hi
  rw [restated_live_handle, restate_restate]

/-- The re-resolution of one zone leaves the states of another. -/
theorem HoldTable.Settled.restated {t : HoldTable} {y z : Zone} (hset : t.Settled y) (hy : y ≠ z) :
    (t.restated z).Settled y := by
  intro i h hi hz
  rw [restated_at, Option.map_eq_some_iff] at hi
  obtain ⟨h, hi, rfl⟩ := hi
  rw [restate_zone] at hz
  have hother (eff : Option Handle) : restate z eff h = h := restate_of_other fun he => hy (hz.symm.trans he)
  rw [hother, restated_live_handle]
  exact hset i h hi hz

/-! ### The deadlines of the holds -/

/-- The timebase with an entry and its expiry removed (R171). -/
def Timebase.without (x : Timebase) (k : DeadlineKey) : Timebase :=
  { x with deadlines := dropKey k x.deadlines, expiries := dropKey k x.expiries }

/-- The timebase with an entry inserted (R170). -/
def Timebase.withEntry (x : Timebase) (k : DeadlineKey) (due : Instant) : Timebase :=
  { x with deadlines := placeDeadline ⟨k, due⟩ (dropKey k x.deadlines), expiries := dropKey k x.expiries }

theorem State.removeDeadline_eq (s : State) (k : DeadlineKey) : s.removeDeadline k = s.setTime (s.time.without k) := rfl

theorem State.insertAt_eq (s : State) (k : DeadlineKey) (due : Instant) :
    s.insertAt k due = s.setTime (s.time.withEntry k due) := rfl

theorem Timebase.namesOpenSlots_iff (x : Timebase) :
    x.NamesOpenSlots ↔ (∀ d ∈ x.deadlines, namesOpenSlot d = true) ∧ ∀ d ∈ x.expiries, namesOpenSlot d = true := by
  rw [NamesOpenSlots, List.all_eq_true, List.forall_mem_append]

theorem Timebase.NamesOpenSlots.without {x : Timebase} (hx : x.NamesOpenSlots) (k : DeadlineKey) :
    (x.without k).NamesOpenSlots := by
  rw [namesOpenSlots_iff] at hx ⊢
  exact ⟨fun d hd => hx.1 d (mem_dropKey.1 hd).1, fun d hd => hx.2 d (mem_dropKey.1 hd).1⟩

theorem Timebase.NamesOpenSlots.withEntry {x : Timebase} (hx : x.NamesOpenSlots) {k : DeadlineKey} {due : Instant}
    (hk : namesOpenSlot ⟨k, due⟩ = true) : (x.withEntry k due).NamesOpenSlots := by
  rw [namesOpenSlots_iff] at hx ⊢
  refine ⟨fun d hd => ?_, fun d hd => hx.2 d (mem_dropKey.1 hd).1⟩
  rcases mem_placeDeadline.1 hd with rfl | hd
  · exact hk
  · exact hx.1 d (mem_dropKey.1 hd).1

/-! ### The invariant while one zone awaits its re-resolution -/

/-- The invariant, but for the states of the records of one zone. -/
structure State.SafeBut (s : State) (z : Zone) : Prop where
  sound : s.holds.Sound
  settled : ∀ y, y ≠ z → s.holds.Settled y
  time : s.time.NamesOpenSlots

theorem State.SafeBut.of_baseSafe {s : State} (hs : BaseSafe s) (z : Zone) : s.SafeBut z := by
  obtain ⟨hsound, hset, htime⟩ := (baseSafe_iff s).1 hs
  exact ⟨hsound, fun y _ => hset y, htime⟩

/-- A change at one slot and in the zone's list keeps the invariant, but for the states of the zone. -/
theorem State.SafeBut.change {s t : State} {z : Zone} {i : Nat} (hs : s.SafeBut z)
    (hc : HoldTable.ChangesAt i z s.holds t.holds) (hi : t.holds.SlotSound i) (hz : t.holds.ListSound z)
    (ht : t.time.NamesOpenSlots) : t.SafeBut z :=
  ⟨hc.sound hs.sound hi hz, fun y hy => hc.settled_other hs.sound hy (hs.settled y hy), ht⟩

theorem State.SafeBut.resolve {s : State} {z : Zone} (hs : s.SafeBut z) : BaseSafe (s.resolve z) := by
  rw [baseSafe_iff, State.resolve_eq]
  refine ⟨hs.sound.restated z, fun y => ?_, hs.time⟩
  by_cases hy : y = z
  · exact hy ▸ HoldTable.settled_restated_self s.holds z
  · exact (hs.settled y hy).restated hy

/-- The invariant reads the holds and the deadlines alone. -/
theorem baseSafe_congr {s t : State} (hh : t.holds = s.holds) (ht : t.time.NamesOpenSlots ↔ s.time.NamesOpenSlots) :
    BaseSafe t ↔ BaseSafe s := by rw [baseSafe_iff, baseSafe_iff, hh, ht]

@[simp] theorem State.handChange_baseSafe (s : State) (z : Zone) (g : Option Governing) :
    BaseSafe (s.handChange z g) ↔ BaseSafe s := baseSafe_congr (by simp) (by simp)

/-- A change of a zone's holds that keeps the invariant but for the zone's states keeps it once they are resolved. -/
theorem State.SafeBut.regovern {s : State} {z : Zone} {change : State → State} (h : (change s).SafeBut z) :
    BaseSafe (s.regovern z change) := (State.handChange_baseSafe _ _ _).2 h.resolve

end Sys2Proof.Machine
end

section
/-! Records replaced in their slots: what the lapse, the compliance figures and the commit of a regime do to the hold
table, and that they keep its invariant. -/

namespace Sys2Proof.Machine

open Sys2Proof.Safety

/-! ### A record replaced by one of the same hold -/

/-- The record `h'` may stand in the place of `h`: it is of the same hold, and a BASE hold stays one. -/
structure Hold.Succeeds (h' h : Hold) : Prop where
  handle : h'.handle = h.handle
  zone : h'.zone = h.zone
  kind : h'.kind = h.kind
  base : h.IsBase h.zone → h'.IsBase h.zone

section Replaced

variable {t : HoldTable} {i : Nat} {h h' : Hold}

theorem HoldTable.Sound.put_named (hs : t.Sound) (hi : t.at i = some h) (r : Option Hold) (x : Handle) :
    (t.put i r).named x = if x = h.handle then r else t.named x := by
  obtain ⟨sl, hsl, hh⟩ := at_eq_some.1 hi
  rw [HoldTable.put_named hsl, ((hs.slot i sl hsl).2 h hh).1]

theorem HoldTable.changesAt_put (hi : t.at i = some h) (hr : h'.Succeeds h)
    {l : PerZone (List Handle)} (hl : ∀ y, y ≠ h.zone → l.get y = t.lists.get y) :
    ChangesAt i h.zone t { t.put i (some h') with lists := l } where
  length := put_length t i _
  slots _ hj := put_slots_other t _ hj
  lists := hl
  before r hr := by
    cases hi.symm.trans hr
    rfl
  after r hat := by
    rw [at_withLists, put_at_of_at hi] at hat
    cases hat
    exact hr.zone

theorem HoldTable.Sound.slotSound_put (hs : t.Sound) (hi : t.at i = some h) (hr : h'.Succeeds h)
    (l : PerZone (List Handle)) : SlotSound { t.put i (some h') with lists := l } i := by
  obtain ⟨sl, hsl, hh⟩ := at_eq_some.1 hi
  obtain ⟨hgen, hrec⟩ := hs.slot i sl hsl
  intro sl' hsl'
  cases (put_slots_self hsl (some h')).symm.trans hsl'
  refine ⟨hgen, fun r hr' => ?_⟩
  cases hr'
  rw [hr.handle, hr.kind]
  exact hrec h hh

/-- The zone's list may be rearranged as a record of it is replaced, if the new order is that of R4. -/
theorem HoldTable.Sound.listSound_put (hs : t.Sound) (hi : t.at i = some h) (hr : h'.Succeeds h)
    {l : PerZone (List Handle)} (hperm : (l.get h.zone).Perm (t.lists.get h.zone))
    (hsort : (l.get h.zone).Pairwise (t.put i (some h')).Before) :
    ListSound { t.put i (some h') with lists := l } h.zone := by
  have hl := hs.list h.zone
  have hn := hs.put_named hi (some h')
  constructor
  case nodup => exact hperm.nodup_iff.2 hl.nodup
  case members =>
    intro x hx
    rw [named_withLists, hn]
    split
    · exact ⟨h', rfl, hr.zone⟩
    · exact hl.members x (hperm.mem_iff.1 hx)
  case sorted => exact hsort
  case listed =>
    intro j r hj hz
    refine hperm.mem_iff.2 ?_
    rw [at_withLists] at hj
    by_cases hij : j = i
    · subst hij
      rw [put_at_of_at hi] at hj
      cases hj
      rw [hr.handle]
      exact hl.listed j h hi rfl
    · rw [put_at_other t _ hij] at hj
      exact hl.listed j r hj hz
  case base =>
    obtain ⟨b, hb, hbase⟩ := hl.base
    rw [named_withLists, hn]
    split
    · next he =>
      have hbh : b = h := Option.some.inj (hb.symm.trans (he ▸ hs.named_of_at hi))
      exact ⟨h', rfl, hr.base (hbh ▸ hbase)⟩
    · exact ⟨b, hb, hbase⟩

theorem HoldTable.Sound.sorted_put (hs : t.Sound) (hi : t.at i = some h) (hp : h'.priority = h.priority)
    (z : Zone) : (t.lists.get z).Pairwise (t.put i (some h')).Before := by
  have hn {x : Handle} {a : Hold} (ha : (t.put i (some h')).named x = some a) :
      ∃ a', t.named x = some a' ∧ a'.priority = a.priority := by
    rw [hs.put_named hi] at ha
    split at ha
    · next he =>
      cases ha
      exact ⟨h, he ▸ hs.named_of_at hi, hp.symm⟩
    · exact ⟨a, ha, rfl⟩
  refine (hs.list z).sorted.imp fun {x y} hb a ha b hb' => ?_
  obtain ⟨a', ha', hpa⟩ := hn ha
  obtain ⟨b', hb', hpb⟩ := hn hb'
  rw [← hpa, ← hpb]
  exact hb a' ha' b' hb'

/-- Where the new record is lapsed exactly if the old one is, no zone's EFFECTIVE hold becomes another. -/
theorem HoldTable.Sound.put_live (hs : t.Sound) (hi : t.at i = some h) (hl : h'.state.isLapsed = h.state.isLapsed)
    (y : Zone) : (t.put i (some h')).live y = (t.live y).map fun r => if r.handle = h.handle then h' else r := by
  rw [live, live, put_lists]
  refine firstLive_map _ fun x _ => ⟨?_, fun r hr => ?_⟩
  · rw [hs.put_named hi]
    cases hx : t.named x with
    | none =>
      rw [if_neg fun he => by simp [he, hs.named_of_at hi] at hx]
      rfl
    | some r => simp only [Option.map_some, (hs.named_iff.1 hx).2]; split <;> rfl
  · split
    · next he =>
      have hrh : r = h := Option.some.inj (hr.symm.trans ((hs.named_iff.1 hr).2.symm.trans he ▸ hs.named_of_at hi))
      rw [hrh, hl]
    · rfl

/-- A record of the same hold in the same state leaves the states of R5. -/
theorem HoldTable.Sound.settled_put (hs : t.Sound) (hi : t.at i = some h) (hr : h'.Succeeds h)
    (hst : h'.state = h.state) {y : Zone} (hset : t.Settled y) : (t.put i (some h')).Settled y := by
  have heff : ((t.put i (some h')).live y).map (·.handle) = (t.live y).map (·.handle) := by
    rw [hs.put_live hi (by rw [hst]), Option.map_map]
    refine congrArg (Option.map · _) (funext fun r => ?_)
    simp only [Function.comp_apply]
    split
    · next he => rw [he, hr.handle]
    · rfl
  intro j r hj hz
  rw [heff]
  by_cases hij : j = i
  · subst hij
    rw [put_at_of_at hi] at hj
    cases hj
    have hold := restate_eq_self_iff.1 (hset j h hi (hr.zone ▸ hz))
    rwa [restate_eq_self_iff, hr.zone, hr.handle, hst]
  · rw [put_at_other t _ hij] at hj
    exact hset j r hj hz

end Replaced

/-- A record replaced in its slot keeps the invariant, but for the states of its zone. -/
theorem State.SafeBut.put {s t : State} {z : Zone} {i : Nat} {h h' : Hold} (hs : s.SafeBut z)
    (hi : s.holds.at i = some h) (hz : h.zone = z) (hr : h'.Succeeds h) (hp : h'.priority = h.priority)
    (ht : t.holds = s.holds.put i (some h')) (htime : t.time.NamesOpenSlots) : t.SafeBut z := by
  subst hz
  have ht' : t.holds = { s.holds.put i (some h') with lists := s.holds.lists } := by
    rw [ht, HoldTable.put_eq_modify]
  refine hs.change (i := i) (ht' ▸ HoldTable.changesAt_put hi hr fun _ _ => rfl) (ht' ▸ hs.sound.slotSound_put hi hr _)
    (ht' ▸ hs.sound.listSound_put hi hr (.refl _) (hs.sound.sorted_put hi hp _)) htime

/-! ### The lapse (R20 to R23) -/

theorem State.lapse_of_lapsed {s : State} {i : Nat} {h : Hold} (cause : LapseCause) (hi : s.holds.at i = some h)
    (hl : h.state.isLapsed = true) : s.lapse i cause = s := by simp [State.lapse, hi, hl]

theorem State.lapse_of_live {s : State} {i : Nat} {h : Hold} (cause : LapseCause) (hi : s.holds.at i = some h)
    (hl : h.state.isLapsed = false) :
    s.lapse i cause = { s with
      holds := s.holds.put i (some { h with state := .lapsed cause }), time := s.time.without (.holdExpiry i)
      events := s.events ++ [.raise .holdLapsed] } := by
  simp only [State.lapse, hi, hl]
  rfl

theorem State.SafeBut.lapse {s : State} {z : Zone} {i : Nat} {h : Hold} (hs : s.SafeBut z) (hi : s.holds.at i = some h)
    (hz : h.zone = z) (hk : h.kind ≠ .base) (cause : LapseCause) : (s.lapse i cause).SafeBut z := by
  cases hl : h.state.isLapsed with
  | true => rwa [State.lapse_of_lapsed cause hi hl]
  | false =>
    refine hs.put (h' := { h with state := .lapsed cause }) hi hz ⟨rfl, rfl, rfl, fun hb => absurd hb.kind hk⟩ rfl ?_ ?_
    · rw [State.lapse_of_live cause hi hl]
    · rw [State.lapse_of_live cause hi hl]
      exact hs.time.without _

/-! ### The compliance figures (section 1.8) -/

theorem Hold.complied_succeeds (h : Hold) (f : Int) (tested suppressed : Bool) :
    (h.complied f tested suppressed).Succeeds h :=
  ⟨rfl, rfl, rfl, fun ⟨hk, hz, hl, hr, he⟩ => ⟨hk, hz, hl, hr, he⟩⟩

/-- A second counted on a hold changes neither the lists nor any state. -/
theorem State.setHolds_complied_baseSafe {s : State} {i : Nat} {h : Hold} (hs : BaseSafe s) (hi : s.holds.at i = some h)
    (f : Int) (tested suppressed : Bool) :
    BaseSafe (s.setHolds (s.holds.put i (some (h.complied f tested suppressed)))) := by
  have hr := h.complied_succeeds f tested suppressed
  obtain ⟨hsound, hset, htime⟩ := (baseSafe_iff s).1 hs
  have hbut := (State.SafeBut.of_baseSafe hs h.zone).put
    (t := s.setHolds (s.holds.put i (some (h.complied f tested suppressed)))) hi rfl hr rfl rfl htime
  exact (baseSafe_iff _).2 ⟨hbut.sound, fun y => hsound.settled_put hi hr rfl (hset y), htime⟩

theorem Hold.kind_of_lapsesByReach {h : Hold} {f : Int} {tested : Bool} (hl : h.lapsesByReach f tested = true) :
    h.kind = .boost := by
  simp only [Hold.lapsesByReach, Bool.and_eq_true, decide_eq_true_eq] at hl
  obtain ⟨⟨⟨⟨hk, -⟩, -⟩, -⟩, -⟩ := hl
  exact hk

theorem State.comply_baseSafe {s : State} (hs : BaseSafe s) (z : Zone) (f : Int) (tested suppressed : Bool) :
    BaseSafe (s.comply z f tested suppressed) := by
  unfold State.comply
  split
  · exact hs
  · next h he =>
    obtain ⟨hat, rfl, -⟩ := ((baseSafe_iff s).1 hs).1.at_of_live he
    have hs1 := State.setHolds_complied_baseSafe hs hat f tested suppressed
    dsimp only
    split
    · next hl =>
      have hk : (h.complied f tested suppressed).kind ≠ .base := by
        rw [(h.complied_succeeds f tested suppressed).kind, Hold.kind_of_lapsesByReach hl]
        exact HoldKind.noConfusion
      refine State.SafeBut.regovern ?_
      exact (State.SafeBut.of_baseSafe hs1 _).lapse (HoldTable.put_at_of_at hat _) rfl hk _
    · exact hs1

/-! ### The commit of a regime change (R22) -/

theorem State.SafeBut.lapseAtCommit {s : State} (hs : s.SafeBut .chill) (l : List Nat) :
    (s.lapseAtCommit l).SafeBut .chill := by
  induction l generalizing s with
  | nil => exact hs
  | cons i is ih =>
    unfold State.lapseAtCommit
    split
    · exact ih hs
    · next h hi =>
      split
      · next he =>
        simp only [Hold.endsAtCommit, Bool.and_eq_true, decide_eq_true_eq] at he
        obtain ⟨⟨hz, hk⟩, -⟩ := he
        exact ih (hs.lapse hi hz hk .regime)
      · exact ih hs

theorem State.SafeBut.retargetChillBase {s : State} (hs : s.SafeBut .chill) (r : Regime) :
    (s.retargetChillBase r).SafeBut .chill := by
  obtain ⟨b, hb, hbase⟩ := (hs.sound.list .chill).base
  have hat : s.holds.at (baseSlot .chill) = some b := HoldTable.at_of_named hb
  unfold State.retargetChillBase
  rw [hat]
  refine hs.put hat hbase.zone ?succeeds ?priority rfl hs.time
  case succeeds => exact ⟨rfl, rfl, rfl, fun ⟨hk, hz, hl, hr, he⟩ => ⟨hk, hz, hl, hr, he⟩⟩
  case priority => rfl

theorem State.commitHolds_baseSafe {s : State} (hs : BaseSafe s) (r : Regime) : BaseSafe (s.commitHolds r) :=
  (((State.SafeBut.of_baseSafe hs .chill).lapseAtCommit _).retargetChillBase r).resolve

end Sys2Proof.Machine
end

section
/-! HOLD OPEN: its change in closed form, and that it keeps the table's invariant. -/

namespace Sys2Proof

@[simp] theorem PerZone.get_set_self {α : Type} (p : PerZone α) (z : Zone) (a : α) : (p.set z a).get z = a := by
  cases z <;> rfl

theorem PerZone.get_set_other {α : Type} (p : PerZone α) {y z : Zone} (a : α) (h : y ≠ z) :
    (p.set z a).get y = p.get y := by
  cases y <;> cases z <;> first | rfl | exact absurd rfl h

end Sys2Proof

namespace Sys2Proof.Machine

open Sys2Proof.Safety

/-! ### Entering and leaving a list (R4) -/

theorem enterList_entersAt (t : HoldTable) (priority : Nat) (hd : Handle) (l : List Handle) :
    EntersAt t priority hd l (enterList t priority hd l) := by
  induction l with
  | nil => exact ⟨0, Nat.le_refl _, rfl, by simp, by simp⟩
  | cons x xs ih =>
    obtain ⟨k, hk, hl, hbefore, hafter⟩ := ih
    have later (hx : ∀ h ∈ t.named x, priority < h.priority)
        (he : enterList t priority hd (x :: xs) = x :: enterList t priority hd xs) :
        EntersAt t priority hd (x :: xs) (enterList t priority hd (x :: xs)) := by
      refine ⟨k + 1, Nat.succ_le_succ hk, by simp [he, hl], ?_, by simpa using hafter⟩
      rw [List.take_succ_cons, List.forall_mem_cons]
      exact ⟨hx, hbefore⟩
    cases hn : t.named x with
    | none => exact later (by simp [hn]) (by simp [enterList, hn])
    | some r =>
      by_cases hr : r.priority ≤ priority
      · exact ⟨0, Nat.zero_le _, by simp [enterList, hn, hr], by simp, by simp [hn, hr]⟩
      · exact later (by simpa [hn] using hr) (by simp [enterList, hn, hr])

theorem enterList_perm (t : HoldTable) (priority : Nat) (hd : Handle) (l : List Handle) :
    (enterList t priority hd l).Perm (hd :: l) := by
  obtain ⟨k, -, hl, -⟩ := enterList_entersAt t priority hd l
  rw [hl]
  simpa using List.perm_middle (a := hd) (l₁ := l.take k) (l₂ := l.drop k)

/-- A handle entered by its record's priority keeps the order of R4, `t'` being the table that holds the record. -/
theorem enterList_sorted {t t' : HoldTable} {hd : Handle} {r : Hold} {l : List Handle} (hd' : t'.named hd = some r)
    (hsame : ∀ x ∈ l, t'.named x = t.named x) (hsome : ∀ x ∈ l, ∃ a, t.named x = some a)
    (hl : l.Pairwise t.Before) : (enterList t r.priority hd l).Pairwise t'.Before := by
  induction l with
  | nil => simp [enterList]
  | cons x xs ih =>
    rw [List.forall_mem_cons] at hsame hsome
    obtain ⟨⟨a, ha⟩, hsome⟩ := hsome
    obtain ⟨hx, hsame⟩ := hsame
    obtain ⟨hfirst, hrest⟩ := List.pairwise_cons.1 hl
    have hxs : ∀ y ∈ xs, t'.Before x y := fun y hy => by
      rw [HoldTable.Before, hx, hsame y hy]
      exact hfirst y hy
    simp only [enterList, ha]
    split
    · next hle =>
      refine List.pairwise_cons.2 ⟨fun y hy c hc b hb => ?_, List.pairwise_cons.2 ⟨hxs, ?_⟩⟩
      · cases hd'.symm.trans hc
        rcases List.mem_cons.1 hy with rfl | hy
        · cases (hx.trans ha).symm.trans hb
          exact hle
        · exact (hxs y hy a (hx.trans ha) b hb).trans hle
      · refine hrest.imp_of_mem fun {y w} hy hw hb => ?_
        rw [HoldTable.Before, hsame y hy, hsame w hw]
        exact hb
    · next hgt =>
      refine List.pairwise_cons.2 ⟨fun y hy => ?_, ih hsame hsome hrest⟩
      rcases List.mem_cons.1 ((enterList_perm t r.priority hd xs).mem_iff.1 hy) with rfl | hy
      · intro c hc b hb
        cases (hx.trans ha).symm.trans hc
        cases hd'.symm.trans hb
        omega
      · exact hxs y hy

theorem mem_leaveList {h x : Handle} {l : List Handle} : x ∈ leaveList h l ↔ x ∈ l ∧ x ≠ h := by simp [leaveList]

/-- A handle that leaves a list it stands in once can enter it again. -/
theorem leaveList_perm {h : Handle} {l : List Handle} (hl : l.Nodup) (hm : h ∈ l) : (h :: leaveList h l).Perm l := by
  have he : leaveList h l = l.erase h := by
    rw [hl.erase_eq_filter, leaveList]
    exact List.filter_congr fun x _ => by by_cases hx : x = h <;> simp [hx]
  exact he ▸ (List.perm_cons_erase hm).symm

/-! ### HOLD OPEN (R12) -/

/-- The table with the record `r` in slot `i` and in the list of its zone. -/
def HoldTable.opened (t : HoldTable) (i : Nat) (r : Hold) : HoldTable :=
  { t.put i (some r) with
    lists := t.lists.set r.zone (enterList t r.priority r.handle (t.lists.get r.zone)) }

/-- The timebase with the deadline of a hold, where it has an expiry. -/
def Timebase.withExpiry (x : Timebase) (i : Nat) (due : Option Nat) : Timebase :=
  match due with
  | none => x
  | some d => x.withEntry (.holdExpiry i) ⟨d, x.ms⟩

theorem Timebase.NamesOpenSlots.withExpiry {x : Timebase} (hx : x.NamesOpenSlots) {i : Nat} (hi : 3 ≤ i)
    (due : Option Nat) : (x.withExpiry i due).NamesOpenSlots := by
  cases due with
  | none => exact hx
  | some d => exact hx.withEntry (by simpa [namesOpenSlot] using hi)

section Opened

variable {t : HoldTable} {i : Nat} {sl : Slot} {r : Hold}

theorem HoldTable.changesAt_opened (hi : t.slots[i]? = some sl) (hf : sl.hold = none) :
    ChangesAt i r.zone t (t.opened i r) where
  length := put_length t i _
  slots _ hj := put_slots_other t _ hj
  lists _ hy := PerZone.get_set_other _ _ hy
  before h hat := by simp [HoldTable.at, hi, hf] at hat
  after h hat := by
    rw [opened, at_withLists, put_at_self hi] at hat
    cases hat
    rfl

theorem HoldTable.Sound.slotSound_opened (hs : t.Sound) (hi : t.slots[i]? = some sl)
    (hh : r.handle = ⟨i, sl.generation⟩) (hk : r.kind ≠ .base) : (t.opened i r).SlotSound i := by
  intro sl' hsl'
  cases (put_slots_self hi (some r)).symm.trans hsl'
  refine ⟨(hs.slot i sl hi).1, fun h hr => ?_⟩
  cases hr
  exact ⟨hh, .inr hk⟩

theorem HoldTable.Sound.listSound_opened (hs : t.Sound) (hi : t.slots[i]? = some sl) (hf : sl.hold = none)
    (hh : r.handle = ⟨i, sl.generation⟩) : (t.opened i r).ListSound r.zone := by
  have hl := hs.list r.zone
  have hn (x : Handle) : (t.opened i r).named x = if x = r.handle then some r else t.named x := by
    rw [opened, named_withLists, HoldTable.put_named hi, hh]
  have hfree : t.named r.handle = none := by simp [named_eq_bind, hh, hi, hf]
  have hne {x : Handle} {a : Hold} (hx : t.named x = some a) : x ≠ r.handle := by
    rintro rfl
    simp [hfree] at hx
  have hsame : ∀ x ∈ t.lists.get r.zone, (t.opened i r).named x = t.named x := fun x hx => by
    obtain ⟨a, ha, -⟩ := hl.members x hx
    rw [hn, if_neg (hne ha)]
  have hlist : (t.opened i r).lists.get r.zone = enterList t r.priority r.handle (t.lists.get r.zone) :=
    PerZone.get_set_self _ _ _
  have hperm : ((t.opened i r).lists.get r.zone).Perm (r.handle :: t.lists.get r.zone) :=
    hlist ▸ enterList_perm t r.priority r.handle _
  constructor
  case nodup =>
    refine hperm.nodup_iff.2 (List.nodup_cons.2 ⟨fun hm => ?_, hl.nodup⟩)
    obtain ⟨a, ha, -⟩ := hl.members _ hm
    exact hne ha rfl
  case members =>
    intro x hx
    rcases List.mem_cons.1 (hperm.mem_iff.1 hx) with rfl | hx
    · exact ⟨r, by rw [hn, if_pos rfl], rfl⟩
    · exact hsame x hx ▸ hl.members x hx
  case sorted =>
    rw [hlist]
    refine enterList_sorted (by rw [hn, if_pos rfl]) hsame (fun x hx => ?_) hl.sorted
    obtain ⟨a, ha, -⟩ := hl.members x hx
    exact ⟨a, ha⟩
  case listed =>
    intro j h hj hz
    refine hperm.mem_iff.2 (List.mem_cons.2 ?_)
    by_cases hij : j = i
    · subst hij
      rw [opened, at_withLists, put_at_self hi] at hj
      cases hj
      exact .inl rfl
    · rw [opened, at_withLists, put_at_other t _ hij] at hj
      exact .inr (hl.listed j h hj hz)
  case base =>
    obtain ⟨b, hb, hbase⟩ := hl.base
    exact ⟨b, by rw [hn, if_neg (hne hb), hb], hbase⟩

/-- A free slot is none of the three of the BASE holds (R2). -/
theorem HoldTable.Sound.le_of_free (hs : t.Sound) (hi : t.slots[i]? = some sl) (hf : sl.hold = none) : 3 ≤ i := by
  by_contra hlt
  obtain ⟨z, h, hat, -⟩ := hs.base_at (Nat.lt_of_not_le hlt)
  simp [HoldTable.at, hi, hf] at hat

end Opened

/-- The record enters its slot, its zone's list, and the deadline list where it has an expiry. -/
def State.enterRecord (s : State) (i : Nat) (r : Hold) : State :=
  { s with holds := s.holds.opened i r, time := s.time.withExpiry i r.expiry }

theorem State.SafeBut.enterRecord {s : State} {i : Nat} {sl : Slot} {r : Hold} (hs : s.SafeBut r.zone)
    (hi : s.holds.slots[i]? = some sl) (hf : sl.hold = none) (hh : r.handle = ⟨i, sl.generation⟩)
    (hk : r.kind ≠ .base) : (s.enterRecord i r).SafeBut r.zone :=
  hs.change (HoldTable.changesAt_opened hi hf) (hs.sound.slotSound_opened hi hh hk)
    (hs.sound.listSound_opened hi hf hh) (hs.time.withExpiry (hs.sound.le_of_free hi hf) _)

/-- The record that HOLD OPEN creates, before its zone is resolved (R12, with the adjustments of R8 to R10). -/
def State.openedHold (s : State) (i : Nat) (z : Zone) (k : HoldKind) (target : Half) (halfBand priority flags : Byte)
    (minutes : Half) (floor : Byte) : Hold where
  handle := ⟨i, ((s.holds.slots[i]?).map (·.generation)).getD 1⟩
  zone := z
  kind := k
  target := (boundTarget k (s.baseTarget z) (adjustTarget z s.map.regime target.toInt)).val
  halfBand := (adjustHalfBand halfBand.toNat).val
  priority := (adjustPriority priority.toNat).val
  expiry := if flags.getLsbD 0 then expiryDue s.time.uptime minutes.toNat else none
  speedFloor := (if flags.getLsbD 1 then adjustFloor floor.toNat else ⟨none, false⟩).val
  lapseOnReach := flags.getLsbD 2
  origin := .link
  state := .shadowed
  figures := .zero

theorem State.regovern_congr {s : State} {z : Zone} {f g : State → State} (h : f s = g s) :
    s.regovern z f = s.regovern z g := by simp only [State.regovern, h]

theorem State.openHold_state (s : State) (i : Nat) (z : Zone) (k : HoldKind) (target : Half)
    (halfBand priority flags : Byte) (minutes : Half) (floor : Byte) :
    (s.openHold i z k target halfBand priority flags minutes floor).1
      = s.regovern z fun s0 => s0.enterRecord i (s.openedHold i z k target halfBand priority flags minutes floor) := by
  unfold State.openHold State.openedHold
  dsimp only
  generalize (if flags.getLsbD 0 then expiryDue s.time.uptime minutes.toNat else none) = due
  refine State.regovern_congr ?_
  cases due <;> rfl

/-- The lowest-numbered free slot is free, and every slot before it is not (R2). -/
theorem HoldTable.freeSlot_eq_some {t : HoldTable} {i : Nat} :
    t.freeSlot = some i ↔ (∃ sl, t.slots[i]? = some sl ∧ sl.hold = none) ∧
      ∀ j < i, ∀ sl, t.slots[j]? = some sl → sl.hold ≠ none := by
  rw [HoldTable.freeSlot, List.findIdx?_eq_some_iff_getElem]
  constructor
  · rintro ⟨hi, hf, hlt⟩
    refine ⟨⟨_, List.getElem?_eq_getElem hi, by simpa using hf⟩, fun j hj sl hsl => ?_⟩
    obtain ⟨hj', rfl⟩ := List.getElem?_eq_some_iff.1 hsl
    simpa using hlt j hj
  · rintro ⟨⟨sl, hsl, hf⟩, hlt⟩
    obtain ⟨hi, rfl⟩ := List.getElem?_eq_some_iff.1 hsl
    exact ⟨hi, by simp [hf], fun j hj => by simpa using hlt j hj _ (List.getElem?_eq_getElem (hj.trans hi))⟩

theorem State.openHold_baseSafe {s : State} (hs : BaseSafe s) {i : Nat} {k : HoldKind} (hi : s.holds.freeSlot = some i)
    (hk : k ≠ .base) (z : Zone) (target : Half) (halfBand priority flags : Byte) (minutes : Half) (floor : Byte) :
    BaseSafe (s.openHold i z k target halfBand priority flags minutes floor).1 := by
  obtain ⟨⟨sl, hsl, hf⟩, -⟩ := HoldTable.freeSlot_eq_some.1 hi
  have hentered := (State.SafeBut.of_baseSafe hs z).enterRecord
    (r := s.openedHold i z k target halfBand priority flags minutes floor) hsl hf (by simp [State.openedHold, hsl]) hk
  rw [State.openHold_state]
  exact hentered.regovern (change := fun s0 => s0.enterRecord i _)

theorem holdOpen_baseSafe {s : State} (hs : BaseSafe s) (zone kind : Byte) (target : Half)
    (halfBand priority flags : Byte) (minutes : Half) (floor : Byte) :
    BaseSafe (holdOpen zone kind target halfBand priority flags minutes floor s).1 := by
  unfold holdOpen
  split
  · next z k _ _ =>
    split
    · exact hs
    · next hk =>
      split
      · exact hs
      · split
        · exact hs
        · split
          · exact hs
          · next i hi => exact State.openHold_baseSafe hs hi hk ..
  · exact hs

end Sys2Proof.Machine
end

section
/-! HOLD AMEND and HOLD RETIRE: their changes in closed form, and that each keeps the table's invariant. -/

namespace Sys2Proof.Machine

open Sys2Proof.Safety

/-! ### HOLD RETIRE (R17) -/

/-- The table with the slot of `h` freed and its handle gone from its list. -/
def HoldTable.retired (t : HoldTable) (h : Hold) : HoldTable :=
  { t.free h.handle.slot with lists := t.lists.set h.zone (leaveList h.handle (t.lists.get h.zone)) }

section Retired

variable {t : HoldTable} {h : Hold}

theorem HoldTable.retired_slots_self {sl : Slot} (hi : t.slots[h.handle.slot]? = some sl) :
    (t.retired h).slots[h.handle.slot]? = some ⟨nextGeneration sl.generation, none⟩ := free_slots_self hi

theorem HoldTable.retired_at_self (t : HoldTable) (h : Hold) : (t.retired h).at h.handle.slot = none := by
  cases hi : t.slots[h.handle.slot]? with
  | none => simp [retired, HoldTable.at, free_eq_modify, hi]
  | some sl => simp [HoldTable.at, retired_slots_self hi]

theorem HoldTable.retired_slots_other (t : HoldTable) {j : Nat} (hj : j ≠ h.handle.slot) :
    (t.retired h).slots[j]? = t.slots[j]? := free_slots_other t hj

theorem HoldTable.changesAt_retired (hi : t.at h.handle.slot = some h) :
    ChangesAt h.handle.slot h.zone t (t.retired h) where
  length := free_length t _
  slots _ hj := retired_slots_other t hj
  lists _ hy := PerZone.get_set_other _ _ hy
  before r hr := by
    cases hi.symm.trans hr
    rfl
  after r hr := by simp [retired_at_self] at hr

theorem HoldTable.slotSound_retired (t : HoldTable) (h : Hold) : (t.retired h).SlotSound h.handle.slot := by
  intro sl hsl
  cases hi : t.slots[h.handle.slot]? with
  | none => simp [retired, free_eq_modify, hi] at hsl
  | some sl' =>
    cases (retired_slots_self hi).symm.trans hsl
    refine ⟨?_, fun r hr => by simp at hr⟩
    dsimp only [nextGeneration]
    split <;> omega

theorem HoldTable.Sound.listSound_retired (hs : t.Sound) (hi : t.at h.handle.slot = some h) (hk : h.kind ≠ .base) :
    (t.retired h).ListSound h.zone := by
  have hl := hs.list h.zone
  have hlist : (t.retired h).lists.get h.zone = leaveList h.handle (t.lists.get h.zone) := PerZone.get_set_self _ _ _
  have hsub : ((t.retired h).lists.get h.zone).Sublist (t.lists.get h.zone) := hlist ▸ List.filter_sublist
  have hn {x : Handle} {a : Hold} (ha : t.named x = some a) (hx : x ≠ h.handle) : (t.retired h).named x = some a := by
    obtain ⟨hat, hh⟩ := hs.named_iff.1 ha
    have hslot : x.slot ≠ h.handle.slot := fun he => by
      rw [he, hi] at hat
      cases hat
      exact hx hh.symm
    rw [named_congr (retired_slots_other t hslot), ha]
  have hname {x : Handle} (hx : x ∈ (t.retired h).lists.get h.zone) :
      ∃ a, t.named x = some a ∧ (t.retired h).named x = some a ∧ a.zone = h.zone := by
    rw [hlist, mem_leaveList] at hx
    obtain ⟨a, ha, hz⟩ := hl.members x hx.1
    exact ⟨a, ha, hn ha hx.2, hz⟩
  constructor
  case nodup => exact hl.nodup.sublist hsub
  case members =>
    intro x hx
    obtain ⟨a, -, ha, hz⟩ := hname hx
    exact ⟨a, ha, hz⟩
  case sorted =>
    refine (hl.sorted.sublist hsub).imp_of_mem fun {x y} hx hy hb => ?_
    obtain ⟨a, ha, ha', -⟩ := hname hx
    obtain ⟨b, hb', hb'', -⟩ := hname hy
    rw [Before, ha', hb'', ← ha, ← hb']
    exact hb
  case listed =>
    intro j r hj hz
    have hne : j ≠ h.handle.slot := fun he => by simp [he, retired_at_self] at hj
    rw [at_congr (retired_slots_other t hne)] at hj
    rw [hlist, mem_leaveList]
    exact ⟨hl.listed j r hj hz, fun he => hne (by rw [← hs.handle_slot hj, he])⟩
  case base =>
    obtain ⟨b, hb, hbase⟩ := hl.base
    refine ⟨b, hn hb fun he => hk ?_, hbase⟩
    rw [he, hs.named_of_at hi] at hb
    cases hb
    exact hbase.kind

end Retired

/-- A hold retired: its slot and list, and its deadline. -/
def State.retire (s : State) (h : Hold) : State :=
  { s with holds := s.holds.retired h, time := s.time.without (.holdExpiry h.handle.slot) }

theorem State.SafeBut.retire {s : State} {h : Hold} (hs : s.SafeBut h.zone) (hi : s.holds.at h.handle.slot = some h)
    (hk : h.kind ≠ .base) : (s.retire h).SafeBut h.zone :=
  hs.change (HoldTable.changesAt_retired hi) (HoldTable.slotSound_retired _ h) (hs.sound.listSound_retired hi hk)
    (hs.time.without _)

/-- HOLD RETIRE of a hold that is not BASE (R17). -/
theorem holdRetire_of_named {s : State} {slot gen : Byte} {h : Hold} (hn : s.holds.named (handleOf slot gen) = some h)
    (hh : h.handle = handleOf slot gen) (hk : h.kind ≠ .base) :
    holdRetire slot gen s
      = (s.regovern h.zone fun s0 => s0.retire h, okReply [if h.state.isLapsed then 1 else 0]) := by
  have hslot : slot.toNat = h.handle.slot := by rw [hh]; rfl
  simp only [holdRetire, hn, if_neg hk, hslot]
  rfl

theorem holdRetire_baseSafe {s : State} (hs : BaseSafe s) (slot gen : Byte) : BaseSafe (holdRetire slot gen s).1 := by
  cases hn : s.holds.named (handleOf slot gen) with
  | none => simpa only [holdRetire, hn] using hs
  | some h =>
    by_cases hk : h.kind = .base
    · simpa only [holdRetire, hn, if_pos hk] using hs
    · have hbut := State.SafeBut.of_baseSafe hs h.zone
      obtain ⟨hi, hh⟩ := hbut.sound.named_iff.1 hn
      rw [holdRetire_of_named hn hh hk]
      exact (hbut.retire (hh ▸ hi) hk).regovern (change := fun s0 => s0.retire h)

/-! ### HOLD AMEND (R14 to R16) -/

/-- The table with `r` in the place of `h`, whose handle moves in its list where the priority has changed. -/
def HoldTable.amended (t : HoldTable) (h r : Hold) : HoldTable :=
  { t.put h.handle.slot (some r) with
    lists := if r.priority = h.priority then t.lists
      else t.lists.set h.zone (enterList t r.priority h.handle (leaveList h.handle (t.lists.get h.zone))) }

theorem HoldTable.amended_lists_other (t : HoldTable) (h r : Hold) {y : Zone} (hy : y ≠ h.zone) :
    (t.amended h r).lists.get y = t.lists.get y := by
  unfold amended
  split
  · rfl
  · exact PerZone.get_set_other _ _ hy

theorem HoldTable.amended_list_of_same {t : HoldTable} {h r : Hold} (hp : r.priority = h.priority) :
    (t.amended h r).lists = t.lists := if_pos hp

theorem HoldTable.amended_list_of_moved {t : HoldTable} {h r : Hold} (hp : r.priority ≠ h.priority) :
    (t.amended h r).lists.get h.zone = enterList t r.priority h.handle (leaveList h.handle (t.lists.get h.zone)) := by
  simp [amended, hp]

/-- An amended record, a record replaced in its slot, keeps the invariant but for the states of its zone. -/
theorem State.SafeBut.amended {s t : State} {h r : Hold} (hs : s.SafeBut h.zone)
    (hi : s.holds.at h.handle.slot = some h) (hr : r.Succeeds h) (ht : t.holds = s.holds.amended h r)
    (htime : t.time.NamesOpenSlots) : t.SafeBut h.zone := by
  have hsound := hs.sound
  have hl := hsound.list h.zone
  have hmem : h.handle ∈ s.holds.lists.get h.zone := hl.listed _ h hi rfl
  have hperm : ((s.holds.amended h r).lists.get h.zone).Perm (s.holds.lists.get h.zone) := by
    by_cases hp : r.priority = h.priority
    · rw [HoldTable.amended_list_of_same hp]
    · rw [HoldTable.amended_list_of_moved hp]
      exact (enterList_perm ..).trans (leaveList_perm hl.nodup hmem)
  have hsort : ((s.holds.amended h r).lists.get h.zone).Pairwise (s.holds.put h.handle.slot (some r)).Before := by
    by_cases hp : r.priority = h.priority
    · rw [HoldTable.amended_list_of_same hp]
      exact hsound.sorted_put hi hp _
    · rw [HoldTable.amended_list_of_moved hp]
      refine enterList_sorted ?_ (fun x hx => ?_) (fun x hx => ?_) (hl.sorted.sublist List.filter_sublist)
      · rw [hsound.put_named hi, if_pos rfl]
      · rw [hsound.put_named hi, if_neg (mem_leaveList.1 hx).2]
      · obtain ⟨a, ha, -⟩ := hl.members x (mem_leaveList.1 hx).1
        exact ⟨a, ha⟩
  refine hs.change (i := h.handle.slot) ?_ ?_ ?_ htime <;> rw [ht]
  · exact HoldTable.changesAt_put hi hr fun y hy => HoldTable.amended_lists_other _ h r hy
  · exact hsound.slotSound_put hi hr _
  · exact hsound.listSound_put hi hr hperm hsort

/-- The record that HOLD AMEND leaves before its zone is resolved, but for a lapse (R14 to R16). -/
def State.amendedHold (s : State) (h : Hold) (mask : Byte) (target : Half) (halfBand priority : Byte) (minutes : Half)
    (floor reach : Byte) : Hold :=
  { ((s.amendBand h mask target halfBand).1.amendBoost mask floor reach).1 with
    priority := if mask.getLsbD 2 then (adjustPriority priority.toNat).val else h.priority
    expiry := if mask.getLsbD 3 then expiryDue s.time.uptime minutes.toNat else h.expiry }

/-- A hold that carries lapse-on-reach and has its reached flag set lapses (R16, R21). -/
def Hold.lapsedOnReach (r : Hold) : Hold :=
  if r.lapseOnReach ∧ r.figures.reached then { r with state := .lapsed .reached } else r

/-- The deadlines of slot `i` after an amendment: those of a mask that names the expiry, and of a lapse (R16, R21). -/
def Timebase.amended (x : Timebase) (i : Nat) (r : Hold) (expiry : Bool) : Timebase :=
  let x1 := if expiry then (x.without (.holdExpiry i)).withExpiry i r.expiry else x
  if r.lapseOnReach ∧ r.figures.reached then x1.without (.holdExpiry i) else x1

/-- An amendment carried out: the record and its list, the deadlines, and the notice of a lapse. -/
def State.amendTo (s : State) (h r : Hold) (expiry : Bool) : State :=
  { s with
    holds := s.holds.amended h r.lapsedOnReach, time := s.time.amended h.handle.slot r expiry
    events := s.events ++ if r.lapseOnReach ∧ r.figures.reached then [.raise .holdLapsed] else [] }

/-- The lapse at the end of an amendment. -/
theorem State.amendTo_of_put {s s2 : State} {h r : Hold} {expiry : Bool} (hi : s.holds.at h.handle.slot = some h)
    (hl : r.state.isLapsed = false)
    (h2 : s2 = { s with
      holds := s.holds.amended h r
      time := if expiry then (s.time.without (.holdExpiry h.handle.slot)).withExpiry h.handle.slot r.expiry
        else s.time }) :
    (if r.lapseOnReach ∧ r.figures.reached then s2.lapse h.handle.slot .reached else s2) = s.amendTo h r expiry := by
  subst h2
  by_cases hc : r.lapseOnReach ∧ r.figures.reached
  · have hat : (s.holds.amended h r).at h.handle.slot = some r := HoldTable.put_at_of_at hi _
    have htab : (s.holds.amended h r).put h.handle.slot (some { r with state := .lapsed .reached })
        = s.holds.amended h { r with state := .lapsed .reached } := by
      unfold HoldTable.amended
      rw [HoldTable.put_withLists, HoldTable.put_put]
    rw [if_pos hc, State.lapse_of_live .reached hat hl]
    simp only [State.amendTo, Timebase.amended, Hold.lapsedOnReach, if_pos hc, ← htab]
  · simp [State.amendTo, Timebase.amended, Hold.lapsedOnReach, if_neg hc]

theorem State.amendPriority_eq (s : State) (b : Hold) (mask priority : Byte) :
    ∃ clamped, s.amendPriority b mask priority =
      let p := if mask.getLsbD 2 then (adjustPriority priority.toNat).val else b.priority
      (s.setHolds { s.holds with
        lists := if p = b.priority then s.holds.lists
          else s.holds.lists.set b.zone
            (enterList s.holds p b.handle (leaveList b.handle (s.holds.lists.get b.zone))) },
        { b with priority := p }, clamped) := by
  unfold State.amendPriority
  by_cases hm : mask.getLsbD 2
  · by_cases hp : (adjustPriority priority.toNat).val = b.priority
    · exact ⟨_, by simp only [hm, if_true, hp]; rfl⟩
    · exact ⟨_, by simp only [hm, if_true, if_neg hp]; rfl⟩
  · exact ⟨false, by simp only [if_neg hm, if_true]; rfl⟩

theorem State.amendExpiry_eq (s : State) (b : Hold) (mask : Byte) (minutes : Half) :
    s.amendExpiry b mask minutes =
      let due := if mask.getLsbD 3 then expiryDue s.time.uptime minutes.toNat else b.expiry
      (s.setTime (if mask.getLsbD 3 then (s.time.without (.holdExpiry b.handle.slot)).withExpiry b.handle.slot due
        else s.time), { b with expiry := due }) := by
  unfold State.amendExpiry
  by_cases hm : mask.getLsbD 3
  · simp only [hm, if_true]
    cases expiryDue s.time.uptime minutes.toNat <;> rfl
  · simp only [hm]
    rfl

theorem State.amendHold_state {s : State} {h : Hold} (hi : s.holds.at h.handle.slot = some h)
    (hl : h.state.isLapsed = false) (mask : Byte) (target : Half) (halfBand priority : Byte) (minutes : Half)
    (floor reach : Byte) :
    (s.amendHold h mask target halfBand priority minutes floor reach).1
      = s.regovern h.zone fun s0 =>
          s0.amendTo h (s.amendedHold h mask target halfBand priority minutes floor reach) (mask.getLsbD 3) := by
  obtain ⟨clamped, hp⟩ := s.amendPriority_eq ((s.amendBand h mask target halfBand).1.amendBoost mask floor reach).1 mask
    priority
  unfold State.amendHold
  dsimp only
  refine State.regovern_congr ?_
  rw [hp, State.amendExpiry_eq]
  refine State.amendTo_of_put hi hl ?_
  simp only [State.setHolds, State.setTime, HoldTable.put_withLists]
  rfl

theorem State.amendedHold_lapsedOnReach_succeeds {s : State} {h : Hold} {mask : Byte}
    (hb : h.kind = .base → mask.getLsbD 2 = false ∧ mask.getLsbD 3 = false ∧ mask.getLsbD 4 = false ∧
      mask.getLsbD 5 = false) (target : Half) (halfBand priority : Byte) (minutes : Half) (floor reach : Byte) :
    (s.amendedHold h mask target halfBand priority minutes floor reach).lapsedOnReach.Succeeds h := by
  generalize hr : s.amendedHold h mask target halfBand priority minutes floor reach = r
  have hreach : r.lapseOnReach = if mask.getLsbD 5 then decide (reach ≠ 0) else h.lapseOnReach := hr ▸ rfl
  have hexpiry : r.expiry = if mask.getLsbD 3 then expiryDue s.time.uptime minutes.toNat else h.expiry := hr ▸ rfl
  have hsame : r.handle = h.handle ∧ r.zone = h.zone ∧ r.kind = h.kind ∧ r.state = h.state := hr ▸ ⟨rfl, rfl, rfl, rfl⟩
  obtain ⟨hh, hz, hk, hs⟩ := hsame
  constructor
  case handle => unfold Hold.lapsedOnReach; split <;> exact hh
  case zone => unfold Hold.lapsedOnReach; split <;> exact hz
  case kind => unfold Hold.lapsedOnReach; split <;> exact hk
  case base =>
    intro hbase
    obtain ⟨-, h3, -, h5⟩ := hb hbase.kind
    rw [h5] at hreach
    rw [h3] at hexpiry
    have hno : r.lapseOnReach = false := hreach.trans hbase.noReach
    have hr : r.lapsedOnReach = r := by simp [Hold.lapsedOnReach, hno]
    rw [hr]
    exact ⟨hk.trans hbase.kind, hz, hs ▸ hbase.live, hno, hexpiry.trans hbase.noExpiry⟩

theorem Timebase.NamesOpenSlots.amended {x : Timebase} (hx : x.NamesOpenSlots) {i : Nat} {expiry : Bool}
    (hi : expiry = true → 3 ≤ i) (r : Hold) : (x.amended i r expiry).NamesOpenSlots := by
  have h1 : (if expiry then (x.without (.holdExpiry i)).withExpiry i r.expiry else x).NamesOpenSlots := by
    split
    · next he => exact (hx.without _).withExpiry (hi he) _
    · exact hx
  unfold Timebase.amended
  dsimp only
  split
  · exact h1.without _
  · exact h1

theorem State.amendHold_baseSafe {s : State} (hs : BaseSafe s) {h : Hold} (hi : s.holds.at h.handle.slot = some h)
    (hl : h.state.isLapsed = false) {mask : Byte}
    (hb : h.kind = .base → mask.getLsbD 2 = false ∧ mask.getLsbD 3 = false ∧ mask.getLsbD 4 = false ∧
      mask.getLsbD 5 = false) (target : Half) (halfBand priority : Byte) (minutes : Half) (floor reach : Byte) :
    BaseSafe (s.amendHold h mask target halfBand priority minutes floor reach).1 := by
  have hbut := State.SafeBut.of_baseSafe hs h.zone
  have hslot (h3 : mask.getLsbD 3 = true) : 3 ≤ h.handle.slot := by
    by_contra hlt
    obtain ⟨-, h3', -⟩ := hb ((hbut.sound.base_iff hi).2 (Nat.lt_of_not_le hlt))
    exact Bool.false_ne_true (h3'.symm.trans h3)
  rw [State.amendHold_state hi hl]
  refine State.SafeBut.regovern (change := fun s0 => s0.amendTo h _ _) (hbut.amended hi
    (State.amendedHold_lapsedOnReach_succeeds hb target halfBand priority minutes floor reach) rfl
    (hbut.time.amended hslot _))

theorem holdAmend_baseSafe {s : State} (hs : BaseSafe s) (slot gen mask : Byte) (target : Half)
    (halfBand priority : Byte) (minutes : Half) (floor reach : Byte) :
    BaseSafe (holdAmend slot gen mask target halfBand priority minutes floor reach s).1 := by
  unfold holdAmend
  split
  · exact hs
  · next h hn =>
    obtain ⟨hi, hh⟩ := ((baseSafe_iff s).1 hs).1.named_iff.1 hn
    split
    · exact hs
    · next hl =>
      split
      · exact hs
      · next hb =>
        split
        · exact hs
        · split
          · exact hs
          · refine State.amendHold_baseSafe hs (hh ▸ hi) (by simpa using hl) (fun hk => ?_) ..
            simpa [hk] using hb

end Sys2Proof.Machine
end

section
/-! Which operations leave the hold table and the deadlines of its holds alone, for each block of the part. -/

namespace Sys2Proof.Machine

open Sys2Proof.Safety

/-! ### Entries of other owners -/

theorem namesOpenSlot_of_other {d : Deadline} (hd : ∀ i, d.key ≠ .holdExpiry i) : namesOpenSlot d = true := by
  unfold namesOpenSlot
  split
  · next i hi => exact absurd hi (hd i)
  · rfl

theorem forall_mem_dropKey_namesOpenSlot {k : DeadlineKey} (hk : ∀ i, k ≠ .holdExpiry i) (l : List Deadline) :
    (∀ d ∈ dropKey k l, namesOpenSlot d = true) ↔ ∀ d ∈ l, namesOpenSlot d = true := by
  refine ⟨fun h d hd => ?_, fun h d hd => h d (mem_dropKey.1 hd).1⟩
  by_cases he : d.key = k
  · exact namesOpenSlot_of_other (he ▸ hk)
  · exact h d (mem_dropKey.2 ⟨hd, he⟩)

@[simp] theorem State.removeDeadline_namesOpenSlots (s : State) {k : DeadlineKey} (hk : ∀ i, k ≠ .holdExpiry i) :
    (s.removeDeadline k).time.NamesOpenSlots ↔ s.time.NamesOpenSlots := by
  simp only [Timebase.namesOpenSlots_iff, State.removeDeadline_deadlines, State.removeDeadline_expiries,
    forall_mem_dropKey_namesOpenSlot hk]

@[simp] theorem State.insertAt_namesOpenSlots (s : State) {k : DeadlineKey} (hk : ∀ i, k ≠ .holdExpiry i)
    (due : Instant) : (s.insertAt k due).time.NamesOpenSlots ↔ s.time.NamesOpenSlots := by
  simp only [Timebase.namesOpenSlots_iff, State.insertAt_deadlines, State.insertAt_expiries, mem_placeDeadline,
    forall_eq_or_imp, forall_mem_dropKey_namesOpenSlot hk, namesOpenSlot_of_other (d := ⟨k, due⟩) hk, true_and]

@[simp] theorem State.insertAfter_namesOpenSlots (s : State) {k : DeadlineKey} (hk : ∀ i, k ≠ .holdExpiry i)
    (secs : Nat) : (s.insertAfter k secs).time.NamesOpenSlots ↔ s.time.NamesOpenSlots := s.insertAt_namesOpenSlots hk _

/-- The hold table and the deadlines of its holds as they were, so is the invariant. -/
theorem baseSafe_of_same {s t : State} (hs : BaseSafe s) (hh : t.holds = s.holds)
    (ht : t.time.NamesOpenSlots ↔ s.time.NamesOpenSlots) : BaseSafe t := (baseSafe_congr hh ht).2 hs

/-! ### Air handler -/

@[simp] theorem State.startFanDelay_namesOpenSlots (s : State) :
    s.startFanDelay.time.NamesOpenSlots ↔ s.time.NamesOpenSlots := by
  unfold State.startFanDelay
  split <;> simp

@[simp] theorem State.dropFanDelay_namesOpenSlots (s : State) :
    s.dropFanDelay.time.NamesOpenSlots ↔ s.time.NamesOpenSlots := by simp [State.dropFanDelay]

@[simp] theorem State.fanDelayStep_namesOpenSlots (s : State) (b : Bool) :
    (s.fanDelayStep b).time.NamesOpenSlots ↔ s.time.NamesOpenSlots := by
  unfold State.fanDelayStep
  split
  · split <;> simp
  · simp

@[simp] theorem State.airPathChange_namesOpenSlots (s : State) (b : Bool) :
    (s.airPathChange b).time.NamesOpenSlots ↔ s.time.NamesOpenSlots := by simp [State.airPathChange]

theorem State.recomputeAir_baseSafe {s : State} (hs : BaseSafe s) : BaseSafe s.recomputeAir :=
  baseSafe_of_same hs (by simp) (by simp)

theorem State.airTake_baseSafe {s : State} (hs : BaseSafe s) (w : AirWork) : BaseSafe (s.airTake w) := by
  cases w with
  | none => exact recomputeAir_baseSafe hs
  | pathState b => exact baseSafe_of_same hs (by simp [State.airTake]) (by simp [State.airTake])
  | s4 r =>
    refine recomputeAir_baseSafe ?_
    unfold State.airS4
    split
    · exact baseSafe_of_same hs (by simp) (by simp)
    · exact hs
  | s5 r => exact baseSafe_of_same hs (by simp [State.airTake]) (by simp [State.airTake])

/-! ### Path arbiter -/

@[simp] theorem State.stopCompressor_namesOpenSlots (s : State) :
    s.stopCompressor.time.NamesOpenSlots ↔ s.time.NamesOpenSlots := by simp [State.stopCompressor]

@[simp] theorem State.startDwell_namesOpenSlots (s : State) :
    s.startDwell.time.NamesOpenSlots ↔ s.time.NamesOpenSlots := by simp [State.startDwell]

@[simp] theorem State.runOn_namesOpenSlots (s : State) (p : Path) :
    (s.runOn p).time.NamesOpenSlots ↔ s.time.NamesOpenSlots := by simp [State.runOn]

@[simp] theorem State.enterPumpdown_namesOpenSlots (s : State) :
    s.enterPumpdown.time.NamesOpenSlots ↔ s.time.NamesOpenSlots := by simp [State.enterPumpdown]

@[simp] theorem State.stopToOff_namesOpenSlots (s : State) :
    s.stopToOff.time.NamesOpenSlots ↔ s.time.NamesOpenSlots := by simp [State.stopToOff]

@[simp] theorem State.completeStart_namesOpenSlots (s : State) (p : Path) :
    (s.completeStart p).time.NamesOpenSlots ↔ s.time.NamesOpenSlots := by simp [State.completeStart]

@[simp] theorem State.leave_namesOpenSlots (s : State) (p : Path) (b : Bool) :
    (s.leave p b).time.NamesOpenSlots ↔ s.time.NamesOpenSlots := by
  cases p with
  | fresh => simp [State.leave]
  | freeze => cases b <;> simp [State.leave]

@[simp] theorem State.reviewRun_namesOpenSlots (s : State) (p : Path) :
    (s.reviewRun p).time.NamesOpenSlots ↔ s.time.NamesOpenSlots := by
  unfold State.reviewRun
  split
  · simp
  · split <;> simp

@[simp] theorem State.review_namesOpenSlots (s : State) : s.review.time.NamesOpenSlots ↔ s.time.NamesOpenSlots := by
  unfold State.review
  split
  · split <;> simp
  all_goals simp

@[simp] theorem State.haltRun_namesOpenSlots (s : State) (c : HaltCause) :
    (s.haltRun c).time.NamesOpenSlots ↔ s.time.NamesOpenSlots := by simp [State.haltRun]

@[simp] theorem State.lockOut_namesOpenSlots (s : State) : s.lockOut.time.NamesOpenSlots ↔ s.time.NamesOpenSlots := by
  simp [State.lockOut]

@[simp] theorem State.takeFault_namesOpenSlots (s : State) :
    s.takeFault.time.NamesOpenSlots ↔ s.time.NamesOpenSlots := by
  unfold State.takeFault
  split
  · exact Iff.rfl
  · dsimp only
    split <;> simp

@[simp] theorem State.takeSag_namesOpenSlots (s : State) : s.takeSag.time.NamesOpenSlots ↔ s.time.NamesOpenSlots := by
  unfold State.takeSag
  split <;> simp

@[simp] theorem State.restore_namesOpenSlots (s : State) : s.restore.time.NamesOpenSlots ↔ s.time.NamesOpenSlots := by
  simp [State.restore]

theorem State.review_baseSafe {s : State} (hs : BaseSafe s) : BaseSafe s.review :=
  baseSafe_of_same hs (by simp) (by simp)

theorem State.valveArrives_baseSafe {s : State} (hs : BaseSafe s) (pos : Nat) : BaseSafe (s.valveArrives pos) := by
  unfold State.valveArrives
  split
  · split
    · exact baseSafe_of_same hs (by simp) (by simp)
    · exact review_baseSafe hs
  · exact review_baseSafe hs

theorem State.endPumpdown_baseSafe {s : State} (hs : BaseSafe s) : BaseSafe s.endPumpdown := by
  unfold State.endPumpdown
  split <;> exact baseSafe_of_same hs (by simp) (by simp)

theorem State.slewSpeed_baseSafe {s : State} (hs : BaseSafe s) : BaseSafe s.slewSpeed := by
  unfold State.slewSpeed
  split
  · exact baseSafe_of_same hs (by simp) (by simp)
  · exact hs

theorem State.takeNormal_baseSafe {s : State} (hs : BaseSafe s) : BaseSafe s.takeNormal := by
  unfold State.takeNormal
  split
  · exact baseSafe_of_same hs (by simp) (by simp)
  · exact hs

theorem State.recover_baseSafe {s : State} (hs : BaseSafe s) : BaseSafe s.recover := by
  unfold State.recover
  split <;> exact baseSafe_of_same hs (by simp) (by simp)

theorem State.clearLockout_baseSafe {s : State} (hs : BaseSafe s) : BaseSafe s.clearLockout := by
  unfold State.clearLockout
  dsimp only
  split <;> exact baseSafe_of_same hs (by simp) (by simp)

theorem State.takeFault_baseSafe {s : State} (hs : BaseSafe s) : BaseSafe s.takeFault :=
  baseSafe_of_same hs (by simp) (by simp)

/-! ### Drive link -/

theorem State.judgeSilence_baseSafe {s : State} (hs : BaseSafe s) : BaseSafe s.judgeSilence := by
  unfold State.judgeSilence
  split
  · exact takeFault_baseSafe hs
  · exact hs

theorem State.countRunSecond_baseSafe {s : State} (hs : BaseSafe s) : BaseSafe s.countRunSecond := by
  unfold State.countRunSecond
  split
  · split <;> exact baseSafe_of_same hs (by simp) (by simp)
  · exact hs

theorem State.takeStatus_baseSafe {s : State} (hs : BaseSafe s) (seq actual code check : Byte) :
    BaseSafe (s.takeStatus seq actual code check) := by
  unfold State.takeStatus
  split
  · dsimp only
    split <;> exact baseSafe_of_same hs (by simp) (by simp)
  · exact hs

theorem State.driveByte_baseSafe {s : State} (hs : BaseSafe s) (b : Byte) : BaseSafe (s.driveByte b) := by
  unfold State.driveByte
  split
  · split
    · exact baseSafe_of_same hs (by simp) (by simp)
    · exact hs
  · exact takeStatus_baseSafe (baseSafe_of_same hs (by simp) (by simp)) ..
  · exact baseSafe_of_same hs (by simp) (by simp)

/-! ### Defrost controller -/

@[simp] theorem State.enterPrechill_namesOpenSlots (s : State) :
    s.enterPrechill.time.NamesOpenSlots ↔ s.time.NamesOpenSlots := by simp [State.enterPrechill]

@[simp] theorem State.enterPending_namesOpenSlots (s : State) :
    s.enterPending.time.NamesOpenSlots ↔ s.time.NamesOpenSlots := by
  unfold State.enterPending
  dsimp only
  split <;> simp

@[simp] theorem State.compareInterval_namesOpenSlots (s : State) :
    s.compareInterval.time.NamesOpenSlots ↔ s.time.NamesOpenSlots := by
  unfold State.compareInterval
  split <;> simp

@[simp] theorem State.enterIdle_namesOpenSlots (s : State) :
    s.enterIdle.time.NamesOpenSlots ↔ s.time.NamesOpenSlots := by simp [State.enterIdle]

@[simp] theorem State.enterHeat_namesOpenSlots (s : State) :
    s.enterHeat.time.NamesOpenSlots ↔ s.time.NamesOpenSlots := by simp [State.enterHeat]

@[simp] theorem State.enterRelease_namesOpenSlots (s : State) :
    s.enterRelease.time.NamesOpenSlots ↔ s.time.NamesOpenSlots := by
  unfold State.enterRelease
  dsimp only
  split <;> simp

@[simp] theorem State.enterDrip_namesOpenSlots (s : State) :
    s.enterDrip.time.NamesOpenSlots ↔ s.time.NamesOpenSlots := by simp [State.enterDrip]

@[simp] theorem State.enterRecover_namesOpenSlots (s : State) :
    s.enterRecover.time.NamesOpenSlots ↔ s.time.NamesOpenSlots := by simp [State.enterRecover]

@[simp] theorem State.endRecover_namesOpenSlots (s : State) :
    s.endRecover.time.NamesOpenSlots ↔ s.time.NamesOpenSlots := by simp [State.endRecover]

@[simp] theorem State.endHeat_namesOpenSlots (s : State) (how : HeatEnd) :
    (s.endHeat how).time.NamesOpenSlots ↔ s.time.NamesOpenSlots := by simp [State.endHeat]

@[simp] theorem State.startRecovery_namesOpenSlots (s : State) :
    s.startRecovery.time.NamesOpenSlots ↔ s.time.NamesOpenSlots := by simp [State.startRecovery]

@[simp] theorem State.endRecovery_namesOpenSlots (s : State) :
    s.endRecovery.time.NamesOpenSlots ↔ s.time.NamesOpenSlots := by
  unfold State.endRecovery
  split <;> simp

theorem State.enterRelease_baseSafe {s : State} (hs : BaseSafe s) : BaseSafe s.enterRelease :=
  baseSafe_of_same hs (by simp) (by simp)

theorem State.endRecovery_baseSafe {s : State} (hs : BaseSafe s) : BaseSafe s.endRecovery :=
  baseSafe_of_same hs (by simp) (by simp)

theorem State.endRecover_baseSafe {s : State} (hs : BaseSafe s) : BaseSafe s.endRecover :=
  baseSafe_of_same hs (by simp) (by simp)

theorem State.endHeat_baseSafe {s : State} (hs : BaseSafe s) (how : HeatEnd) : BaseSafe (s.endHeat how) :=
  baseSafe_of_same hs (by simp) (by simp)

theorem State.countFrost_baseSafe {s : State} (hs : BaseSafe s) : BaseSafe s.countFrost := by
  unfold State.countFrost
  split
  · exact hs
  · exact baseSafe_of_same hs (by simp) (by simp)

theorem State.heatTest_baseSafe {s : State} (hs : BaseSafe s) (r : Report) : BaseSafe (s.heatTest r) := by
  unfold State.heatTest
  split
  · exact baseSafe_of_same hs (by simp) (by simp)
  · split
    · exact endHeat_baseSafe hs _
    · exact hs

theorem State.takeS4_baseSafe {s : State} (hs : BaseSafe s) (r : Report) : BaseSafe (s.takeS4 r) := by
  have h1 := countFrost_baseSafe hs
  unfold State.takeS4
  dsimp only
  split
  · exact baseSafe_of_same h1 (by simp) (by simp)
  · exact heatTest_baseSafe h1 r
  · split
    · exact endRecover_baseSafe h1
    · exact h1
  · exact h1

theorem State.takePhaseChange_baseSafe {s : State} (hs : BaseSafe s) (b : Bool) : BaseSafe (s.takePhaseChange b) := by
  unfold State.takePhaseChange
  split
  · split
    · exact baseSafe_of_same hs (by simp) (by simp)
    · exact hs
  · split
    · exact enterRelease_baseSafe hs
    · exact hs
  · exact hs

theorem State.giveUpDefrost_baseSafe {s : State} (hs : BaseSafe s) : BaseSafe s.giveUpDefrost :=
  baseSafe_of_same hs (by simp [State.giveUpDefrost]) (by simp [State.giveUpDefrost])

/-! ### Door unit, measurement, link port, settings -/

theorem State.setDoor_baseSafe {s : State} (hs : BaseSafe s) (d : Door) (r : DoorRec) : BaseSafe (s.setDoor d r) :=
  baseSafe_of_same hs rfl Iff.rfl

theorem State.handDoor_baseSafe {s : State} (hs : BaseSafe s) (d : Door) (e : DoorEvent) : BaseSafe (s.handDoor d e) :=
  baseSafe_of_same hs rfl Iff.rfl

theorem State.openDoor_baseSafe {s : State} (hs : BaseSafe s) (d : Door) : BaseSafe (s.openDoor d) :=
  handDoor_baseSafe (baseSafe_of_same (setDoor_baseSafe hs d ((s.door d).opened s.time.uptime)) (by simp) (by simp)) d _

theorem State.closeDoor_baseSafe {s : State} (hs : BaseSafe s) (d : Door) : BaseSafe (s.closeDoor d) :=
  handDoor_baseSafe (baseSafe_of_same (setDoor_baseSafe hs d ((s.door d).closed s.time.uptime)) (by simp) (by simp)) d _

theorem State.sampleDoor_baseSafe {s : State} (hs : BaseSafe s) (d : Door) (x : Level) :
    BaseSafe (s.sampleDoor d x) := by
  unfold State.sampleDoor
  dsimp only
  split
  · cases x with
    | high => exact openDoor_baseSafe (setDoor_baseSafe hs d _) d
    | low => exact closeDoor_baseSafe (setDoor_baseSafe hs d _) d
  · exact setDoor_baseSafe hs d _

theorem State.reportToZone_baseSafe {s : State} (hs : BaseSafe s) (c : Channel) (z : Zone) :
    BaseSafe (s.reportToZone c z) := by
  unfold State.reportToZone
  split
  · exact baseSafe_of_same hs (by simp) (by simp)
  · exact hs

theorem State.report_baseSafe {s : State} (hs : BaseSafe s) (c : Channel) : BaseSafe (s.report c) := by
  have h3 := reportToZone_baseSafe (reportToZone_baseSafe (reportToZone_baseSafe hs c .fresh) c .chill) c .freeze
  unfold State.report State.reportToOthers
  split
  · exact baseSafe_of_same h3 (by simp) (by simp)
  · exact baseSafe_of_same h3 (by simp) (by simp)
  · exact baseSafe_of_same h3 (by simp) (by simp)
  · exact h3

theorem State.completeFrame_baseSafe {s : State} (hs : BaseSafe s) (len : Nat) (got : List Byte) :
    BaseSafe (s.completeFrame len got) := by
  unfold State.completeFrame
  split
  · exact baseSafe_of_same hs (by simp) (by simp)
  · split
    · exact baseSafe_of_same hs (by simp [State.refuseFrame]) (by simp [State.refuseFrame])
    · exact baseSafe_of_same hs (by simp [State.handRequest]) (by simp [State.handRequest])

theorem State.setRx_baseSafe {s : State} (hs : BaseSafe s) (rx : RxState) : BaseSafe (s.setRx rx) :=
  baseSafe_of_same hs (by simp [State.setRx]) (by simp [State.setRx])

theorem State.lengthFrame_baseSafe {s : State} (hs : BaseSafe s) : BaseSafe s.lengthFrame := by
  unfold State.lengthFrame
  split
  · exact baseSafe_of_same hs (by simp) (by simp)
  · exact baseSafe_of_same hs (by simp [State.refuseFrame]) (by simp [State.refuseFrame])

theorem State.receive_baseSafe {s : State} (hs : BaseSafe s) (b : Byte) : BaseSafe (s.receive b) := by
  unfold State.receive
  split
  · split
    · exact setRx_baseSafe hs _
    · exact hs
  · split
    · exact setRx_baseSafe hs _
    · exact lengthFrame_baseSafe (setRx_baseSafe hs _)
  · split
    · exact completeFrame_baseSafe (setRx_baseSafe hs _) ..
    · exact setRx_baseSafe hs _
  · exact hs

theorem State.endStore_baseSafe {s : State} (hs : BaseSafe s) (w : StoreWrite) : BaseSafe (s.endStore w) :=
  baseSafe_of_same hs (by simp [State.endStore]) (by simp [State.endStore])

theorem State.writeSetting_baseSafe {s t : State} (hs : BaseSafe s) {i : SettingItem} {v : Int} {clamped : Bool}
    (hw : s.writeSetting i v = some (t, clamped)) : BaseSafe t := by
  cases i <;> cases hw
  case weight z =>
    exact baseSafe_of_same hs (State.handChange_holds _ z _) (by simp [State.writeWeight, State.setEntry])
  case interval => exact baseSafe_of_same hs (by simp) (by simp)
  all_goals exact baseSafe_of_same hs rfl Iff.rfl

/-! ### Zone evaluator -/

theorem State.enterBlind_baseSafe {s : State} (hs : BaseSafe s) (z : Zone) (r : ZoneRec) :
    BaseSafe (s.enterBlind z r) :=
  baseSafe_of_same hs (by simp [State.enterBlind]) (by simp [State.enterBlind])

theorem State.selectSource_baseSafe {s : State} (hs : BaseSafe s) (rep : Option Report) (z : Zone) (restart : Bool) :
    BaseSafe (s.selectSource rep z restart) := by
  unfold State.selectSource
  dsimp only
  split
  · split
    · exact enterBlind_baseSafe hs z _
    · exact baseSafe_of_same hs (by simp) (by simp)
  · split
    · exact baseSafe_of_same hs (by simp [State.leaveBlind]) (by simp [State.leaveBlind])
    · exact baseSafe_of_same hs (by simp) (by simp)

theorem State.handOn_baseSafe {s : State} (hs : BaseSafe s) (z : Zone) : BaseSafe (s.handOn z) :=
  baseSafe_of_same hs (by simp) (by simp)

theorem State.settleAndHandOn_baseSafe {s : State} (hs : BaseSafe s) (z : Zone) :
    BaseSafe ((s.settleZone none z false false).handOn z) := baseSafe_of_same hs (by simp) (by simp)

theorem State.lowerGrace_baseSafe {s : State} (hs : BaseSafe s) (z : Zone) : BaseSafe (s.lowerGrace z) := by
  unfold State.lowerGrace
  split
  · exact hs
  · exact baseSafe_of_same hs (by simp) (by simp)

theorem State.timeWarm_baseSafe {s : State} (hs : BaseSafe s) (z : Zone) (b : Bool) : BaseSafe (s.timeWarm z b) := by
  unfold State.timeWarm
  dsimp only
  split <;> exact baseSafe_of_same hs (by simp) (by simp)

theorem State.timeCold_baseSafe {s : State} (hs : BaseSafe s) (z : Zone) (b : Bool) : BaseSafe (s.timeCold z b) := by
  unfold State.timeCold
  split
  · exact hs
  · dsimp only
    split <;> exact baseSafe_of_same hs (by simp) (by simp)

theorem State.timeAndCount_baseSafe {s : State} (hs : BaseSafe s) (rep : Option Report) (z : Zone) (b : Bool) :
    BaseSafe (s.timeAndCount rep z b) := by
  refine State.comply_baseSafe ?_ ..
  split
  · exact timeCold_baseSafe (timeWarm_baseSafe hs ..) ..
  · exact hs

theorem State.evaluateSecond_baseSafe {s : State} (hs : BaseSafe s) (z : Zone) (r : Report) :
    BaseSafe (s.evaluateSecond z r) := by
  have hread : BaseSafe (s.readBlindLen z) := baseSafe_of_same hs (by simp) (by simp)
  have hlow := lowerGrace_baseSafe (selectSource_baseSafe hread (some r) z false) z
  have hsettle (afresh : Bool) : BaseSafe
      ((((s.readBlindLen z).selectSource (some r) z false).lowerGrace z).settleZone (some r) z afresh true) :=
    baseSafe_of_same hlow (by simp) (by simp)
  exact handOn_baseSafe (timeAndCount_baseSafe (hsettle _) ..) z

theorem State.evaluateHoldChange_baseSafe {s : State} (hs : BaseSafe s) (z : Zone) (g : Governing) :
    BaseSafe (s.evaluateHoldChange z g) := by
  have h1 : BaseSafe (s.setZone z ((s.zone z).store g)) := baseSafe_of_same hs (by simp) (by simp)
  unfold State.evaluateHoldChange
  dsimp only
  split
  · exact h1
  · exact settleAndHandOn_baseSafe h1 z

theorem State.evaluateDoor_baseSafe {s : State} (hs : BaseSafe s) (z : Zone) (e : DoorEvent) :
    BaseSafe (s.evaluateDoor z e) := by
  refine settleAndHandOn_baseSafe (baseSafe_of_same hs ?_ ?_) z <;> simp

theorem State.evaluateSchedule_baseSafe {s : State} (hs : BaseSafe s) (z : Zone) (half : BlindHalf) (due : Instant) :
    BaseSafe (s.evaluateSchedule z half due) := by
  refine settleAndHandOn_baseSafe (baseSafe_of_same hs ?_ ?_) z <;> simp

theorem State.evaluateEndOfTransit_baseSafe {s : State} (hs : BaseSafe s) : BaseSafe s.evaluateEndOfTransit := by
  have h1 : BaseSafe (s.setZone .chill ((s.zone .chill).leaveTransit (s.governing .chill))) :=
    baseSafe_of_same hs (by simp) (by simp)
  exact baseSafe_of_same (selectSource_baseSafe h1 none .chill true) (by simp [State.evaluateEndOfTransit])
    (by simp [State.evaluateEndOfTransit])

/-! ### Zone map -/

theorem State.commitChillHolds_baseSafe {s : State} (hs : BaseSafe s) (startUp : Bool) :
    BaseSafe (s.commitChillHolds startUp) := by
  cases startUp with
  | true => exact hs
  | false => exact State.commitHolds_baseSafe hs _

theorem State.commitRegime_baseSafe {s : State} (hs : BaseSafe s) : BaseSafe s.commitRegime := by
  have h0 : BaseSafe (s.setMap s.map.committed) := baseSafe_of_same hs (by simp) (by simp)
  have h1 : BaseSafe ((s.setMap s.map.committed).commitChillHolds s.map.startUp).withdrawChillChange :=
    baseSafe_of_same (commitChillHolds_baseSafe h0 s.map.startUp) (by simp [State.withdrawChillChange])
      (by simp [State.withdrawChillChange])
  have h2 := recomputeAir_baseSafe (evaluateEndOfTransit_baseSafe h1)
  unfold State.commitRegime
  dsimp only
  split <;> exact baseSafe_of_same h2 (by simp) (by simp)

theorem State.enterFlap_baseSafe {s : State} (hs : BaseSafe s) : BaseSafe s.enterFlap := by
  have h1 : BaseSafe (s.setMap { s.map with step := some .flap }) := baseSafe_of_same hs (by simp) (by simp)
  unfold State.enterFlap
  dsimp only
  split
  · exact commitRegime_baseSafe h1
  · exact baseSafe_of_same h1 (by simp) (by simp)

theorem State.closingEnds_baseSafe {s : State} (hs : BaseSafe s) : BaseSafe s.closingEnds := by
  unfold State.closingEnds
  split
  · exact enterFlap_baseSafe hs
  · exact hs

theorem State.beginRegime_baseSafe {s : State} (hs : BaseSafe s) (r : Regime) : BaseSafe (s.beginRegime r) :=
  closingEnds_baseSafe (baseSafe_of_same hs (by simp) (by simp))

theorem State.flapArrives_baseSafe {s : State} (hs : BaseSafe s) (dest : Path) : BaseSafe (s.flapArrives dest) := by
  have h1 : BaseSafe (s.setAir { s.air with flapSide := some dest, flapMotion := .atRest }) :=
    baseSafe_of_same hs (by simp) (by simp)
  unfold State.flapArrives
  refine recomputeAir_baseSafe ?_
  split
  · exact commitRegime_baseSafe h1
  · exact h1

theorem State.damperHomed_baseSafe {s : State} (hs : BaseSafe s) : BaseSafe s.damperHomed := by
  unfold State.damperHomed
  split
  · exact closingEnds_baseSafe (baseSafe_of_same hs (by simp) (by simp))
  · exact baseSafe_of_same hs (by simp) (by simp)

theorem State.valveHomed_baseSafe {s : State} (hs : BaseSafe s) : BaseSafe s.valveHomed := by
  unfold State.valveHomed
  split <;> exact baseSafe_of_same hs (by simp) (by simp)

/-! ### Start-up and the clock -/

/-- The hold table that start-up builds has the three BASE holds alone, each EFFECTIVE (R30). -/
theorem State.startUp_baseSafe (s : State) (straps : Straps) (lockout : Bool) (faults : Nat) :
    BaseSafe (s.startUp straps lockout faults) := by
  have hrec (z : Zone) (target halfBand : Int) :
      recordStands (s.startUp straps lockout faults) (resetBase (baseSlot z) z target halfBand) = true := by
    rw [recordStands_iff]
    cases z <;> exact ⟨List.mem_singleton.2 rfl, rfl⟩
  refine ⟨⟨rfl, rfl, rfl⟩, ⟨rfl, rfl⟩, rfl, ⟨rfl, rfl, rfl⟩, ?_⟩
  have hrecs : (s.startUp straps lockout faults).holds.slots.filterMap (·.hold)
      = [Zone.fresh, .chill, .freeze].map fun z => resetBase (baseSlot z) z ((loadContents s.store.image).bases.get z).1
          ((loadContents s.store.image).bases.get z).2 := rfl
  rw [hrecs, List.all_map, List.all_eq_true]
  exact fun z _ => hrec z _ _

theorem State.entryFallsDue_baseSafe {s : State} (hs : BaseSafe s) : BaseSafe s.entryFallsDue := by
  unfold State.entryFallsDue
  split
  · exact hs
  · next d ds hd =>
    split
    · refine baseSafe_of_same hs rfl ?_
      have hperm : (ds ++ (s.time.expiries ++ [d])).Perm (s.time.deadlines ++ s.time.expiries) := by
        rw [hd, ← List.append_assoc]
        exact List.perm_append_singleton d _
      simp only [Timebase.NamesOpenSlots, List.all_eq_true, State.setTime_time, hperm.mem_iff]
    · exact hs

theorem State.tickClock_baseSafe {s : State} (hs : BaseSafe s) : BaseSafe s.tickClock := by
  unfold State.tickClock
  split
  · exact baseSafe_of_same hs rfl Iff.rfl
  · split
    · exact hs
    · exact baseSafe_of_same hs rfl Iff.rfl

theorem State.idle_baseSafe {s : State} (hs : BaseSafe s) : BaseSafe s.idle := by
  unfold State.idle
  split
  · exact entryFallsDue_baseSafe hs
  · split
    · exact flapArrives_baseSafe hs _
    · split
      · exact endStore_baseSafe hs _
      · exact tickClock_baseSafe hs

end Sys2Proof.Machine
end

section
/-! The invariant of the hold table is kept by every command and by every step. -/

namespace Sys2Proof.Machine

open Sys2Proof.Safety

theorem State.takeEvent_baseSafe {α : Type} {s : State} (hs : BaseSafe s) {p : Handoff → Option α}
    {f : α → State → State} (hf : ∀ a s1, BaseSafe s1 → BaseSafe (f a s1)) : BaseSafe (s.takeEvent p f) := by
  unfold State.takeEvent
  split
  · exact hs
  · exact hf _ _ (baseSafe_of_same hs rfl Iff.rfl)

/-- What a delivery can do: nothing, or the delivery of an expiry in flight of the key. -/
theorem State.deliver_cases (s : State) (k : DeadlineKey) (f : Instant → State → State) :
    s.deliver k f = s ∨ ∃ d ∈ s.time.expiries, d.key = k ∧
      s.deliver k f = f d.due (s.setTime { s.time with expiries := dropKey k s.time.expiries }) := by
  unfold State.deliver
  split
  · exact .inl rfl
  · next d hd =>
    split
    · next hk => exact .inr ⟨d, List.mem_of_find?_eq_some hd, hk, rfl⟩
    · exact .inl rfl

theorem State.withoutExpiry_baseSafe {s : State} (hs : BaseSafe s) (k : DeadlineKey) :
    BaseSafe (s.setTime { s.time with expiries := dropKey k s.time.expiries }) := by
  obtain ⟨hsound, hset, htime⟩ := (baseSafe_iff s).1 hs
  refine (baseSafe_iff _).2 ⟨hsound, hset, ?_⟩
  rw [Timebase.namesOpenSlots_iff] at htime ⊢
  exact ⟨htime.1, fun d hd => htime.2 d (mem_dropKey.1 hd).1⟩

theorem State.deliver_baseSafe {s : State} (hs : BaseSafe s) {k : DeadlineKey} {f : Instant → State → State}
    (hf : ∀ due s1, BaseSafe s1 → BaseSafe (f due s1)) : BaseSafe (s.deliver k f) := by
  obtain he | ⟨d, -, -, he⟩ := s.deliver_cases k f
  · rwa [he]
  · rw [he]
    exact hf _ _ (withoutExpiry_baseSafe hs k)

theorem State.serve_baseSafe {s : State} (hs : BaseSafe s) {code : List Byte} {act : State → State × Reply}
    (hact : ∀ s1, BaseSafe s1 → BaseSafe (act s1).1) : BaseSafe (s.serve code act) := by
  have hlink (l : LinkPort) : BaseSafe (s.setLink l) := baseSafe_of_same hs rfl Iff.rfl
  have hreply {t : State} (r : Reply) (ht : BaseSafe t) : BaseSafe (t.formReply r) := baseSafe_of_same ht rfl Iff.rfl
  unfold State.serve
  split
  · exact hreply _ (hact _ (hlink _))
  · split
    · exact hreply _ (hact _ (hlink _))
    · exact hlink _

/-! ### The requests -/

theorem regimeSet_baseSafe (regime : Byte) (s : State) (hs : BaseSafe s) : BaseSafe (regimeSet regime s).1 := by
  unfold regimeSet
  split
  · exact hs
  · split
    · exact hs
    · split
      · exact hs
      · exact State.beginRegime_baseSafe hs _

theorem mapSet_baseSafe (zone regime fallback : Byte) (offset : Half) (s : State) (hs : BaseSafe s) :
    BaseSafe (mapSet zone regime fallback offset s).1 := by
  unfold mapSet
  split
  · exact hs
  · split
    · exact hs
    · split
      · exact hs
      · split
        · exact hs
        · exact baseSafe_of_same hs rfl Iff.rfl

theorem State.writeCorrection_baseSafe {s : State} (hs : BaseSafe s) (slot : Nat) (k : Option Correction) :
    BaseSafe (s.writeCorrection slot k).1 := by
  unfold State.writeCorrection
  dsimp only
  split
  · exact baseSafe_of_same hs rfl Iff.rfl
  · exact hs

theorem correctionSet_baseSafe (slot op channel index : Byte) (value : Half) (s : State) (hs : BaseSafe s) :
    BaseSafe (correctionSet slot op channel index value s).1 := by
  unfold correctionSet
  split
  · exact hs
  · split
    · exact State.writeCorrection_baseSafe hs _ _
    · split
      · exact hs
      · dsimp only
        split
        · exact hs
        · split
          · exact hs
          · split
            · exact hs
            · exact State.writeCorrection_baseSafe hs _ _

theorem doorQuery_baseSafe (door clear : Byte) (s : State) (hs : BaseSafe s) : BaseSafe (doorQuery door clear s).1 := by
  unfold doorQuery
  split
  · exact hs
  · exact State.setDoor_baseSafe hs _ _

theorem defrostNow_baseSafe (s : State) (hs : BaseSafe s) : BaseSafe (defrostNow s).1 := by
  unfold defrostNow
  split
  · exact baseSafe_of_same hs (by simp) (by simp)
  · exact baseSafe_of_same hs (by simp) (by simp)
  · exact hs
  · exact hs

theorem defrostCancel_baseSafe (s : State) (hs : BaseSafe s) : BaseSafe (defrostCancel s).1 := by
  unfold defrostCancel
  split
  · exact State.giveUpDefrost_baseSafe hs
  · exact State.giveUpDefrost_baseSafe hs
  · exact State.endHeat_baseSafe hs _
  · exact hs

theorem clearLockout_baseSafe (s : State) (hs : BaseSafe s) : BaseSafe (clearLockout s).1 := by
  unfold clearLockout
  split
  · exact State.clearLockout_baseSafe hs
  · exact hs

theorem noticeNext_baseSafe (s : State) (hs : BaseSafe s) : BaseSafe (noticeNext s).1 := by
  unfold noticeNext
  split
  · exact hs
  · exact baseSafe_of_same hs rfl Iff.rfl

theorem settingsWrite_baseSafe (item : Byte) (value : Quad) (s : State) (hs : BaseSafe s) :
    BaseSafe (settingsWrite item value s).1 := by
  unfold settingsWrite
  split
  · exact hs
  · split
    · exact hs
    · next hw => exact State.writeSetting_baseSafe hs hw

theorem settingsStore_baseSafe (s : State) (hs : BaseSafe s) : BaseSafe (settingsStore s).1 := by
  unfold settingsStore
  split
  · exact hs
  · exact baseSafe_of_same hs rfl Iff.rfl

/-- A request that answers from a record alone changes nothing. -/
theorem zoneQuery_fst (zone : Byte) (s : State) : (zoneQuery zone s).1 = s := by unfold zoneQuery; split <;> rfl

theorem holdQuery_fst (slot gen : Byte) (s : State) : (holdQuery slot gen s).1 = s := by unfold holdQuery; split <;> rfl

theorem holdList_fst (zone : Byte) (s : State) : (holdList zone s).1 = s := by unfold holdList; split <;> rfl

theorem sensorQuery_fst (channel : Byte) (s : State) : (sensorQuery channel s).1 = s := by
  unfold sensorQuery
  split
  · rfl
  · split <;> rfl

theorem settingsRead_fst (item : Byte) (s : State) : (settingsRead item s).1 = s := by
  unfold settingsRead
  split <;> rfl

/-! ### Every command -/

/-- Where the outcome is a next state, the invariant of the hold table stands there. -/
def KeepsBase (o : Host.Outcome State Fault Refusal) : Prop := ∀ t, o = .next t → BaseSafe t

theorem KeepsBase.next {t : State} (ht : BaseSafe t) : KeepsBase (.next t) := fun _ he => by cases he; exact ht

theorem execUptimeWrapRestart_keepsBase {s : State} (hs : BaseSafe s) (straps : Straps) :
    KeepsBase (execUptimeWrapRestart straps s) := by
  refine .next ?_
  split
  · exact State.startUp_baseSafe ..
  · exact hs

theorem execStoreWriteEnd_keepsBase {s : State} (hs : BaseSafe s) :
    KeepsBase (execStoreWriteEnd s) := by
  refine .next ?_
  split
  · exact State.endStore_baseSafe hs _
  · exact hs

theorem execFrameRefused_keepsBase {s : State} (hs : BaseSafe s) (why : FrameRefusal) :
    KeepsBase (execFrameRefused why s) := by
  refine .next ?_
  have hrx : BaseSafe (s.rxRefused why) := by
    cases why <;> exact baseSafe_of_same hs rfl Iff.rfl
  split <;> exact baseSafe_of_same hrx rfl Iff.rfl

theorem execOverrun_keepsBase {s : State} (hs : BaseSafe s) :
    KeepsBase (execOverrun s) := by
  refine .next ?_
  split
  · exact baseSafe_of_same hs rfl Iff.rfl
  · exact hs

theorem execFramingError_keepsBase {s : State} (hs : BaseSafe s) :
    KeepsBase (execFramingError s) := by
  refine .next ?_
  split
  · exact hs
  · exact State.setRx_baseSafe hs _
  · exact State.setRx_baseSafe hs _
  · exact hs

theorem execReplyStart_keepsBase {s : State} (hs : BaseSafe s) :
    KeepsBase (execReplyStart s) := by
  refine .next ?_
  split
  · exact baseSafe_of_same hs rfl Iff.rfl
  · exact hs

theorem execReplySent_keepsBase {s : State} (hs : BaseSafe s) (straps : Straps) :
    KeepsBase (execReplySent straps s) := by
  refine .next ?_
  split
  · split
    · exact State.startUp_baseSafe ..
    · exact baseSafe_of_same hs rfl Iff.rfl
  · exact hs

/-- A delivered HOLD_EXPIRY names no BASE hold (R169), so it may lapse the hold it names. -/
theorem execHoldExpiry_keepsBase {s : State} (hs : BaseSafe s) (slot : Nat) :
    KeepsBase (execHoldExpiry slot s) := by
  refine .next ?_
  obtain he | ⟨d, hd, hk, he⟩ := s.deliver_cases (.holdExpiry slot) _
  · rwa [he]
  rw [he]
  have hs1 := State.withoutExpiry_baseSafe hs (.holdExpiry slot)
  obtain ⟨hsound, -, htime⟩ := (baseSafe_iff s).1 hs
  have hslot : 3 ≤ slot := by
    simpa [namesOpenSlot, hk] using ((Timebase.namesOpenSlots_iff _).1 htime).2 d hd
  split
  · exact hs1
  · next h hat =>
    have hkind : h.kind ≠ .base := fun hb => by
      have := (hsound.base_iff hat).1 hb
      omega
    exact ((State.SafeBut.of_baseSafe hs1 h.zone).lapse hat rfl hkind .expired).regovern
      (change := fun s2 => s2.lapse slot .expired)

theorem execChannelConversion_keepsBase {s : State} (hs : BaseSafe s) (c : Channel) (count : Nat) :
    KeepsBase (execChannelConversion c count s) := by
  refine .next ?_
  refine State.report_baseSafe ?_ _
  split <;> exact baseSafe_of_same hs rfl Iff.rfl

theorem execBlindHalf_keepsBase {s : State} (hs : BaseSafe s) (z : Zone) :
    KeepsBase (execBlindHalf z s) := by
  refine .next ?_
  refine State.deliver_baseSafe hs fun due s1 h1 => ?_
  split
  · exact State.evaluateSchedule_baseSafe h1 _ _ due
  · exact h1

theorem execDoorAjar_keepsBase {s : State} (hs : BaseSafe s) (d : Door) :
    KeepsBase (execDoorAjar d s) := by
  refine .next ?_
  refine State.deliver_baseSafe hs fun due s1 h1 => ?_
  split
  · exact baseSafe_of_same h1 rfl Iff.rfl
  · exact h1

theorem execDoorChangeEvaluation_keepsBase {s : State} (hs : BaseSafe s) (d : Door) :
    KeepsBase (execDoorChangeEvaluation d s) := by
  refine .next ?_
  refine State.takeEvent_baseSafe hs fun e s1 h1 => ?_
  split
  · exact State.evaluateDoor_baseSafe h1 _ e
  · exact h1

theorem execFanDelay_keepsBase {s : State} (hs : BaseSafe s) :
    KeepsBase (execFanDelay s) := by
  refine .next ?_
  refine State.deliver_baseSafe hs fun due s1 h1 => State.recomputeAir_baseSafe ?_
  split
  · exact baseSafe_of_same h1 rfl Iff.rfl
  · exact h1

theorem execDamperArrival_keepsBase {s : State} (hs : BaseSafe s) :
    KeepsBase (execDamperArrival s) := by
  refine .next ?_
  split
  · exact State.closingEnds_baseSafe (baseSafe_of_same hs rfl Iff.rfl)
  · exact hs

theorem execFlapArrival_keepsBase {s : State} (hs : BaseSafe s) :
    KeepsBase (execFlapArrival s) := by
  refine .next ?_
  split
  · exact State.flapArrives_baseSafe hs _
  · exact hs

theorem execHomingEnd_keepsBase {s : State} (hs : BaseSafe s) (m : HomingMotor) :
    KeepsBase (execHomingEnd m s) := by
  refine .next ?_
  split
  · split
    · exact State.valveHomed_baseSafe hs
    · exact hs
  · split
    · exact State.damperHomed_baseSafe hs
    · exact hs
  · exact hs

theorem execValveArrival_keepsBase {s : State} (hs : BaseSafe s) :
    KeepsBase (execValveArrival s) := by
  refine .next ?_
  split
  · exact baseSafe_of_same hs rfl Iff.rfl
  · exact hs

theorem execReleaseEnd_keepsBase {s : State} (hs : BaseSafe s) :
    KeepsBase (execReleaseEnd s) := by
  refine .next ?_
  refine State.takeEvent_baseSafe hs fun pos s1 h1 => ?_
  split
  · exact baseSafe_of_same h1 (by simp) (by simp)
  · exact h1

theorem execPumpdownStage_keepsBase {s : State} (hs : BaseSafe s) :
    KeepsBase (execPumpdownStage s) := by
  refine .next ?_
  split
  · exact State.deliver_baseSafe hs fun _ s1 h1 => State.endPumpdown_baseSafe h1
  · exact hs

theorem execHoldoffStage_keepsBase {s : State} (hs : BaseSafe s) :
    KeepsBase (execHoldoffStage s) := by
  refine .next ?_
  split
  · exact State.deliver_baseSafe hs fun _ s1 h1 => baseSafe_of_same h1 (by simp) (by simp)
  · exact hs

theorem execRecoveryStage_keepsBase {s : State} (hs : BaseSafe s) :
    KeepsBase (execRecoveryStage s) := by
  refine .next ?_
  split
  · exact State.deliver_baseSafe hs fun _ s1 h1 => State.recover_baseSafe h1
  · exact hs

theorem execSpeedStep_keepsBase {s : State} (hs : BaseSafe s) :
    KeepsBase (execSpeedStep s) := by
  refine .next ?_
  refine State.deliver_baseSafe hs fun due s1 h1 => State.review_baseSafe (State.slewSpeed_baseSafe ?_)
  exact baseSafe_of_same h1 (by simp) (by simp)

theorem execDriveLinkTick_keepsBase {s : State} (hs : BaseSafe s) :
    KeepsBase (execDriveLinkTick s) := by
  refine .next ?_
  have h1 : BaseSafe (s.setDrive s.drive.judgeMiss) := baseSafe_of_same hs rfl Iff.rfl
  exact baseSafe_of_same (State.countRunSecond_baseSafe (State.judgeSilence_baseSafe h1)) rfl Iff.rfl

theorem execMainsSample_keepsBase {s : State} (hs : BaseSafe s) (count : Nat) :
    KeepsBase (execMainsSample count s) := by
  refine .next ?_
  split <;> exact baseSafe_of_same hs rfl Iff.rfl

theorem execArbiterSag_keepsBase {s : State} (hs : BaseSafe s) :
    KeepsBase (execArbiterSag s) := by
  refine .next ?_
  split
  · exact baseSafe_of_same hs (by simp) (by simp)
  · exact hs

theorem execArbiterNormal_keepsBase {s : State} (hs : BaseSafe s) :
    KeepsBase (execArbiterNormal s) := by
  refine .next ?_
  split
  · exact State.takeNormal_baseSafe (baseSafe_of_same hs rfl Iff.rfl)
  · exact hs

theorem execArbiterChangeToDefrost_keepsBase {s : State} (hs : BaseSafe s) :
    KeepsBase (execArbiterChangeToDefrost s) := by
  refine .next ?_
  refine State.takeEvent_baseSafe hs fun c s1 h1 => State.takePhaseChange_baseSafe ?_ _
  split
  · exact baseSafe_of_same h1 (by simp) (by simp)
  · exact h1

theorem execPendingLimit_keepsBase {s : State} (hs : BaseSafe s) :
    KeepsBase (execPendingLimit s) := by
  refine .next ?_
  refine State.deliver_baseSafe hs fun _ s1 h1 => ?_
  split
  · exact State.enterRelease_baseSafe h1
  · exact h1

theorem execPrechillPhaseExpiry_keepsBase {s : State} (hs : BaseSafe s) :
    KeepsBase (execPrechillPhaseExpiry s) := by
  refine .next ?_
  split
  · exact State.deliver_baseSafe hs fun _ s1 h1 => State.enterRelease_baseSafe h1
  · exact hs

theorem execHeatPhaseExpiry_keepsBase {s : State} (hs : BaseSafe s) :
    KeepsBase (execHeatPhaseExpiry s) := by
  refine .next ?_
  split
  · exact State.deliver_baseSafe hs fun _ s1 h1 => State.endHeat_baseSafe h1 _
  · exact hs

theorem execDripPhaseExpiry_keepsBase {s : State} (hs : BaseSafe s) :
    KeepsBase (execDripPhaseExpiry s) := by
  refine .next ?_
  split
  · exact State.deliver_baseSafe hs fun _ s1 h1 => baseSafe_of_same h1 (by simp) (by simp)
  · exact hs

theorem execRecoverPhaseExpiry_keepsBase {s : State} (hs : BaseSafe s) :
    KeepsBase (execRecoverPhaseExpiry s) := by
  refine .next ?_
  split
  · exact State.deliver_baseSafe hs fun _ s1 h1 => State.endRecover_baseSafe h1
  · exact hs

theorem execCoilS3Report_keepsBase {s : State} (hs : BaseSafe s) :
    KeepsBase (execCoilS3Report s) := by
  refine .next ?_
  refine State.takeEvent_baseSafe hs fun r s1 h1 => ?_
  split
  · exact State.endRecovery_baseSafe h1
  · exact h1

theorem execCoilRecoveryCutShort_keepsBase {s : State} (hs : BaseSafe s) :
    KeepsBase (execCoilRecoveryCutShort s) := by
  refine .next ?_
  refine State.takeEvent_baseSafe hs fun u s1 h1 => ?_
  split
  · exact State.endRecovery_baseSafe h1
  · exact h1

theorem execDriveReceiverByte_keepsBase {s : State} (hs : BaseSafe s) (c : DriveChar) :
    KeepsBase (execDriveReceiverByte c s) := by
  refine .next ?_
  split
  · exact State.driveByte_baseSafe hs _
  · exact baseSafe_of_same hs rfl Iff.rfl

theorem execDamperStep_keepsBase {s : State} (hs : BaseSafe s) :
    KeepsBase (execDamperStep s) := by
  refine .next ?_
  split
  · exact hs
  · exact baseSafe_of_same hs rfl Iff.rfl
  · split
    · exact baseSafe_of_same hs rfl Iff.rfl
    · exact hs

theorem execValveStep_keepsBase {s : State} (hs : BaseSafe s) :
    KeepsBase (execValveStep s) := by
  refine .next ?_
  split
  · exact hs
  · exact baseSafe_of_same hs (by simp) (by simp)
  · split
    · exact baseSafe_of_same hs (by simp) (by simp)
    · exact hs

theorem execStatusFrame_keepsBase {s : State} (hs : BaseSafe s) (seq actual code check : Byte) :
    KeepsBase (execStatusFrame seq actual code check s) := by
  have hrx : BaseSafe (s.setDrive { s.drive with rx := .waiting }) := baseSafe_of_same hs rfl Iff.rfl
  exact .next (State.takeStatus_baseSafe hrx ..)

/-- Every command keeps the invariant of the hold table. -/
theorem exec_keepsBase {s : State} (hs : BaseSafe s) (c : Instr) : KeepsBase (exec c s) := by
  have read {act : State → State × Reply} (h : ∀ s1, (act s1).1 = s1) (s1 : State) (h1 : BaseSafe s1) :
      BaseSafe (act s1).1 := (h s1).symm ▸ h1
  cases c with
  | powerOnReset straps => exact .next (State.startUp_baseSafe ..)
  | uptimeWrapRestart straps => exact execUptimeWrapRestart_keepsBase hs _
  | ident => exact .next (State.serve_baseSafe hs (read fun _ => rfl))
  | systemQuery => exact .next (State.serve_baseSafe hs (read fun _ => rfl))
  | restart => exact .next (State.serve_baseSafe hs fun s1 h1 => baseSafe_of_same h1 rfl Iff.rfl)
  | holdOpen zone kind target halfBand priority flags minutes floor =>
    exact .next (State.serve_baseSafe hs fun s1 h1 => holdOpen_baseSafe h1 ..)
  | holdAmend slot gen mask target halfBand priority minutes floor reach =>
    exact .next (State.serve_baseSafe hs fun s1 h1 => holdAmend_baseSafe h1 ..)
  | holdRetire slot gen => exact .next (State.serve_baseSafe hs fun s1 h1 => holdRetire_baseSafe h1 ..)
  | holdQuery slot gen => exact .next (State.serve_baseSafe hs (read (holdQuery_fst _ _)))
  | holdList zone => exact .next (State.serve_baseSafe hs (read (holdList_fst _)))
  | zoneQuery zone => exact .next (State.serve_baseSafe hs (read (zoneQuery_fst _)))
  | regimeSet regime => exact .next (State.serve_baseSafe hs (regimeSet_baseSafe _))
  | mapSet zone regime fallback offset => exact .next (State.serve_baseSafe hs (mapSet_baseSafe _ _ _ _))
  | sensorQuery channel => exact .next (State.serve_baseSafe hs (read (sensorQuery_fst _)))
  | correctionSet slot op channel index value =>
    exact .next (State.serve_baseSafe hs (correctionSet_baseSafe _ _ _ _ _))
  | doorQuery door clear => exact .next (State.serve_baseSafe hs (doorQuery_baseSafe _ _))
  | defrostNow => exact .next (State.serve_baseSafe hs defrostNow_baseSafe)
  | defrostCancel => exact .next (State.serve_baseSafe hs defrostCancel_baseSafe)
  | clearLockout => exact .next (State.serve_baseSafe hs clearLockout_baseSafe)
  | noticeNext => exact .next (State.serve_baseSafe hs noticeNext_baseSafe)
  | noticeEnable mask => exact .next (State.serve_baseSafe hs fun s1 h1 => baseSafe_of_same h1 rfl Iff.rfl)
  | settingsWrite item value => exact .next (State.serve_baseSafe hs (settingsWrite_baseSafe _ _))
  | settingsRead item => exact .next (State.serve_baseSafe hs (read (settingsRead_fst _)))
  | settingsStore => exact .next (State.serve_baseSafe hs settingsStore_baseSafe)
  | storeWriteEnd => exact execStoreWriteEnd_keepsBase hs
  | frameRefused why => exact execFrameRefused_keepsBase hs _
  | overrun => exact execOverrun_keepsBase hs
  | framingError => exact execFramingError_keepsBase hs
  | byteGapTimeout => exact .next (State.setRx_baseSafe hs _)
  | replyStart => exact execReplyStart_keepsBase hs
  | replySent straps => exact execReplySent_keepsBase hs _
  | holdExpiry slot => exact execHoldExpiry_keepsBase hs _
  | holdChangeEvaluation z =>
    exact .next (State.takeEvent_baseSafe hs fun g s1 h1 => State.evaluateHoldChange_baseSafe h1 _ g)
  | channelConversion c count => exact execChannelConversion_keepsBase hs _ _
  | oneSecondEvaluation z =>
    exact .next (State.takeEvent_baseSafe hs fun r s1 h1 => State.evaluateSecond_baseSafe h1 _ r)
  | blindHalf z => exact execBlindHalf_keepsBase hs _
  | doorSample d a b c => exact .next (State.sampleDoor_baseSafe hs _ _)
  | doorAjar d => exact execDoorAjar_keepsBase hs _
  | doorChangeEvaluation d => exact execDoorChangeEvaluation_keepsBase hs _
  | airRecompute k => exact .next (State.takeEvent_baseSafe hs fun w s1 h1 => State.airTake_baseSafe h1 w)
  | fanDelay => exact execFanDelay_keepsBase hs
  | damperArrival => exact execDamperArrival_keepsBase hs
  | flapArrival => exact execFlapArrival_keepsBase hs
  | homingEnd m => exact execHomingEnd_keepsBase hs _
  | valveArrival => exact execValveArrival_keepsBase hs
  | startCompletion => exact .next (State.takeEvent_baseSafe hs fun pos s1 h1 => State.valveArrives_baseSafe h1 pos)
  | releaseEnd => exact execReleaseEnd_keepsBase hs
  | arbiterReview => exact .next (State.takeEvent_baseSafe hs fun _ s1 h1 => State.review_baseSafe h1)
  | pumpdownStage => exact execPumpdownStage_keepsBase hs
  | holdoffStage => exact execHoldoffStage_keepsBase hs
  | recoveryStage => exact execRecoveryStage_keepsBase hs
  | inhibit =>
    exact .next (State.deliver_baseSafe hs fun _ s1 h1 => State.review_baseSafe (baseSafe_of_same h1 rfl Iff.rfl))
  | dwellMin =>
    exact .next (State.deliver_baseSafe hs fun _ s1 h1 => State.review_baseSafe (baseSafe_of_same h1 rfl Iff.rfl))
  | dwellMax =>
    exact .next (State.deliver_baseSafe hs fun _ s1 h1 => State.review_baseSafe (baseSafe_of_same h1 rfl Iff.rfl))
  | speedStep => exact execSpeedStep_keepsBase hs
  | driveLinkTick => exact execDriveLinkTick_keepsBase hs
  | statusFrame seq actual code check => exact execStatusFrame_keepsBase hs _ _ _ _
  | mainsSample count => exact execMainsSample_keepsBase hs _
  | arbiterSag => exact execArbiterSag_keepsBase hs
  | arbiterNormal => exact execArbiterNormal_keepsBase hs
  | arbiterChangeToDefrost => exact execArbiterChangeToDefrost_keepsBase hs
  | defrostS4Report => exact .next (State.takeEvent_baseSafe hs fun r s1 h1 => State.takeS4_baseSafe h1 r)
  | pendingLimit => exact execPendingLimit_keepsBase hs
  | prechillPhaseExpiry => exact execPrechillPhaseExpiry_keepsBase hs
  | heatPhaseExpiry => exact execHeatPhaseExpiry_keepsBase hs
  | dripPhaseExpiry => exact execDripPhaseExpiry_keepsBase hs
  | recoverPhaseExpiry => exact execRecoverPhaseExpiry_keepsBase hs
  | coilS3Report => exact execCoilS3Report_keepsBase hs
  | coilRecovery => exact .next (State.deliver_baseSafe hs fun _ s1 h1 => State.endRecovery_baseSafe h1)
  | coilRecoveryCutShort => exact execCoilRecoveryCutShort_keepsBase hs
  | deadlineFallsDue => exact .next (State.entryFallsDue_baseSafe hs)
  | noticeRaise n => exact .next (State.takeEvent_baseSafe hs fun _ s1 h1 => baseSafe_of_same h1 rfl Iff.rfl)
  | characterReceived b => exact .next (State.receive_baseSafe hs _)
  | driveReceiverByte c => exact execDriveReceiverByte_keepsBase hs _
  | damperStep => exact execDamperStep_keepsBase hs
  | valveStep => exact execValveStep_keepsBase hs
  | pwmPeriodBoundary => exact .next (baseSafe_of_same hs rfl Iff.rfl)

/-- Settles O15: a step runs one command or moves the clock, and every zone's BASE hold is there to govern it. -/
theorem everyStepKeepsTheHoldTable : Obligations.EveryStepKeepsTheHoldTable := by
  intro s t hs hstep
  have ht : BaseSafe t := by
    unfold step at hstep
    split at hstep
    · cases hstep
      exact State.idle_baseSafe hs
    · next c rest _ =>
      have hrest : BaseSafe (s.setPending rest) := baseSafe_of_same hs rfl Iff.rfl
      exact exec_keepsBase hrest c t hstep
  exact ⟨ht, fun z => ((baseSafe_iff t).1 ht).1.live_isSome z⟩

end Sys2Proof.Machine
end

section
/-! The checks of the requests on holds, in their order (R11, R13, R17), and the taking of a request (R181 to R183). -/

namespace Sys2Proof.Machine

open Sys2Proof.Safety

/-! ### A request taken -/

/-- The link port once it has taken the request, before the reply is formed. -/
def LinkPort.taking (l : LinkPort) (req : List Byte) : LinkPort :=
  if l.request = some req then { l with request := none } else { l with port := .serving }

theorem linkAfter_eq (l : LinkPort) (req : List Byte) (r : Reply) :
    linkAfter l req r = { l.taking req with reply := some r } := by
  unfold linkAfter LinkPort.taking
  split <;> rfl

/-- A request that is taken is carried out on the state with the port that has taken it, and the reply is formed. -/
theorem State.serve_of_taken {s : State} {req : List Byte} (ht : s.link.request = some req ∨ s.link.port = .idle)
    (act : State → State × Reply) :
    s.serve req act
      = (act (s.setLink (s.link.taking req))).1.formReply (act (s.setLink (s.link.taking req))).2 := by
  unfold State.serve LinkPort.taking
  by_cases hr : s.link.request = some req
  · simp only [if_pos hr]
  · simp only [if_neg hr, if_pos (ht.resolve_left hr)]

section Taken

variable {c : Instr} {s : State} {req : List Byte} {act : State → State × Reply}

/-- A request that leaves the link port alone is answered. -/
theorem State.serve_answered (hc : requestBytes c = some req) (ht : Taken c s)
    (hl : (act (s.setLink (s.link.taking req))).1.link = s.link.taking req) :
    s.serve req act
      = answered c s (act (s.setLink (s.link.taking req))).1 (act (s.setLink (s.link.taking req))).2 := by
  rw [Taken, hc, Option.getD_some] at ht
  rw [State.serve_of_taken ht, answered, hc, Option.getD_some, linkAfter_eq, State.formReply, hl]
  rfl

theorem State.serve_refused {st : Status} (hc : requestBytes c = some req) (ht : Taken c s)
    (hact : ∀ l, act (s.setLink l) = (s.setLink l, refuse st)) : s.serve req act = refusedWith c s st := by
  rw [State.serve_answered hc ht (by rw [hact]; rfl), hact]
  rfl

end Taken

/-! ### Codes of a request -/

theorem zoneOf_of_lt {b : Byte} (h : 2 < b.toNat) : zoneOf b = none := by
  unfold zoneOf
  split
  case h_4 => rfl
  all_goals omega

theorem zoneOf_of_le {b : Byte} (h : b.toNat ≤ 2) : ∃ z, zoneOf b = some z ∧ (z = .chill ↔ b.toNat = 1) := by
  have hb : b.toNat = 0 ∨ b.toNat = 1 ∨ b.toNat = 2 := by omega
  rcases hb with hb | hb | hb <;> simp [zoneOf, hb]

theorem kindOf_of_lt {b : Byte} (h : 2 < b.toNat) : kindOf b = none := by
  unfold kindOf
  split
  case h_4 => rfl
  all_goals omega

theorem kindOf_of_le {b : Byte} (h : b.toNat ≤ 2) :
    ∃ k, kindOf b = some k ∧ (k = .base ↔ b.toNat = 0) ∧ (k = .ease ↔ b.toNat = 2) := by
  have hb : b.toNat = 0 ∨ b.toNat = 1 ∨ b.toNat = 2 := by omega
  rcases hb with hb | hb | hb <;> simp [kindOf, hb]

theorem State.inTransit_iff (s : State) : s.inTransit = true ↔ s.map.step ≠ none := Option.isSome_iff_ne_none

/-! ### HOLD OPEN's checks (R11) -/

section HoldOpen

variable {zone kind : Byte} {z : Zone} {k : HoldKind} {s : State} (target : Half) (halfBand priority : Byte)
  {flags : Byte} (minutes : Half) (floor : Byte)

theorem holdOpen_undefined (h : zoneOf zone = none ∨ kindOf kind = none) :
    holdOpen zone kind target halfBand priority flags minutes floor s = (s, refuse .field) := by
  unfold holdOpen
  rcases h with h | h
  · rw [h]
  · rw [h]
    cases zoneOf zone <;> rfl

theorem holdOpen_base (hz : zoneOf zone = some z) (hk : kindOf kind = some .base) :
    holdOpen zone kind target halfBand priority flags minutes floor s = (s, refuse .fixed) := by
  simp only [holdOpen, hz, hk, if_true]

theorem holdOpen_barred (hz : zoneOf zone = some z) (hk : kindOf kind = some .ease)
    (hf : flags.getLsbD 1 = true ∨ flags.getLsbD 2 = true) :
    holdOpen zone kind target halfBand priority flags minutes floor s = (s, refuse .field) := by
  simp only [holdOpen, hz, hk, reduceCtorEq, if_false, true_and, if_pos hf]

section Passing

variable (hz : zoneOf zone = some z) (hk : kindOf kind = some k) (hb : k ≠ .base)
  (hf : ¬ (k = .ease ∧ (flags.getLsbD 1 = true ∨ flags.getLsbD 2 = true)))

include hz hk hb hf

theorem holdOpen_busy (hc : z = .chill ∧ s.map.step ≠ none) :
    holdOpen zone kind target halfBand priority flags minutes floor s = (s, refuse .busy) := by
  rw [← State.inTransit_iff] at hc
  simp only [holdOpen, hz, hk, if_neg hb, if_neg hf, if_pos hc]

theorem holdOpen_full (hc : ¬ (z = .chill ∧ s.map.step ≠ none)) (hs : s.holds.freeSlot = none) :
    holdOpen zone kind target halfBand priority flags minutes floor s = (s, refuse .full) := by
  rw [← State.inTransit_iff] at hc
  simp only [holdOpen, hz, hk, if_neg hb, if_neg hf, if_neg hc, hs]

theorem holdOpen_passes {i : Nat} (hc : ¬ (z = .chill ∧ s.map.step ≠ none)) (hs : s.holds.freeSlot = some i) :
    holdOpen zone kind target halfBand priority flags minutes floor s
      = s.openHold i z k target halfBand priority flags minutes floor := by
  rw [← State.inTransit_iff] at hc
  simp only [holdOpen, hz, hk, if_neg hb, if_neg hf, if_neg hc, hs]

end Passing

end HoldOpen

theorem HoldTable.freeSlot_eq_none {t : HoldTable} : t.freeSlot = none ↔ ∀ sl ∈ t.slots, sl.hold ≠ none := by
  simp [HoldTable.freeSlot, Option.isSome_iff_ne_none]

/-! ### HOLD AMEND's checks (R13) -/

section HoldAmend

variable {slot gen mask : Byte} {s : State} {h : Hold} (target : Half) (halfBand priority : Byte) (minutes : Half)
  (floor reach : Byte)

/-- The mask names a field that only a BOOST carries. -/
def namesBoostField (mask : Byte) : Prop := mask.getLsbD 4 = true ∨ mask.getLsbD 5 = true

/-- The mask names a field that a BASE hold does not take. -/
def namesOpenField (mask : Byte) : Prop := mask.getLsbD 2 = true ∨ mask.getLsbD 3 = true ∨ namesBoostField mask

theorem holdAmend_stale (hn : s.holds.named (handleOf slot gen) = none) :
    holdAmend slot gen mask target halfBand priority minutes floor reach s = (s, refuse .stale) := by
  simp only [holdAmend, hn]

section Named

variable (hn : s.holds.named (handleOf slot gen) = some h)
include hn

theorem holdAmend_lapsed (hl : h.state.isLapsed = true) :
    holdAmend slot gen mask target halfBand priority minutes floor reach s = (s, refuse .lapsed) := by
  simp only [holdAmend, hn, hl, if_true]

variable (hl : h.state.isLapsed = false)
include hl

theorem holdAmend_fixed (hf : h.kind = .base ∧ namesOpenField mask) :
    holdAmend slot gen mask target halfBand priority minutes floor reach s = (s, refuse .fixed) := by
  unfold namesOpenField namesBoostField at hf
  simp only [holdAmend, hn, hl, Bool.false_eq_true, if_false, if_pos hf]

variable (hf : ¬ (h.kind = .base ∧ namesOpenField mask))
include hf

theorem holdAmend_field (he : h.kind = .ease ∧ namesBoostField mask) :
    holdAmend slot gen mask target halfBand priority minutes floor reach s = (s, refuse .field) := by
  unfold namesOpenField namesBoostField at *
  simp only [holdAmend, hn, hl, Bool.false_eq_true, if_false, if_neg hf, if_pos he]

variable (he : ¬ (h.kind = .ease ∧ namesBoostField mask))
include he

theorem holdAmend_busy (hc : h.zone = .chill ∧ s.map.step ≠ none) :
    holdAmend slot gen mask target halfBand priority minutes floor reach s = (s, refuse .busy) := by
  rw [← State.inTransit_iff] at hc
  unfold namesOpenField namesBoostField at *
  simp only [holdAmend, hn, hl, Bool.false_eq_true, if_false, if_neg hf, if_neg he, if_pos hc]

theorem holdAmend_passes (hc : ¬ (h.zone = .chill ∧ s.map.step ≠ none)) :
    holdAmend slot gen mask target halfBand priority minutes floor reach s
      = s.amendHold h mask target halfBand priority minutes floor reach := by
  rw [← State.inTransit_iff] at hc
  unfold namesOpenField namesBoostField at *
  simp only [holdAmend, hn, hl, Bool.false_eq_true, if_false, if_neg hf, if_neg he, if_neg hc]

end Named

end HoldAmend

/-- Settles O10: each check is one case of the request, and those before it do not apply. -/
theorem holdRequestsAreCheckedInOrder : Obligations.HoldRequestsAreCheckedInOrder := by
  constructor
  · intro zone kind target halfBand priority flags minutes floor s c barred ht
    have refused {st : Status}
        (h : ∀ l, holdOpen zone kind target halfBand priority flags minutes floor (s.setLink l)
          = (s.setLink l, refuse st)) :
        exec c s = .next (refusedWith c s st) := congrArg _ (State.serve_refused rfl ht h)
    refine ⟨fun hu => ?undefined, fun hz hk => ?base, fun hz hb => ?barred,
      fun hz hk1 hk2 hnb => ⟨fun hc hs => ?busy, fun hc hs => ?full⟩⟩
    case undefined =>
      exact refused fun l => holdOpen_undefined _ _ _ _ _ (hu.imp zoneOf_of_lt kindOf_of_lt)
    case base =>
      obtain ⟨z, hz, -⟩ := zoneOf_of_le hz
      obtain ⟨k, hk', hbase, -⟩ := kindOf_of_le (b := kind) (by omega)
      exact refused fun l => holdOpen_base _ _ _ _ _ hz (hbase.2 hk ▸ hk')
    case barred =>
      obtain ⟨z, hz, -⟩ := zoneOf_of_le hz
      obtain ⟨hk, hf⟩ := hb
      obtain ⟨k, hk', -, hease⟩ := kindOf_of_le (b := kind) (by omega)
      exact refused fun l => holdOpen_barred _ _ _ _ _ hz (hease.2 hk ▸ hk') hf
    all_goals
      obtain ⟨z, hz, hchill⟩ := zoneOf_of_le hz
      obtain ⟨k, hk, hbase, hease⟩ := kindOf_of_le hk2
      have hb : k ≠ .base := fun h => by have := hbase.1 h; omega
      have hf : ¬ (k = .ease ∧ (flags.getLsbD 1 = true ∨ flags.getLsbD 2 = true)) := by rwa [hease]
    case busy => exact refused fun l => holdOpen_busy _ _ _ _ _ hz hk hb hf ⟨hchill.2 hc, hs⟩
    case full =>
      refine refused fun l => holdOpen_full _ _ _ _ _ hz hk hb hf ?_ (HoldTable.freeSlot_eq_none.2 hs)
      rw [hchill]
      exact fun h => hc.elim (· h.1) h.2
  · intro slot gen mask target halfBand priority minutes floor reach s c boostField baseField ht
    have refused {st : Status}
        (h : ∀ l, holdAmend slot gen mask target halfBand priority minutes floor reach (s.setLink l)
          = (s.setLink l, refuse st)) :
        exec c s = .next (refusedWith c s st) := congrArg _ (State.serve_refused rfl ht h)
    refine ⟨fun hn => refused fun l => holdAmend_stale _ _ _ _ _ _ hn, fun h hn => ⟨fun hl => ?_, fun hl => ?_⟩⟩
    · exact refused fun l => holdAmend_lapsed _ _ _ _ _ _ hn hl
    · refine ⟨fun hk hf => ?_, fun hk hb => ?_, fun hf he hz hs => ?_⟩
      · exact refused fun l => holdAmend_fixed _ _ _ _ _ _ hn hl ⟨hk, hf⟩
      · exact refused fun l => holdAmend_field _ _ _ _ _ _ hn hl (fun h => by simp [hk] at h) ⟨hk, hb⟩
      · exact refused fun l => holdAmend_busy _ _ _ _ _ _ hn hl hf he ⟨hz, hs⟩

end Sys2Proof.Machine
end

section
/-! The end of a hold: HOLD RETIRE (R17) and the delivery of a HOLD_EXPIRY (R20, R23), with what each leaves alone. -/

namespace Sys2Proof.Machine

open Sys2Proof.Safety

/-! ### The deadline list without one key -/

theorem dropKey_eq_filter (k : DeadlineKey) (l : List Deadline) :
    l.filter (fun d => decide (d.key ∉ [k])) = dropKey k l := by simp [dropKey]

@[simp] theorem dropKey_dropKey (k : DeadlineKey) (l : List Deadline) : dropKey k (dropKey k l) = dropKey k l := by
  simp [dropKey]

/-- An entry placed in the list leaves the entries of every other key in their order (R170). -/
@[simp] theorem dropKey_placeDeadline (k : DeadlineKey) (due : Instant) (l : List Deadline) :
    dropKey k (placeDeadline ⟨k, due⟩ l) = dropKey k l := by
  induction l with
  | nil => simp [placeDeadline, dropKey]
  | cons e es ih =>
    rw [placeDeadline]
    split
    · simp only [dropKey, List.filter_cons] at ih ⊢
      rw [ih]
    · simp [dropKey]

@[simp] theorem Timebase.without_without (x : Timebase) (k : DeadlineKey) :
    (x.without k).without k = x.without k := by simp [Timebase.without]

@[simp] theorem Timebase.withEntry_without (x : Timebase) (k : DeadlineKey) (due : Instant) :
    (x.withEntry k due).without k = x.without k := by simp [Timebase.without, Timebase.withEntry]

@[simp] theorem Timebase.withExpiry_without (x : Timebase) (i : Nat) (due : Option Nat) :
    (x.withExpiry i due).without (.holdExpiry i) = x.without (.holdExpiry i) := by
  cases due with
  | none => rfl
  | some d => exact x.withEntry_without _ _

/-- Two timebases that agree without the key differ in the entries of that key alone (R171). -/
theorem timeKept_iff (k : DeadlineKey) (s t : State) : TimeKept [k] s t ↔ t.time.without k = s.time.without k := by
  unfold TimeKept
  simp only [dropKey_eq_filter]
  constructor
  · rintro ⟨hu, hm, hd, he⟩
    simp only [Timebase.without, hu, hm, hd, he]
  · intro h
    simpa [Timebase.without] using h

theorem Timebase.not_mem_without (x : Timebase) (k : DeadlineKey) :
    ∀ e ∈ (x.without k).deadlines ++ (x.without k).expiries, e.key ≠ k := by
  intro e he
  rcases List.mem_append.1 he with he | he <;> exact (mem_dropKey.1 he).2

/-! ### A zone re-governed on a state that differs in its deadlines and its port alone -/

/-- The state `t` is `s` with the zone re-governed on the table `tab`, and with the timebase and the link port given. -/
structure State.Regoverned (s t : State) (z : Zone) (tab : HoldTable) (time : Timebase) (link : LinkPort)
    (raised : List Handoff) : Prop where
  holds : t.holds = tab.restated z
  time : t.time = time
  link : t.link = link
  frame : t = { s with
    holds := t.holds, time := t.time, link := t.link, events := s.events ++ raised ++ governmentHanded s t z }

theorem State.regoverned_of_change {s s0 t : State} {z : Zone} {change : State → State} {time0 time : Timebase}
    {link : LinkPort} {tab : HoldTable} {raised : List Handoff} (h0 : s0 = { s with time := time0, link := link })
    (hc : change s0 = { s with holds := tab, time := time, link := link, events := s.events ++ raised })
    (ht : s0.regovern z change = t) : s.Regoverned t z tab time link raised := by
  have hr := State.regovern_of_change (s := s0) (z := z) (change := change) (tab := tab) (time := time)
    (raised := raised) (by rw [hc, h0])
  rw [ht, governmentHanded_congr (s := s) (t := t) (by rw [h0]) (by rw [h0]) rfl rfl, h0] at hr
  generalize hg : governmentHanded s t z = g at hr
  constructor
  case frame =>
    rw [hg]
    conv_lhs => rw [hr]
    rw [hr]
  all_goals rw [hr]

/-! ### HOLD RETIRE -/

theorem HoldTable.retired_at_other (t : HoldTable) {h : Hold} {j : Nat} (hj : j ≠ h.handle.slot) :
    (t.retired h).at j = t.at j := HoldTable.at_congr (retired_slots_other t hj)

/-- Settles O13: the three cases of the request, the last by its closed form. -/
theorem holdRetireFreesTheSlot : Obligations.HoldRetireFreesTheSlot := by
  intro slot gen s c key ht hs
  have hsound := ((baseSafe_iff s).1 hs).1
  refine ⟨fun hn => ?stale, fun h hn => ⟨fun hk => ?fixed, fun hk => ?retired⟩⟩
  case stale =>
    exact congrArg _ (State.serve_refused rfl ht fun l => by simp only [holdRetire, handleOf, State.setLink_holds, hn])
  case fixed =>
    exact congrArg _ (State.serve_refused rfl ht fun l => by
      simp only [holdRetire, handleOf, State.setLink_holds, hn, if_pos hk])
  case retired =>
    obtain ⟨hat, hh⟩ := hsound.named_iff.1 hn
    obtain ⟨sl, hsl, hgen, -⟩ := HoldTable.named_eq_some.1 hn
    have hslot : h.handle.slot = slot.toNat := by rw [hh]
    let s0 := s.setLink (s.link.taking [0x12, slot, gen])
    have hact : holdRetire slot gen s0 = (s0.regovern h.zone fun s1 => s1.retire h, _) := holdRetire_of_named hn hh hk
    generalize hT : (s0.regovern h.zone fun s1 => s1.retire h) = t at hact
    obtain ⟨hholds, htime, hlink, hframe⟩ : s.Regoverned t h.zone (s.holds.retired h)
        (s.time.without (.holdExpiry h.handle.slot)) (s.link.taking [0x12, slot, gen]) [] :=
      State.regoverned_of_change rfl (by rw [List.append_nil]; rfl) hT
    refine ⟨t, ?reply, ?frame, ?freed, ?left, ?lists, ?others, ?deadlines⟩
    case reply =>
      refine congrArg _ ((State.serve_answered rfl ht ?_).trans ?_)
      · rw [hact]
        exact hlink
      · rw [hact]
        rfl
    case frame => rwa [List.append_nil] at hframe
    case freed =>
      rw [hholds, HoldTable.restated_slots, ← hslot, HoldTable.retired_slots_self (hslot ▸ hsl), hgen]
      have : gen.toNat < 256 := gen.isLt
      simp only [nextGeneration, Option.map_some, Option.map_none, show 255 ≤ gen.toNat ↔ gen.toNat = 255 by omega]
    case left => rw [hholds, HoldTable.restated_lists, ← hh]; exact PerZone.get_set_self _ _ _
    case lists => exact fun y hy => by rw [hholds]; exact PerZone.get_set_other _ _ hy
    case others =>
      intro j hj
      rw [← hslot] at hj
      constructor
      · rw [HoldTable.at_restated hholds, HoldTable.retired_at_other _ hj]
      · rw [hholds, HoldTable.restated_slots, HoldTable.retired_slots_other _ hj]
        cases s.holds.slots[j]? <;> rfl
    case deadlines =>
      rw [htime, hslot]
      rfl

/-! ### HOLD_EXPIRY -/

/-- What a lapse leaves in the table: the record of its slot lapsed, and no other list, slot or generation changed. -/
structure HoldTable.LapsesAt (t t' : HoldTable) (i : Nat) (h' : Hold) : Prop where
  lists : t'.lists = t.lists
  at_self : t'.at i = some h'
  at_other : ∀ j, j ≠ i → t'.at j = t.at j
  generations : t'.slots.map (·.generation) = t.slots.map (·.generation)
  lapsed : h'.state.isLapsed = true

/-- The lapse of a hold that may have lapsed already, which then keeps its cause (R20, log entry 21). -/
theorem State.lapse_eq {s : State} {i : Nat} {h : Hold} (cause : LapseCause) (hi : s.holds.at i = some h) :
    ∃ tab, s.holds.LapsesAt tab i (if h.state.isLapsed then h else { h with state := .lapsed cause }) ∧
      s.lapse i cause = { s with
        holds := tab, time := if h.state.isLapsed then s.time else s.time.without (.holdExpiry i)
        events := s.events ++ if h.state.isLapsed then [] else [.raise .holdLapsed] } := by
  cases hl : h.state.isLapsed with
  | true =>
    refine ⟨s.holds, ⟨rfl, hi, fun _ _ => rfl, rfl, hl⟩, ?_⟩
    simp [State.lapse_of_lapsed cause hi hl]
  | false =>
    refine ⟨_, ⟨HoldTable.put_lists _ _ _, HoldTable.put_at_of_at hi _, fun j hj => HoldTable.put_at_other _ _ hj,
      HoldTable.put_generations _ _ _, rfl⟩, ?_⟩
    simp [State.lapse_of_live cause hi hl]

/-- Settles O14: the expiry in flight goes, and the lapse of the hold is followed by the re-resolution of its zone. -/
theorem holdExpiryLapsesTheHold : Obligations.HoldExpiryLapsesTheHold := by
  intro s i due h hd hi key
  let time0 : Timebase := { s.time with expiries := dropKey key s.time.expiries }
  obtain ⟨tab, hlaps, hlapse⟩ := State.lapse_eq (s := s.setTime time0) .expired hi
  generalize hT : ((s.setTime time0).regovern h.zone fun s2 => s2.lapse i .expired) = t
  have hexec : exec (.holdExpiry i) s = .next t := by
    refine congrArg _ ((State.deliver_of_next _ hd rfl).trans ?_)
    rw [show (s.setTime { s.time with expiries := dropKey (.holdExpiry i) s.time.expiries }).holds.at i = some h
      from hi]
    exact hT
  obtain ⟨hholds, htime, hlink, hframe⟩ := State.regoverned_of_change (s := s) rfl hlapse hT
  have hat (j : Nat) : t.holds.at j = (tab.at j).map (asResolved t h.zone) := HoldTable.at_restated hholds j
  have hself (r : Hold) (hr : r.state.isLapsed = true) : asResolved t h.zone r = r := by
    rw [asResolved_eq_restate, restate_of_lapsed hr]
  have hkept : t.time.without key = s.time.without key := by
    have h0 : time0.without key = s.time.without key := by simp [time0, Timebase.without]
    rw [htime]
    split
    · exact h0
    · exact (Timebase.without_without _ _).trans h0
  refine ⟨t, hexec, ?lists, ?frame, ?record, ?others, ?generations, (timeKept_iff key s t).2 hkept, ?inFlight, ?inList⟩
  case lists => rw [hholds, HoldTable.restated_lists, hlaps.lists]; rfl
  case frame => rwa [hlink] at hframe
  case record => rw [hat, hlaps.at_self, Option.map_some, hself _ hlaps.lapsed]
  case others => exact fun j hj => by rw [hat, hlaps.at_other j hj]; rfl
  case generations => rw [hholds, HoldTable.restated_generations, hlaps.generations]; rfl
  case inFlight =>
    intro e he
    rw [htime] at he
    split at he <;> exact (mem_dropKey.1 he).2
  case inList =>
    intro hl e he
    rw [htime, hl] at he
    exact (mem_dropKey.1 he).2

end Sys2Proof.Machine
end

section
/-! HOLD OPEN carried out (R12): the record as adjusted, its place in its list, its deadline and the reply. -/

namespace Sys2Proof.Machine

open Sys2Proof.Safety

/-! ### The adjustments of R8 to R10 -/

theorem adjustTarget_clamped (z : Zone) (r : Regime) (x : Int) :
    (adjustTarget z r x).clamped = true ↔ (adjustTarget z r x).val ≠ quantise x := by
  simp [adjustTarget, clampFlag]

theorem adjustHalfBand_clamped (x : Int) : (adjustHalfBand x).clamped = true ↔ (adjustHalfBand x).val ≠ quantise x := by
  simp [adjustHalfBand, clampFlag]

theorem adjustPriority_clamped (n : Nat) : (adjustPriority n).clamped = true ↔ (adjustPriority n).val ≠ n := by
  simp [adjustPriority]

theorem adjustFloor_val (n : Nat) : (adjustFloor n).val = if n = 0 then none else some (clampNat 40 100 n) := by
  unfold adjustFloor
  split <;> rfl

theorem adjustFloor_clamped (n : Nat) : (adjustFloor n).clamped = true ↔ n ≠ 0 ∧ clampNat 40 100 n ≠ n := by
  unfold adjustFloor
  split <;> simp [*]

@[simp] theorem boundTarget_base (base : Int) (a : Adjusted Int) : boundTarget .base base a = a := rfl

theorem boundTarget_boost_val (base : Int) (a : Adjusted Int) : (boundTarget .boost base a).val = min a.val base := by
  unfold boundTarget
  dsimp only
  split
  · next hlt => exact (min_eq_right hlt.le).symm
  · next hge => exact (min_eq_left (not_lt.1 hge)).symm

theorem boundTarget_ease_val (base : Int) (a : Adjusted Int) : (boundTarget .ease base a).val = max a.val base := by
  unfold boundTarget
  dsimp only
  split
  · next hlt => exact (max_eq_right hlt.le).symm
  · next hge => exact (max_eq_left (not_lt.1 hge)).symm

/-- A target that the BASE target bounds is CLAMPED where the range or the bound has moved it (R8, R9). -/
theorem boundTarget_clamped (k : HoldKind) (base : Int) (a : Adjusted Int) :
    (boundTarget k base a).clamped = true ↔ a.clamped = true ∨ (boundTarget k base a).val ≠ a.val := by
  cases k with
  | base => simp
  | boost =>
    unfold boundTarget
    dsimp only
    split
    · simp; omega
    · simp
  | ease =>
    unfold boundTarget
    dsimp only
    split
    · simp; omega
    · simp

theorem expiryDue_eq (uptime minutes : Nat) :
    expiryDue uptime minutes = if minutes = 0 then none else some (uptime + 60 * minutes) := rfl

/-! ### HOLD OPEN's reply -/

/-- Has an adjustment of HOLD OPEN moved a value (R8 to R10)? -/
def State.openClamped (s : State) (z : Zone) (k : HoldKind) (target : Half) (halfBand priority flags floor : Byte) :
    Bool :=
  (boundTarget k (s.baseTarget z) (adjustTarget z s.map.regime target.toInt)).clamped
    || (adjustHalfBand halfBand.toNat).clamped || (adjustPriority priority.toNat).clamped
    || (if flags.getLsbD 1 then adjustFloor floor.toNat else ⟨none, false⟩).clamped

theorem State.openHold_reply (s : State) (i : Nat) (z : Zone) (k : HoldKind) (target : Half)
    (halfBand priority flags : Byte) (minutes : Half) (floor : Byte) :
    (s.openHold i z k target halfBand priority flags minutes floor).2
      = ⟨.ok, s.openClamped z k target halfBand priority flags floor,
        [byteOf i, byteOf (s.openedHold i z k target halfBand priority flags minutes floor).handle.gen,
          byteOf ((((s.openHold i z k target halfBand priority flags minutes floor).1.holds.at i).map
            (·.state.code)).getD 0)]⟩ := rfl

theorem State.openClamped_iff (s : State) (z : Zone) (k : HoldKind) (target : Half)
    (halfBand priority flags floor : Byte) :
    s.openClamped z k target halfBand priority flags floor = true ↔
      (adjustTarget z s.map.regime target.toInt).val ≠ quantise target.toInt ∨
      (boundTarget k (s.baseTarget z) (adjustTarget z s.map.regime target.toInt)).val
        ≠ (adjustTarget z s.map.regime target.toInt).val ∨
      (adjustHalfBand halfBand.toNat).val ≠ quantise halfBand.toNat ∨
      (adjustPriority priority.toNat).val ≠ priority.toNat ∨
      (flags.getLsbD 1 = true ∧ floor.toNat ≠ 0 ∧ clampNat 40 100 floor.toNat ≠ floor.toNat) := by
  have hfloor : (if flags.getLsbD 1 then adjustFloor floor.toNat else ⟨none, false⟩).clamped = true ↔
      flags.getLsbD 1 = true ∧ (adjustFloor floor.toNat).clamped = true := by
    split
    · next hf => simp only [hf, true_and]
    · next hf => simp only [hf, Bool.false_eq_true, false_and]
  simp only [State.openClamped, Bool.or_eq_true, boundTarget_clamped, adjustTarget_clamped, adjustHalfBand_clamped,
    adjustPriority_clamped, hfloor, adjustFloor_clamped, or_assoc]

/-! ### The deadline of a hold -/

theorem Timebase.mem_withExpiry (x : Timebase) (i d : Nat) :
    ⟨.holdExpiry i, ⟨d, x.ms⟩⟩ ∈ (x.withExpiry i (some d)).deadlines := mem_placeDeadline.2 (.inl rfl)

/-- The record of a resolved zone that has not lapsed. -/
theorem asResolved_of_live {t : State} {z : Zone} {h : Hold} (hz : h.zone = z) (hl : h.state.isLapsed = false) :
    asResolved t z h = { h with
      state := if (t.effectiveHold z).map (·.handle) = some h.handle then .effective else .shadowed } :=
  if_pos ⟨hz, hl⟩

/-- A BOOST target is held at or below the BASE target, an EASE target at or above it (R9). -/
theorem boundTarget_of_open {k : HoldKind} (hb : k ≠ .base) (base : Int) (a : Adjusted Int) :
    (boundTarget k base a).val = if k = .boost then min a.val base else max a.val base := by
  cases k with
  | base => exact absurd rfl hb
  | boost => exact boundTarget_boost_val base a
  | ease => exact boundTarget_ease_val base a

section OpenedHold

variable (s : State) (i : Nat) (z : Zone) (k : HoldKind) (target : Half) (halfBand priority flags : Byte)
  (minutes : Half) (floor : Byte)

theorem State.openedHold_expiry :
    (s.openedHold i z k target halfBand priority flags minutes floor).expiry
      = if flags.getLsbD 0 = true ∧ minutes.toNat ≠ 0 then some (s.time.uptime + 60 * minutes.toNat) else none := by
  by_cases hf : flags.getLsbD 0 = true
  · simp only [State.openedHold, hf, if_true, true_and, expiryDue_eq, ite_not, ne_eq]
  · simp only [State.openedHold, hf, Bool.false_eq_true, if_false, false_and]

theorem State.openedHold_speedFloor :
    (s.openedHold i z k target halfBand priority flags minutes floor).speedFloor
      = if flags.getLsbD 1 = true ∧ floor.toNat ≠ 0 then some (clampNat 40 100 floor.toNat) else none := by
  by_cases hf : flags.getLsbD 1 = true
  · simp only [State.openedHold, hf, if_true, true_and, adjustFloor_val, ite_not, ne_eq]
  · simp only [State.openedHold, hf, Bool.false_eq_true, if_false, false_and]

end OpenedHold

theorem HoldTable.opened_list (t : HoldTable) (i : Nat) (r : Hold) :
    (t.opened i r).lists.get r.zone = enterList t r.priority r.handle (t.lists.get r.zone) := PerZone.get_set_self _ _ _

theorem HoldTable.opened_lists_other (t : HoldTable) (i : Nat) (r : Hold) {y : Zone} (hy : y ≠ r.zone) :
    (t.opened i r).lists.get y = t.lists.get y := PerZone.get_set_other _ _ hy

/-- Settles O11: the request passes its checks, and its record enters the table before the zone is resolved. -/
theorem holdOpenCreatesTheRecord : Obligations.HoldOpenCreatesTheRecord := by
  intro zone kind target halfBand priority flags minutes floor s z k i sl c ht hz hk hb hf hc hsl hfree hlt lim grid
    ranged bounded band speed due hd
  have hslot : s.holds.freeSlot = some i := by
    refine HoldTable.freeSlot_eq_some.2 ⟨⟨sl, hsl, hfree⟩, fun j hj sl' hsl' hn => ?_⟩
    have := hlt j hj
    simp [HoldTable.at, hsl', hn] at this
  have hbounded : (boundTarget k (s.baseTarget z) (adjustTarget z s.map.regime target.toInt)).val = bounded :=
    boundTarget_of_open hb _ _
  obtain ⟨r, hr⟩ : ∃ r, s.openedHold i z k target halfBand priority flags minutes floor = r := ⟨_, rfl⟩
  have hrec : r = { handle := hd, zone := z, kind := k, target := bounded, halfBand := clampInt 5 20 band
                    priority := clampNat 1 7 priority.toNat, expiry := due, speedFloor := speed
                    lapseOnReach := flags.getLsbD 2, origin := .link, state := .shadowed, figures := .zero } := by
    have hgen : ((s.holds.slots[i]?).map (·.generation)).getD 1 = sl.generation := by rw [hsl]; rfl
    rw [← hr, State.openedHold, Hold.mk.injEq, hgen]
    exact ⟨rfl, rfl, rfl, hbounded, rfl, rfl, s.openedHold_expiry i z k target halfBand priority flags minutes floor,
      s.openedHold_speedFloor i z k target halfBand priority flags minutes floor, rfl, rfl, rfl, rfl⟩
  have hbarred : ¬ (k = .ease ∧ (flags.getLsbD 1 = true ∨ flags.getLsbD 2 = true)) := by
    rintro ⟨he, h | h⟩
    · exact Bool.false_ne_true ((hf he).1.symm.trans h)
    · exact Bool.false_ne_true ((hf he).2.symm.trans h)
  obtain ⟨req, hreq⟩ : ∃ req, requestBytes c = some req := ⟨_, rfl⟩
  have hexec : exec c s = .next (s.serve req (holdOpen zone kind target halfBand priority flags minutes floor)) := by
    cases hreq
    rfl
  obtain ⟨link, hlink0⟩ : ∃ l, s.link.taking req = l := ⟨_, rfl⟩
  have hact : holdOpen zone kind target halfBand priority flags minutes floor (s.setLink link)
      = (s.setLink link).openHold i z k target halfBand priority flags minutes floor :=
    holdOpen_passes _ _ _ _ _ hz hk hb hbarred (fun h => h.2 (hc h.1)) hslot
  obtain ⟨t, hT⟩ : ∃ t, ((s.setLink link).openHold i z k target halfBand priority flags minutes floor).1 = t := ⟨_, rfl⟩
  obtain ⟨hholds, htime, hlink, hframe⟩ : s.Regoverned t z (s.holds.opened i r) (s.time.withExpiry i due) link [] := by
    refine State.regoverned_of_change rfl ?_ ((State.openHold_state ..).symm.trans hT)
    rw [List.append_nil, show due = r.expiry by rw [hrec], ← hr]
    rfl
  have hat (j : Nat) : t.holds.at j = ((s.holds.opened i r).at j).map (asResolved t z) := HoldTable.at_restated hholds j
  have hself : t.holds.at i = some (asResolved t z r) := by rw [hat]; exact congrArg _ (HoldTable.put_at_self hsl _)
  have hzone : r.zone = z := by rw [hrec]
  refine ⟨t, asResolved t z r, s.openClamped z k target halfBand priority flags floor, ?reply, ?frame, hself, ?record,
    ?clamped, ?list, ?lists, ?others, ?generations, ?deadline, ?noDeadline, ?kept⟩
  case reply =>
    have hlinks : (holdOpen zone kind target halfBand priority flags minutes floor
        (s.setLink (s.link.taking req))).1.link = s.link.taking req := by rw [hlink0, hact, hT, hlink]
    rw [hexec, State.serve_answered hreq ht hlinks, hlink0, hact, State.openHold_reply, hT, hself,
      show (s.setLink link).openedHold i z k target halfBand priority flags minutes floor = r from hr,
      show r.handle = hd by rw [hrec]]
    rfl
  case frame => rwa [List.append_nil] at hframe
  case record =>
    rw [hrec]
    exact asResolved_of_live rfl rfl
  case clamped =>
    rw [State.openClamped_iff, hbounded]
    refine or_congr Iff.rfl (or_congr Iff.rfl (or_congr Iff.rfl (or_congr Iff.rfl ⟨?_, ?_⟩)))
    · rintro ⟨hf, hn, hm⟩
      exact ⟨_, if_pos ⟨hf, hn⟩, hm⟩
    · rintro ⟨v, hv, hm⟩
      obtain ⟨⟨hf, hn⟩, he⟩ := Option.ite_none_right_eq_some.1 hv
      cases he
      exact ⟨hf, hn, hm⟩
  case list =>
    rw [hholds, HoldTable.restated_lists, ← hzone, HoldTable.opened_list, hrec]
    exact enterList_entersAt _ _ _ _
  case lists => exact fun y hy => by rw [hholds]; exact HoldTable.opened_lists_other _ i r (hzone.symm ▸ hy)
  case others => exact fun j hj => by rw [hat]; exact congrArg _ (HoldTable.put_at_other _ _ hj)
  case generations => rw [hholds, HoldTable.restated_generations]; exact HoldTable.put_generations _ _ _
  case deadline => intro d hd; rw [htime, hd]; exact Timebase.mem_withExpiry _ _ _
  case noDeadline => intro hd; rw [htime, hd]; rfl
  case kept => rw [timeKept_iff, htime, Timebase.withExpiry_without]

end Sys2Proof.Machine
end

section
/-! HOLD AMEND carried out (R14 to R16): the fields that the mask names, the deadlines and the reply. -/

namespace Sys2Proof.Machine

open Sys2Proof.Safety

/-! ### The amended record -/

/-- A value that an amendment does not name is not adjusted. -/
theorem ite_clamped {α : Type} (m : Bool) (a : Adjusted α) (v : α) :
    (if m = true then a else ⟨v, false⟩ : Adjusted α).clamped = true ↔ m = true ∧ a.clamped = true := by
  cases m <;> simp

section Amended

variable (s : State) (h : Hold) (mask : Byte) (target : Half) (halfBand priority : Byte) (minutes : Half)
  (floor reach : Byte)

/-- The target that an amendment gives where its mask names it (R14). -/
def State.amendTarget : Adjusted Int :=
  boundTarget h.kind (s.baseTarget h.zone) (adjustTarget h.zone s.map.regime target.toInt)

theorem State.amendedHold_eq :
    s.amendedHold h mask target halfBand priority minutes floor reach =
      let newTarget := if mask.getLsbD 0 then (s.amendTarget h target).val else h.target
      let newBand := if mask.getLsbD 1 then (adjustHalfBand halfBand.toNat).val else h.halfBand
      { h with
        target := newTarget
        halfBand := newBand
        priority := if mask.getLsbD 2 then (adjustPriority priority.toNat).val else h.priority
        expiry := if mask.getLsbD 3 then expiryDue s.time.uptime minutes.toNat else h.expiry
        speedFloor := if mask.getLsbD 4 then (adjustFloor floor.toNat).val else h.speedFloor
        lapseOnReach := if mask.getLsbD 5 then decide (reach ≠ 0) else h.lapseOnReach
        figures := if newTarget = h.target ∧ newBand = h.halfBand then h.figures else .zero } := by
  simp only [State.amendedHold, State.amendBand, Hold.amendBoost, State.amendTarget, apply_ite Adjusted.val]
  rfl

/-- Has an adjustment of HOLD AMEND moved a value that the mask names (R8 to R10)? -/
def State.amendClamped : Bool :=
  (s.amendBand h mask target halfBand).2
    || ((s.amendBand h mask target halfBand).1.amendBoost mask floor reach).2
    || (s.amendPriority ((s.amendBand h mask target halfBand).1.amendBoost mask floor reach).1 mask priority).2.2

theorem State.amendHold_reply :
    (s.amendHold h mask target halfBand priority minutes floor reach).2
      = ⟨.ok, s.amendClamped h mask target halfBand priority floor reach,
        [byteOf ((((s.amendHold h mask target halfBand priority minutes floor reach).1.holds.at h.handle.slot).map
          (·.state.code)).getD 0)]⟩ := rfl

theorem State.amendPriority_clamped (b : Hold) :
    (s.amendPriority b mask priority).2.2 = true ↔
      mask.getLsbD 2 = true ∧ (adjustPriority priority.toNat).clamped = true := by
  unfold State.amendPriority
  split
  · next hm =>
    dsimp only
    split <;> simp only [hm, true_and]
  · next hm => simp only [hm, Bool.false_eq_true, false_and]

theorem State.amendClamped_iff :
    s.amendClamped h mask target halfBand priority floor reach = true ↔
      (mask.getLsbD 0 = true ∧ ((adjustTarget h.zone s.map.regime target.toInt).val ≠ quantise target.toInt ∨
        (s.amendTarget h target).val ≠ (adjustTarget h.zone s.map.regime target.toInt).val)) ∨
      (mask.getLsbD 1 = true ∧ (adjustHalfBand halfBand.toNat).val ≠ quantise halfBand.toNat) ∨
      (mask.getLsbD 2 = true ∧ (adjustPriority priority.toNat).val ≠ priority.toNat) ∨
      (mask.getLsbD 4 = true ∧ floor.toNat ≠ 0 ∧ clampNat 40 100 floor.toNat ≠ floor.toNat) := by
  simp only [State.amendClamped, State.amendBand, Hold.amendBoost, State.amendTarget, Bool.or_eq_true, ite_clamped,
    State.amendPriority_clamped, boundTarget_clamped, adjustTarget_clamped, adjustHalfBand_clamped,
    adjustPriority_clamped, adjustFloor_clamped, or_assoc]
  exact or_congr_right (or_congr_right or_comm)

/-- What CLAMPED says does not read the link port. -/
theorem State.amendClamped_setLink (link : LinkPort) :
    (s.setLink link).amendClamped h mask target halfBand priority floor reach
      = s.amendClamped h mask target halfBand priority floor reach :=
  Bool.eq_iff_iff.2 (((s.setLink link).amendClamped_iff h mask target halfBand priority floor reach).trans
    (s.amendClamped_iff h mask target halfBand priority floor reach).symm)

end Amended

/-! ### The lapse that an amendment brings about -/

/-- The lapse of an amendment changes the state of the record and nothing else. -/
theorem Hold.lapsedOnReach_eq (r : Hold) : r.lapsedOnReach = { r with state := r.lapsedOnReach.state } := by
  unfold Hold.lapsedOnReach
  split <;> rfl

/-- An amended record, with the lapse or the state of R5. -/
theorem asResolved_lapsedOnReach {t : State} {r : Hold} (hl : r.state.isLapsed = false) :
    asResolved t r.zone r.lapsedOnReach = { r with
      state := if r.lapseOnReach = true ∧ r.figures.reached = true then .lapsed .reached
        else if (t.effectiveHold r.zone).map (·.handle) = some r.handle then .effective else .shadowed } := by
  by_cases hc : r.lapseOnReach = true ∧ r.figures.reached = true
  · rw [Hold.lapsedOnReach, if_pos hc, if_pos hc, asResolved_eq_restate, restate_of_lapsed rfl]
  · rw [Hold.lapsedOnReach, if_neg hc, if_neg hc, asResolved_of_live rfl hl]

section Deadlines

variable (x : Timebase) (i : Nat) (r : Hold) (expiry : Bool)

theorem Timebase.amended_of_lapses (hc : r.lapseOnReach = true ∧ r.figures.reached = true) :
    x.amended i r expiry = x.without (.holdExpiry i) := by
  unfold Timebase.amended
  rw [if_pos hc]
  cases expiry with
  | false => rfl
  | true => exact ((x.without _).withExpiry_without i r.expiry).trans (x.without_without _)

theorem Timebase.amended_of_stays (hc : ¬ (r.lapseOnReach = true ∧ r.figures.reached = true)) :
    x.amended i r expiry = if expiry then (x.without (.holdExpiry i)).withExpiry i r.expiry else x := if_neg hc

theorem Timebase.amended_without : (x.amended i r expiry).without (.holdExpiry i) = x.without (.holdExpiry i) := by
  by_cases hc : r.lapseOnReach = true ∧ r.figures.reached = true
  · rw [x.amended_of_lapses i r expiry hc, Timebase.without_without]
  · rw [x.amended_of_stays i r expiry hc]
    cases expiry with
    | false => rfl
    | true => exact ((x.without _).withExpiry_without i r.expiry).trans (x.without_without _)

end Deadlines

/-- An amendment on a state with another link port leaves that port and re-governs the hold's zone. -/
theorem State.amendHold_regoverned {s : State} {h : Hold} (hi : s.holds.at h.handle.slot = some h)
    (hl : h.state.isLapsed = false) (link : LinkPort) (mask : Byte) (target : Half) (halfBand priority : Byte)
    (minutes : Half) (floor reach : Byte) :
    let r := s.amendedHold h mask target halfBand priority minutes floor reach
    s.Regoverned ((s.setLink link).amendHold h mask target halfBand priority minutes floor reach).1 h.zone
      (s.holds.amended h r.lapsedOnReach) (s.time.amended h.handle.slot r (mask.getLsbD 3)) link
      (if r.lapseOnReach ∧ r.figures.reached then [.raise .holdLapsed] else []) :=
  State.regoverned_of_change (time0 := s.time) (link := link)
    (change := fun s0 => s0.amendTo h (s.amendedHold h mask target halfBand priority minutes floor reach)
      (mask.getLsbD 3)) rfl rfl (State.amendHold_state (s := s.setLink link) hi hl ..).symm

/-- Settles O12: the request passes its checks, and the amended record stands in its slot as the zone is resolved. -/
theorem holdAmendChangesTheNamedFields : Obligations.HoldAmendChangesTheNamedFields := by
  intro slot gen mask target halfBand priority minutes floor reach s h c boostField ht hs hn hlive hbase hease hchill
    lim grid ranged bounded band newTarget newBand newPriority due key list
  obtain ⟨hat0, hh⟩ := ((baseSafe_iff s).1 hs).1.named_iff.1 hn
  have hslot : slot.toNat = h.handle.slot := by rw [hh]
  have hi : s.holds.at h.handle.slot = some h := hslot ▸ hat0
  have hkey : key = .holdExpiry h.handle.slot := congrArg _ hslot
  have hbounded : (s.amendTarget h target).val = bounded := by
    simp only [State.amendTarget, bounded]
    cases h.kind with
    | base => rfl
    | boost => exact boundTarget_boost_val _ _
    | ease => exact boundTarget_ease_val _ _
  have hzero : floor.toNat = 0 ↔ floor = 0 := by rw [BitVec.toNat_eq]; rfl
  obtain ⟨r, hr⟩ : ∃ r, s.amendedHold h mask target halfBand priority minutes floor reach = r := ⟨_, rfl⟩
  have hrec : r = { h with
      target := newTarget
      halfBand := newBand
      priority := newPriority
      expiry := if mask.getLsbD 3 then due else h.expiry
      speedFloor := if mask.getLsbD 4 then (if floor = 0 then none else some (clampNat 40 100 floor.toNat))
        else h.speedFloor
      lapseOnReach := if mask.getLsbD 5 then decide (reach ≠ 0) else h.lapseOnReach
      figures := if newTarget = h.target ∧ newBand = h.halfBand then h.figures else .zero } := by
    rw [← hr, State.amendedHold_eq, hbounded]
    simp only [adjustFloor_val, hzero]
    rfl
  obtain ⟨req, hreq⟩ : ∃ req, requestBytes c = some req := ⟨_, rfl⟩
  have hexec :
      exec c s = .next (s.serve req (holdAmend slot gen mask target halfBand priority minutes floor reach)) := by
    cases hreq
    rfl
  obtain ⟨link, hlink0⟩ : ∃ l, s.link.taking req = l := ⟨_, rfl⟩
  have hact : holdAmend slot gen mask target halfBand priority minutes floor reach (s.setLink link)
      = (s.setLink link).amendHold h mask target halfBand priority minutes floor reach := by
    refine holdAmend_passes _ _ _ _ _ _ hn hlive ?_ (fun hk => hease hk.1 hk.2) fun hk => hk.2 (hchill hk.1)
    rintro ⟨hk, h2 | h3 | hboost⟩
    · exact Bool.false_ne_true ((hbase hk).1.symm.trans h2)
    · exact Bool.false_ne_true ((hbase hk).2.1.symm.trans h3)
    · exact (hbase hk).2.2 hboost
  obtain ⟨t, hT⟩ : ∃ t, ((s.setLink link).amendHold h mask target halfBand priority minutes floor reach).1 = t :=
    ⟨_, rfl⟩
  obtain ⟨hholds, htime, hlink, hframe⟩ : s.Regoverned t h.zone (s.holds.amended h r.lapsedOnReach)
      (s.time.amended h.handle.slot r (mask.getLsbD 3)) link
      (if r.lapseOnReach ∧ r.figures.reached then [.raise .holdLapsed] else []) :=
    hr ▸ hT ▸ State.amendHold_regoverned hi hlive link mask target halfBand priority minutes floor reach
  have hat (j : Nat) : t.holds.at j = ((s.holds.amended h r.lapsedOnReach).at j).map (asResolved t h.zone) :=
    HoldTable.at_restated hholds j
  have hself : t.holds.at h.handle.slot = some (asResolved t h.zone r.lapsedOnReach) := by
    rw [hat]
    exact congrArg _ (HoldTable.put_at_of_at hi _)
  have hstate : r.state.isLapsed = false := by rw [hrec]; exact hlive
  have hzone : r.zone = h.zone := by rw [hrec]
  have hh' := asResolved_lapsedOnReach (t := t) hstate
  rw [hzone] at hh'
  obtain ⟨h', hh'0⟩ : ∃ h', asResolved t h.zone r.lapsedOnReach = h' := ⟨_, rfl⟩
  rw [hh'0] at hh' hself
  have hreach : r.lapseOnReach = h'.lapseOnReach := by rw [hh']
  have hfigures : r.figures = h'.figures := by rw [hh']
  have hpriority : r.lapsedOnReach.priority = newPriority := by rw [Hold.lapsedOnReach_eq, hrec]
  refine ⟨t, h', s.amendClamped h mask target halfBand priority floor reach, ?_⟩
  intro lapses
  have hlapses : lapses ↔ r.lapseOnReach = true ∧ r.figures.reached = true := by rw [hreach, hfigures]
  refine ⟨?reply, ?frame, ?clamped, hslot ▸ hself, ?record, ?sameList, ?movedList, ?others, ?generations, ?lists, ?due,
    ?gone, ?stands, ?kept⟩
  case reply =>
    have hlinks : (holdAmend slot gen mask target halfBand priority minutes floor reach
        (s.setLink (s.link.taking req))).1.link = s.link.taking req := by rw [hlink0, hact, hT, hlink]
    rw [hexec, State.serve_answered hreq ht hlinks, hlink0, hact, State.amendHold_reply,
      State.amendClamped_setLink, hT, hself]
    rfl
  case frame => rwa [hreach, hfigures] at hframe
  case clamped =>
    rw [State.amendClamped_iff, hbounded, show floor.toNat ≠ 0 ↔ floor ≠ 0 from hzero.not]
    exact Iff.rfl
  case record =>
    refine hh'.trans ?_
    simp only [hlapses]
    rw [hrec]
    rfl
  case sameList => exact fun hp => by rw [hholds]; exact HoldTable.amended_list_of_same (hpriority.trans hp)
  case movedList =>
    intro hp
    rw [hholds, HoldTable.restated_lists, HoldTable.amended_list_of_moved (hpriority.trans_ne hp), hpriority]
    exact enterList_entersAt _ _ _ _
  case others =>
    intro j hj
    rw [hat]
    exact congrArg _ (HoldTable.put_at_other _ _ (hslot ▸ hj))
  case generations => rw [hholds, HoldTable.restated_generations]; exact HoldTable.put_generations _ _ _
  case lists => exact fun y hy => by rw [hholds]; exact HoldTable.amended_lists_other _ _ _ hy
  case due =>
    intro h3 hstays d hd
    have hexp : r.expiry = some d := by rw [hrec, ← hd]; exact if_pos h3
    rw [htime, Timebase.amended_of_stays _ _ _ _ (hlapses.not.1 hstays), if_pos h3, hexp, hkey]
    exact Timebase.mem_withExpiry _ _ _
  case gone =>
    intro hgone
    have hwithout : t.time = s.time.without key := by
      rw [htime, hkey]
      by_cases hl : r.lapseOnReach = true ∧ r.figures.reached = true
      · exact Timebase.amended_of_lapses _ _ _ _ hl
      · obtain ⟨h3, hd⟩ := hgone.resolve_right (hlapses.not.2 hl)
        have hexp : r.expiry = none := by rw [hrec, ← hd]; exact if_pos h3
        rw [Timebase.amended_of_stays _ _ _ _ hl, if_pos h3, hexp]
        rfl
    rw [hwithout]
    exact Timebase.not_mem_without _ _
  case stands =>
    intro h3 hstays
    rw [htime, Timebase.amended_of_stays _ _ _ _ (hlapses.not.1 hstays), if_neg (by rw [h3]; exact Bool.false_ne_true)]
  case kept =>
    rw [timeKept_iff, htime, hkey]
    exact Timebase.amended_without _ _ _ _

end Sys2Proof.Machine
end

section
/-! Steps 1 to 7 of a one-second evaluation (R33): what the counting of the EFFECTIVE hold reads of them. -/

namespace Sys2Proof.Machine

open Sys2Proof.Safety

/-! ### The source of F, in the terms of the statements (R35, R125) -/

theorem State.reading_seen (s : State) (rep : Report) (c : Channel) :
    seenWith rep s c = ((s.reading (some rep) c).state, (s.reading (some rep) c).f) := by
  unfold seenWith
  split
  · next hc => rw [hc, State.reading_reported]
  · next hc => rw [State.reading_other (Ne.symm hc)]; rfl

theorem State.sourceOf_eq (s : State) (rep : Report) (e : MapEntry) (f : Int) :
    s.sourceOf (some rep) e f = sourceDue (seenWith rep s) e f := by
  unfold State.sourceOf sourceDue
  simp only [State.reading_seen]
  cases hst : (s.reading (some rep) e.sensor).state
  case good | suspect | seeding => simp
  all_goals
    cases e.fallback with
    | none => simp
    | some p =>
      by_cases hu : (s.reading (some rep) p.1).state = .good ∨ (s.reading (some rep) p.1).state = .suspect
      · simp only [hu, Report.usable, decide_true, if_true, reduceCtorEq, decide_false, or_self, Bool.false_eq_true,
          if_false]
        rfl
      · simp [Report.usable, hu]

/-! ### Steps 1 to 6 -/

/-- The state that steps 1 to 6 of a one-second evaluation leave. -/
def State.secondJudged (s : State) (z : Zone) (rep : Report) : State :=
  let s1 := (s.readBlindLen z).selectSource (some rep) z false
  (s1.lowerGrace z).settleZone (some rep) z (judgedAfresh (s.zone z).source (s1.zone z).source) true

section SecondJudged

variable (s : State) (z : Zone) (rep : Report)

/-- The lowering of the grace count reaches no other field of a zone's record and no other block (R48). -/
theorem State.lowerGrace_eq : ∃ grace, s.lowerGrace z = s.setZone z { s.zone z with grace := grace } := by
  unfold State.lowerGrace
  split
  · exact ⟨(s.zone z).grace, by cases z <;> rfl⟩
  · exact ⟨_, rfl⟩

theorem State.settleZone_zone_self (r : Option Report) (afresh second : Bool) :
    ∃ st age urgency sat, (st = .transit ↔ (s.zone z).state = .transit) ∧
      (s.settleZone r z afresh second).zone z = { s.zone z with
        state := st, waitAge := age, excess := excessOf (s.zone z), urgency := urgency, sat := sat } := by
  refine ⟨_, _, _, _, ?_, State.setZone_zone_self _ _ _⟩
  unfold stateOf
  split
  · next h => simp [h]
  · next h => split <;> (try split) <;> simp [h]

@[simp] theorem State.secondJudged_holds : (s.secondJudged z rep).holds = s.holds := by
  obtain ⟨g, hg⟩ := ((s.readBlindLen z).selectSource (some rep) z false).lowerGrace_eq z
  simp [State.secondJudged, hg]

@[simp] theorem State.secondJudged_map : (s.secondJudged z rep).map = s.map := by
  obtain ⟨g, hg⟩ := ((s.readBlindLen z).selectSource (some rep) z false).lowerGrace_eq z
  simp [State.secondJudged, hg]

@[simp] theorem State.secondJudged_meas : (s.secondJudged z rep).meas = s.meas := by
  obtain ⟨g, hg⟩ := ((s.readBlindLen z).selectSource (some rep) z false).lowerGrace_eq z
  simp [State.secondJudged, hg]

@[simp] theorem State.secondJudged_events : (s.secondJudged z rep).events = s.events := by
  obtain ⟨g, hg⟩ := ((s.readBlindLen z).selectSource (some rep) z false).lowerGrace_eq z
  simp [State.secondJudged, hg]

/-- Steps 1 to 6 leave the source and F of R35's table, and CHILL in TRANSIT exactly where it was. -/
theorem State.secondJudged_zone :
    let x := sourceDue (seenWith rep s) (s.entry z) (s.zone z).f
    ((s.secondJudged z rep).zone z).source = x.1 ∧ ((s.secondJudged z rep).zone z).f = x.2 ∧
      (((s.secondJudged z rep).zone z).state = .transit ↔ (s.zone z).state = .transit) := by
  intro x
  let s1 := (s.readBlindLen z).selectSource (some rep) z false
  have hx : (s.readBlindLen z).sourceOf (some rep) ((s.readBlindLen z).entry z) ((s.readBlindLen z).zone z).f = x :=
    State.sourceOf_eq ..
  have hsel : (s1.zone z).source = x.1 ∧ (s1.zone z).f = x.2 ∧ (s1.zone z).state = (s.zone z).state := by
    rw [State.selectSource_zone, ← hx]
    exact ⟨rfl, rfl, rfl⟩
  obtain ⟨hsource, hf, hstate⟩ := hsel
  obtain ⟨g, hg⟩ := s1.lowerGrace_eq z
  obtain ⟨st, age, u, sat, hst, hzone⟩ := (s1.lowerGrace z).settleZone_zone_self z (some rep)
    (judgedAfresh (s.zone z).source (s1.zone z).source) true
  rw [hg, State.setZone_zone_self, hstate] at hst
  rw [hg, State.setZone_zone_self, ← hg] at hzone
  rw [show (s.secondJudged z rep).zone z = _ from hzone]
  exact ⟨hsource, hf, hst⟩

/-- The suppression that a one-second evaluation judges after the choice of the source is the one that stood (R49). -/
theorem State.suppressed_of_selectSource :
    ((s.readBlindLen z).selectSource (some rep) z false).suppressed z = suppressedIn s z := by
  have hgrace : (((s.readBlindLen z).selectSource (some rep) z false).zone z).grace = (s.zone z).grace := by
    rw [State.selectSource_zone]
    rfl
  unfold State.suppressed State.anyDoorOpen State.entry State.door
  rw [hgrace, State.selectSource_map, State.selectSource_doors, State.selectSource_defrost]
  rfl

/-- Whether F is tested after steps 1 to 6 (R28, R29, R35, R53). -/
theorem State.fTested_secondJudged :
    (s.secondJudged z rep).fTested (some rep) z = true ↔
      (sourceDue (seenWith rep s) (s.entry z) (s.zone z).f).1 ≠ .blind ∧
        (seenWith rep s (s.entry z).sensor).1 ≠ .seeding ∧ (s.zone z).state ≠ .transit := by
  obtain ⟨hsource, -, hstate⟩ := s.secondJudged_zone z rep
  have hseeding : (s.secondJudged z rep).sensorSeeding (some rep) z
      = decide ((seenWith rep s (s.entry z).sensor).1 = .seeding) := by
    simp [State.sensorSeeding, State.reading_seen, State.reading, State.reportOf, State.channel, State.entry]
  rw [State.fTested, hsource, hseeding]
  simp [hstate, and_assoc]

end SecondJudged

end Sys2Proof.Machine
end

section
/-! Steps 7 to 9 of a one-second evaluation: the excursions' notices, the counting of the EFFECTIVE hold and the hand-on
(R27 to R29, R21, R46). -/

namespace Sys2Proof.Machine

open Sys2Proof.Safety

/-! ### Step 7 -/

/-- The state `t` has the holds and the map of `s`, and has raised the notices. -/
structure State.TimesZones (s t : State) (notices : List Handoff) : Prop where
  holds : t.holds = s.holds
  map : t.map = s.map
  events : t.events = s.events ++ notices

theorem State.timeWarm_timesZones (s : State) (z : Zone) (suppressed : Bool) :
    ∃ l, s.TimesZones (s.timeWarm z suppressed) l ∧ ∀ x ∈ l, x = .raise .warmExcursion := by
  unfold State.timeWarm
  dsimp only
  split
  · exact ⟨[.raise .warmExcursion], ⟨rfl, rfl, rfl⟩, by simp⟩
  · exact ⟨[], ⟨rfl, rfl, (List.append_nil _).symm⟩, by simp⟩

theorem State.timeCold_timesZones (s : State) (z : Zone) (suppressed : Bool) :
    ∃ l, s.TimesZones (s.timeCold z suppressed) l ∧ ∀ x ∈ l, x = .raise .coldExcursion := by
  unfold State.timeCold
  split
  · exact ⟨[], ⟨rfl, rfl, (List.append_nil _).symm⟩, by simp⟩
  · dsimp only
    split
    · exact ⟨[.raise .coldExcursion], ⟨rfl, rfl, rfl⟩, by simp⟩
    · exact ⟨[], ⟨rfl, rfl, (List.append_nil _).symm⟩, by simp⟩

/-- Step 7, where F is tested. -/
def State.timed (s : State) (rep : Option Report) (z : Zone) (suppressed : Bool) : State :=
  if s.fTested rep z then (s.timeWarm z suppressed).timeCold z suppressed else s

theorem State.timed_timesZones (s : State) (rep : Option Report) (z : Zone) (suppressed : Bool) :
    ∃ l, s.TimesZones (s.timed rep z suppressed) l ∧
      ∀ x ∈ l, x = .raise .warmExcursion ∨ x = .raise .coldExcursion := by
  unfold State.timed
  split
  · obtain ⟨lw, ⟨hwh, hwm, hwe⟩, hlw⟩ := s.timeWarm_timesZones z suppressed
    obtain ⟨lc, ⟨hch, hcm, hce⟩, hlc⟩ := (s.timeWarm z suppressed).timeCold_timesZones z suppressed
    refine ⟨lw ++ lc, ⟨hch.trans hwh, hcm.trans hwm, by rw [hce, hwe, List.append_assoc]⟩, fun x hx => ?_⟩
    exact (List.mem_append.1 hx).imp (hlw x) (hlc x)
  · exact ⟨[], ⟨rfl, rfl, (List.append_nil _).symm⟩, by simp⟩

/-! ### Step 8: the figures (R27 to R29) -/

/-- A minute count and its seconds, one second later: held at 65535 (R27). -/
def carrySecond (m sec : Nat) : Nat × Nat :=
  if 65535 ≤ m then (m, sec) else if 59 ≤ sec then (m + 1, 0) else (m, sec + 1)

/-- SAT is set by the second that brings a count to 65535, and by each one after (R27, log entry 14). -/
theorem addSecond_eq (m sec : Nat) (sat : Bool) :
    addSecond m sec sat
      = ((carrySecond m sec).1, (carrySecond m sec).2, sat || decide (65535 ≤ (carrySecond m sec).1)) := by
  unfold addSecond carrySecond
  by_cases hm : 65535 ≤ m
  · simp [hm]
  · by_cases hs : 59 ≤ sec
    · have hsat : 65535 ≤ m + 1 ↔ m + 1 = 65535 := by omega
      simp [hm, hs, hsat, show ¬ sec + 1 < 60 by omega]
    · simp [hm, hs, show sec + 1 < 60 by omega]

/-- A second counted on a hold (R27 to R29). -/
theorem Hold.complied_eq (h : Hold) (f : Int) (tested suppressed : Bool) {out inside : Prop} [Decidable out]
    [Decidable inside] (hout : (tested && !suppressed && outOfBand h.target h.halfBand f) = decide out)
    (hin : (tested && inBand h.target h.halfBand f) = decide inside) :
    let c := h.figures
    let eff := carrySecond c.effMinutes c.effSeconds
    let away := if out then carrySecond c.outMinutes c.outSeconds else (c.outMinutes, c.outSeconds)
    h.complied f tested suppressed = { h with
      figures := ⟨c.reached || decide inside, eff.1, eff.2, away.1, away.2,
        c.sat || decide (65535 ≤ eff.1 ∨ (out ∧ 65535 ≤ away.1))⟩ } := by
  unfold Hold.complied
  rw [hout, hin]
  by_cases ho : out
  · simp [ho, Compliance.countEffective, Compliance.countOut, addSecond_eq, Bool.or_assoc]
  · simp [ho, Compliance.countEffective, addSecond_eq]

theorem Hold.lapsesByReach_iff (h : Hold) (f : Int) (tested : Bool) {inside : Prop} [Decidable inside]
    (hin : (tested && inBand h.target h.halfBand f) = decide inside) :
    h.lapsesByReach f tested = true ↔ h.kind = .boost ∧ h.lapseOnReach = true ∧ h.figures.reached = false ∧ inside := by
  rw [Hold.lapsesByReach, Bool.and_assoc, hin]
  simp [and_assoc]

/-! ### Step 8: the table -/

section Comply

variable {s : State} {z : Zone} {h : Hold} {f : Int} {tested suppressed : Bool}

theorem State.comply_of_stays (he : s.effectiveHold z = some h) (hl : h.lapsesByReach f tested = false) :
    s.comply z f tested suppressed
      = s.setHolds (s.holds.put h.handle.slot (some (h.complied f tested suppressed))) := by
  simp only [State.comply, he, hl, Bool.false_eq_true, if_false]

/-- What governs a zone is not read from the figures (R6). -/
theorem State.governing_complied (hs : s.holds.Sound) (he : s.effectiveHold z = some h) :
    (s.setHolds (s.holds.put h.handle.slot (some (h.complied f tested suppressed)))).governing z = s.governing z := by
  have hput : (s.setHolds (s.holds.put h.handle.slot (some (h.complied f tested suppressed)))).effectiveHold z
      = some (h.complied f tested suppressed) := by
    rw [State.effectiveHold_eq, State.setHolds_holds,
      hs.put_live (h' := h.complied f tested suppressed) (hs.at_of_live he).1 rfl, show s.holds.live z = some h from he]
    simp
  simp only [State.governing, hput, he]
  rfl

theorem State.comply_of_lapses (hs : s.holds.Sound) (he : s.effectiveHold z = some h)
    (hl : h.lapsesByReach f tested = true) :
    let tab := s.holds.put h.handle.slot (some { h.complied f tested suppressed with state := .lapsed .reached })
    s.comply z f tested suppressed = { s with
      holds := tab.restated z, time := s.time.without (.holdExpiry h.handle.slot)
      events := s.events ++ [.raise .holdLapsed] ++ governmentHanded s (s.comply z f tested suppressed) z } := by
  intro tab
  obtain ⟨hat, -, hlive⟩ := hs.at_of_live he
  let s1 := s.setHolds (s.holds.put h.handle.slot (some (h.complied f tested suppressed)))
  have hc : s.comply z f tested suppressed = s1.regovern z fun s2 => s2.lapse h.handle.slot .reached := by
    simp only [State.comply, he, hl, if_true]
    rfl
  have hlapse := State.lapse_of_live (s := s1) .reached (HoldTable.put_at_of_at hat _) hlive
  have hgov (t : State) : governmentHanded s1 t z = governmentHanded s t z := by
    rw [governmentHanded, State.governing_complied hs he]
    rfl
  have hput : s1.holds.put h.handle.slot (some { h.complied f tested suppressed with state := .lapsed .reached })
      = tab := HoldTable.put_put ..
  rw [hput] at hlapse
  rw [hc, ← hgov]
  exact State.regovern_of_change hlapse

end Comply

/-! ### Step 9 -/

/-- What an evaluation hands on last (R43, R46, R104, R120). -/
theorem State.handOn_events (s : State) (z : Zone) : (s.handOn z).events = s.events ++ handedOn (s.handOn z) z := by
  have hdrawer : (s.handDrawer z).events = s.events ++ if z = .chill then [.airDrawer] else [] := by
    unfold State.handDrawer
    split <;> simp [State.hand]
  have hurgencies (t : State) : t.handUrgencies.events = t.events ++ [.review, .airUrgencies]
      ++ if 1500 ≤ t.eval.paths.fresh.urgency then [.cutShort t.eval.paths.fresh.urgency] else [] := by
    unfold State.handUrgencies
    dsimp only
    split <;> simp [State.hand]
  have heval (t : State) : t.handUrgencies.eval = t.eval := by simp
  rw [State.handOn, hurgencies, State.recomputePath_events, hdrawer, handedOn, heval]
  simp only [List.append_assoc]

/-! ### The obligation -/

/-- Where the zone's states are those of R5, its EFFECTIVE hold says so. -/
theorem HoldTable.Settled.state_of_live {t : HoldTable} {z : Zone} {h : Hold} (hset : t.Settled z) (hs : t.Sound)
    (hl : t.live z = some h) : h.state = .effective := by
  obtain ⟨hat, hz, hlive⟩ := hs.at_of_live hl
  have hstate := restate_eq_self_iff.1 (hset _ _ hat hz) hz hlive
  rwa [hl, Option.map_some, if_pos rfl] at hstate

theorem asResolved_of_settled {t : State} {z : Zone} (hset : t.holds.Settled z) {j : Nat} {h : Hold}
    (hj : t.holds.at j = some h) : asResolved t z h = h := by
  rw [asResolved_eq_restate]
  by_cases hz : h.zone = z
  · exact hset j h hj hz
  · exact restate_of_other hz

/-- A second counted on a zone's EFFECTIVE hold leaves it EFFECTIVE, and every other zone its own. -/
theorem HoldTable.Sound.live_complied {t : HoldTable} {z : Zone} {h h' : Hold} (hs : t.Sound) (he : t.live z = some h)
    (hl : h'.state = h.state) (y : Zone) :
    (t.put h.handle.slot (some h')).live y = if y = z then some h' else t.live y := by
  obtain ⟨hat, hz, -⟩ := hs.at_of_live he
  rw [hs.put_live hat (by rw [hl])]
  split
  · next hy => simp [hy, he]
  · next hy =>
    cases hr : t.live y with
    | none => rfl
    | some r =>
      obtain ⟨hrat, hrz, -⟩ := hs.at_of_live hr
      have hne : r.handle ≠ h.handle := fun heq => hy <| by
        rw [heq, hat] at hrat
        cases hrat
        exact hrz.symm.trans hz
      simp [hne]

/-- A one-second evaluation as the counting of the EFFECTIVE hold between what comes before it and the hand-on. -/
theorem State.evaluateSecond_eq (s : State) (z : Zone) (rep : Report) :
    ∃ d l, s.TimesZones d l ∧ (∀ x ∈ l, x = .raise .warmExcursion ∨ x = .raise .coldExcursion) ∧
      s.evaluateSecond z rep = (d.comply z (sourceDue (seenWith rep s) (s.entry z) (s.zone z).f).2
        ((s.secondJudged z rep).fTested (some rep) z) (suppressedIn s z)).handOn z := by
  obtain ⟨l, ⟨hh, hm, hev⟩, hl⟩ := (s.secondJudged z rep).timed_timesZones (some rep) z (suppressedIn s z)
  obtain ⟨-, hf, -⟩ := s.secondJudged_zone z rep
  refine ⟨_, l, ⟨hh.trans (by simp), hm.trans (by simp), hev.trans (by simp)⟩, hl, ?_⟩
  rw [← s.suppressed_of_selectSource z rep, ← hf]
  rfl

/-- Settles O19: the second is counted on the hold that the table calls EFFECTIVE, which then stays or lapses. -/
theorem oneSecondEvaluationCountsTheHold : Obligations.OneSecondEvaluationCountsTheHold := by
  intro z s rep rest h htake hs he e x tested out inside carry c eff away lapses
  obtain ⟨hsound, hset, -⟩ := (baseSafe_iff s).1 hs
  obtain ⟨hat, hz, hlive⟩ := hsound.at_of_live he
  obtain ⟨d, l, ⟨hdh, hdm, hde⟩, hl, heval⟩ := (s.setEvents rest).evaluateSecond_eq z rep
  obtain ⟨tb, htb⟩ : ∃ b, ((s.setEvents rest).secondJudged z rep).fTested (some rep) z = b := ⟨_, rfl⟩
  have htested : tb = true ↔ tested := htb ▸ (s.setEvents rest).fTested_secondJudged z rep
  have hout : (tb && !suppressedIn s z && outOfBand h.target h.halfBand x.2) = decide out := by
    rw [Bool.eq_iff_iff, decide_eq_true_iff]
    simp only [outOfBand, Bool.and_eq_true, htested, Bool.not_eq_true', decide_eq_true_eq, and_assoc]
    rfl
  have hin : (tb && inBand h.target h.halfBand x.2) = decide inside := by
    rw [Bool.eq_iff_iff, decide_eq_true_iff]
    simp only [inBand, Bool.and_eq_true, htested, decide_eq_true_eq]
    rfl
  have hlapses : h.lapsesByReach x.2 tb = true ↔ lapses := h.lapsesByReach_iff x.2 tb hin
  have hcomplied := h.complied_eq x.2 tb (suppressedIn s z) hout hin
  have hstate : h.state = .effective := (hset z).state_of_live hsound he
  have hed : d.effectiveHold z = some h := by rw [State.effectiveHold_eq, hdh]; exact he
  obtain ⟨u, hu⟩ : ∃ u, d.comply z x.2 tb (suppressedIn s z) = u := ⟨_, rfl⟩
  have hexec : exec (.oneSecondEvaluation z) s = .next (u.handOn z) := by
    refine congrArg _ ((State.takeEvent_of_some _ htake).trans (heval.trans ?_))
    rw [htb, ← hu]
    rfl
  have hevents : (u.handOn z).events = u.events ++ handedOn (u.handOn z) z := u.handOn_events z
  refine ⟨u.handOn z, l, hexec, ?_⟩
  rw [hevents, State.handOn_holds]
  by_cases hlap : lapses
  · have hcomply := State.comply_of_lapses (suppressed := suppressedIn s z) (hdh ▸ hsound) hed (hlapses.2 hlap)
    rw [hu, hdh] at hcomply
    obtain ⟨h', hh'⟩ : ∃ h' : Hold, { h.complied x.2 tb (suppressedIn s z) with state := .lapsed .reached } = h' :=
      ⟨_, rfl⟩
    rw [hh'] at hcomply
    have huh : (u.handOn z).holds = (s.holds.put h.handle.slot (some h')).restated z := by
      rw [State.handOn_holds]
      exact congrArg State.holds hcomply
    have hgov : governmentHanded d u z = governmentHanded s (u.handOn z) z :=
      governmentHanded_congr hdh hdm (State.handOn_holds u z).symm (State.handOn_map u z).symm z
    rw [← State.handOn_holds u z]
    refine ⟨?lists, ?record, ?others, ?generations, fun _ => ?none, fun hl => absurd hlap hl, ?events, hl⟩
    case lists => rw [huh, HoldTable.restated_lists, HoldTable.put_lists]
    case record =>
      rw [HoldTable.at_restated huh, HoldTable.put_at_of_at hat, Option.map_some, asResolved_eq_restate,
        restate_of_lapsed (by rw [← hh']; rfl), ← hh', hcomplied, if_pos hlap]
      rfl
    case others => exact fun j hj => by rw [HoldTable.at_restated huh, HoldTable.put_at_other _ _ hj]
    case generations => rw [huh, HoldTable.restated_generations, HoldTable.put_generations]
    case none =>
      rw [NoneOf, State.handOn_time, congrArg State.time hcomply]
      simpa using d.time.not_mem_without (.holdExpiry h.handle.slot)
    case events =>
      rw [if_pos hlap, congrArg State.events hcomply, hgov, hde]
      simp
  · have hstays : h.lapsesByReach x.2 tb = false := by rwa [← Bool.not_eq_true, hlapses]
    have hcomply := State.comply_of_stays (suppressed := suppressedIn s z) hed hstays
    rw [hu, hdh] at hcomply
    have huh : u.holds = s.holds.put h.handle.slot (some (h.complied x.2 tb (suppressedIn s z))) := by rw [hcomply]; rfl
    have hus : (u.handOn z).holds.Settled z := by
      rw [State.handOn_holds, huh]
      exact hsound.settled_put hat (h.complied_succeeds ..) rfl (hset z)
    have huat : u.holds.at h.handle.slot = some (h.complied x.2 tb (suppressedIn s z)) := by
      rw [huh, HoldTable.put_at_of_at hat]
    refine ⟨?lists, ?record, ?others, ?generations, fun hl => absurd hl hlap, fun _ y => ?live, ?events, hl⟩
    case lists => rw [huh, HoldTable.put_lists]
    case record =>
      rw [huat, hcomplied, if_neg hlap, ← hstate]
      rfl
    case others =>
      intro j hj
      have hsame : u.holds.at j = s.holds.at j := by rw [huh, HoldTable.put_at_other _ _ hj]
      rw [← hsame]
      cases hjr : u.holds.at j with
      | none => rfl
      | some r => rw [Option.map_some, asResolved_of_settled hus (by rw [State.handOn_holds]; exact hjr)]
    case generations => rw [huh, HoldTable.put_generations]
    case live =>
      rw [huat, State.effectiveHold_eq, State.handOn_holds, huh, 
        hsound.live_complied (h' := h.complied x.2 tb (suppressedIn s z)) he rfl]
      rfl
    case events =>
      rw [if_neg hlap, List.append_nil, show u.events = d.events by rw [hcomply]; rfl, hde]
      rfl

end Sys2Proof.Machine
end

section
/-! Rules of an evaluation: what steps 3 to 6 make of a record, and what the end of an evaluation forms and hands on. -/

namespace Sys2Proof.Machine

open Sys2Proof.Safety

/-! ### Steps 3 to 6 on a record (R41 to R45, R39, R53) -/

theorem callOf_eq (r : ZoneRec) (afresh untested : Bool) : callOf r afresh untested = callDue r afresh untested := by
  unfold callOf callDue
  cases r.calls <;> cases afresh <;> simp

/-- The record `r'` has the state, wait age, excess, urgency and SAT that steps 3 to 6 make of `r` on the call `call`. -/
structure ZoneRec.SettlesTo (r r' : ZoneRec) (call served second : Bool) : Prop where
  state : r'.state = stateOf r call served
  wait : r'.waitAge = waitOf r.state r'.state r.waitAge second
  excess : r'.excess = excessOf r
  figures : (r'.urgency, r'.sat) = urgencyOf r'.state r.source r.weight r'.excess r'.waitAge

theorem ZoneRec.settlesTo_settled (r : ZoneRec) (afresh untested served second : Bool) :
    r.SettlesTo (r.settled afresh untested served second) (callDue r afresh untested) served second :=
  ⟨by rw [← callOf_eq]; rfl, rfl, rfl, rfl⟩

theorem stateOf_of_transit {r : ZoneRec} (h : r.state = .transit) (call served : Bool) :
    stateOf r call served = .transit := if_pos h

theorem stateOf_of_ne {r : ZoneRec} (h : r.state ≠ .transit) (call served : Bool) :
    stateOf r call served
      = if call = false then .satisfied else if served && !r.doorPaused then .cooling else .calling := if_neg h

theorem stateOf_transit_iff (r : ZoneRec) (call served : Bool) :
    stateOf r call served = .transit ↔ r.state = .transit := by
  by_cases h : r.state = .transit
  · simp [stateOf_of_transit h, h]
  · rw [stateOf_of_ne h]
    cases call <;> cases served <;> cases r.doorPaused <;> simp [h]

/-- The wait age is 0 outside CALLING, and otherwise counts from where the zone began CALLING (R44). -/
theorem waitOf_eq (before after : ZoneState) (age : Nat) (second : Bool) :
    waitOf before after age second = if after ≠ .calling then 0
      else if second then min 1800 ((if before = .calling then age else 0) + 1)
      else if before = .calling then age else 0 := by
  unfold waitOf
  by_cases h : after = .calling <;> simp [h]

theorem hold9999_eq (u : Nat) : hold9999 u = (min 9999 u, decide (9999 < u)) := by
  unfold hold9999
  split <;> simp [*] <;> omega

/-- A zone without a call has urgency 0, a BLIND one that calls 200, any other its weighted sum held at 9999 (R45, R39). -/
theorem urgencyOf_eq (r : ZoneRec) (src : Source) (weight excess age : Nat) :
    urgencyOf r.state src weight excess age = if r.calls = false then (0, false)
      else if src = .blind then (200, false)
      else (min 9999 (weight * excess + age / 6), decide (9999 < weight * excess + age / 6)) := by
  unfold ZoneRec.calls
  cases r.state <;> simp [urgencyOf, hold9999_eq]

theorem ZoneRec.SettlesTo.settles {s t : State} {z : Zone} {r : ZoneRec} {call second : Bool}
    (h : r.SettlesTo (t.zone z) call (s.arb.state.runs (s.entry z).path && s.delivering (s.entry z).actuator) second) :
    Settles s t z r call second := by
  obtain ⟨hstate, hwait, hexcess, hfigures⟩ := h
  refine ⟨fun ht => hstate.trans (stateOf_of_transit ht _ _), fun ht => ?_, hwait.trans (waitOf_eq ..), hexcess,
    hfigures.trans (urgencyOf_eq ..)⟩
  rw [stateOf_of_ne ht] at hstate
  refine ⟨fun hc => by simpa [hc] using hstate, fun hc hs => ?_, fun hc hs => ?_⟩
  · obtain ⟨hruns, hdoor, hdelivers⟩ := hs
    simpa [hc, hruns, hdoor, hdelivers] using hstate
  · rw [hstate, hc, if_neg (by simp), if_neg]
    simp only [Bool.and_eq_true, Bool.not_eq_true']
    exact fun ⟨⟨hruns, hdelivers⟩, hdoor⟩ => hs ⟨hruns, hdoor, hdelivers⟩

/-! ### The end of an evaluation (R43, R46) -/

theorem mem_of_mem_maxFloor {a b : Option Nat} {v : Nat} (h : v ∈ maxFloor a b) : v ∈ a ∨ v ∈ b := by
  cases a with
  | none => exact .inr h
  | some x =>
    cases b with
    | none => exact .inl h
    | some y => cases h; rcases le_total x y with hxy | hxy <;> simp [hxy]

theorem le_maxFloor {a b : Option Nat} {v : Nat} (h : v ∈ a ∨ v ∈ b) : ∃ w ∈ maxFloor a b, v ≤ w := by
  cases a with
  | none => exact ⟨v, h.resolve_left (by simp), le_rfl⟩
  | some x =>
    cases b with
    | none => exact ⟨v, h.resolve_right (by simp), le_rfl⟩
    | some y =>
      simp only [Option.mem_some_iff] at h
      exact ⟨max x y, rfl, le_max_iff.2 (h.imp Eq.ge Eq.ge)⟩

/-- The path floor is the largest floor of a calling member (R46). -/
theorem mem_pathFloor {rs : List ZoneRec} {v : Nat} (h : v ∈ pathFloor rs) :
    ∃ r ∈ rs, r.calls = true ∧ r.floor = some v := by
  induction rs with
  | nil => cases h
  | cons r rs ih =>
    rcases mem_of_mem_maxFloor h with hr | hrs
    · cases hc : r.calls with
      | false => simp [hc] at hr
      | true => exact ⟨r, .head _, hc, by simpa [hc] using hr⟩
    · obtain ⟨x, hx, hxr⟩ := ih hrs
      exact ⟨x, .tail _ hx, hxr⟩

theorem le_pathFloor {rs : List ZoneRec} {r : ZoneRec} (hr : r ∈ rs) (hc : r.calls = true) {v : Nat}
    (hv : v ∈ r.floor) : ∃ w ∈ pathFloor rs, v ≤ w := by
  induction hr with
  | head rs => exact le_maxFloor (.inl (by simpa [hc] using hv))
  | @tail x rs _ ih =>
    obtain ⟨w, hw, hvw⟩ := ih
    obtain ⟨u, hu, hwu⟩ := le_maxFloor (a := if x.calls then x.floor else none) (.inr hw)
    exact ⟨u, hu, hvw.trans hwu⟩

@[simp] theorem PerPath.get_set_self {α : Type} (x : PerPath α) (p : Path) (a : α) : (x.set p a).get p = a := by
  cases p <;> rfl

theorem PerPath.get_set_other {α : Type} (x : PerPath α) {p q : Path} (a : α) (h : q ≠ p) :
    (x.set p a).get q = x.get q := by
  cases p <;> cases q <;> first | rfl | exact absurd rfl h

/-- A path's record recomputed is the one that its members give (R46). -/
theorem State.recomputePath_pathFormed (s : State) (p : Path) : PathFormed (s.recomputePath p) p := by
  have hrec : (s.recomputePath p).eval.paths.get p = pathFigures ((membersOf (s.recomputePath p) p).map s.zone) :=
    PerPath.get_set_self ..
  have hu (u : Nat) : (hold9999 u).1 = min 9999 u ∧ ((hold9999 u).2 = true ↔ 9999 < u) := by simp [hold9999_eq]
  unfold PathFormed
  rw [hrec]
  refine ⟨?urgency, ?sat, fun v hv => ?mem, fun z hz hc v hv => ?le⟩
  case urgency => rw [pathFigures, (hu _).1, List.map_map]; rfl
  case sat => rw [pathFigures, (hu _).2, List.map_map]; rfl
  case mem =>
    obtain ⟨r, hr, hc, hf⟩ := mem_pathFloor hv
    obtain ⟨z, hz, rfl⟩ := List.mem_map.1 hr
    exact ⟨z, hz, hc, hf⟩
  case le => exact le_pathFloor (List.mem_map_of_mem hz) hc hv

theorem State.handDrawer_eq (s : State) (z : Zone) : ∃ l, s.handDrawer z = { s with
    eval := { s.eval with demand := if z = .chill then s.demandNow else s.eval.demand }, events := s.events ++ l } := by
  unfold State.handDrawer
  split
  · exact ⟨[.airDrawer], rfl⟩
  · exact ⟨[], by simp⟩

theorem State.handUrgencies_eq (s : State) : ∃ l, s.handUrgencies = { s with events := s.events ++ l } := by
  unfold State.handUrgencies
  dsimp only
  split
  · exact ⟨[.review] ++ [.airUrgencies] ++ [.cutShort s.eval.paths.fresh.urgency],
      by simp [State.hand, State.setEvents]⟩
  · exact ⟨[.review] ++ [.airUrgencies], by simp [State.hand, State.setEvents]⟩

/-- The end of an evaluation forms the path's record and CHILL's cooling demand, and hands on (R43, R46). -/
theorem State.handOn_eq (s : State) (z : Zone) : s.handOn z = { s with
    eval := { s.eval with
      paths := s.eval.paths.set (s.entry z).path (pathFigures ((s.members (s.entry z).path).map s.zone))
      demand := if z = .chill then s.demandNow else s.eval.demand }
    events := s.events ++ handedOn (s.handOn z) z } := by
  rw [← State.handOn_events]
  obtain ⟨ld, hd⟩ := s.handDrawer_eq z
  obtain ⟨lu, hu⟩ := ((s.handDrawer z).recomputePath (s.entry z).path).handUrgencies_eq
  have hon : s.handOn z = _ := hu
  rw [hon, hd]
  rfl

@[simp] theorem State.handOn_zone (s : State) (z y : Zone) : (s.handOn z).zone y = s.zone y := by
  rw [State.handOn_eq]
  rfl

theorem State.handOn_endsEvaluation (s : State) (z : Zone) : EndsEvaluation s (s.handOn z) z := by
  have heval := congrArg State.eval (s.handOn_eq z)
  refine ⟨?formed, fun p hp => ?others, ?demand⟩
  case formed =>
    have hp := s.recomputePath_pathFormed (s.entry z).path
    have hz (y : Zone) : (s.handOn z).zone y = (s.recomputePath (s.entry z).path).zone y := s.handOn_zone z y
    unfold PathFormed membersOf State.entry at hp ⊢
    simp only [hz, State.handOn_map, heval]
    exact hp
  case others => rw [heval]; exact PerPath.get_set_other _ _ hp
  case demand => rw [heval, State.handOn_zone]; rfl

/-! ### A whole evaluation that counts no second (R34) -/

/-- The state `t` is the one that an evaluation of the zone leaves, which makes steps 3 to 6 on its record `r` and no other
step but the last, from `s` with the timebase `time`. -/
structure State.Evaluates (s t : State) (z : Zone) (r : ZoneRec) (time : Timebase) : Prop where
  frame : t = { s with
    eval := { s.eval with zones := t.eval.zones, paths := t.eval.paths, demand := t.eval.demand }
    time := time, events := s.events ++ handedOn t z }
  zone : t.zone z = { r with
    state := (t.zone z).state, waitAge := (t.zone z).waitAge, excess := (t.zone z).excess
    urgency := (t.zone z).urgency, sat := (t.zone z).sat }
  settles : Settles s t z r
    (callDue r false (decide ((s.channel (s.entry z).sensor).state = .seeding) || r.placeholder)) false
  others : ∀ y, y ≠ z → t.zone y = s.zone y
  ends : EndsEvaluation s t z

theorem State.evaluates (s : State) (z : Zone) (r : ZoneRec) (time : Timebase) :
    s.Evaluates ((((s.setTime time).setZone z r).settleZone none z false false).handOn z) z r time := by
  obtain ⟨u, hu⟩ : ∃ u, ((s.setTime time).setZone z r).settleZone none z false false = u := ⟨_, rfl⟩
  have hzone : u.zone z = r.settled false
      (decide ((s.channel (s.entry z).sensor).state = .seeding) || r.placeholder)
      (s.arb.state.runs (s.entry z).path && s.delivering (s.entry z).actuator) false := by
    rw [← hu, State.settleZone, State.setZone_zone_self, State.callUntested, State.setZone_zone_self]
    rfl
  have hframe : u = { s with eval := { s.eval with zones := u.eval.zones }, time := time } := by
    rw [← hu]
    rfl
  rw [hu]
  constructor
  case frame =>
    have hon := u.handOn_eq z
    obtain ⟨l, hl⟩ : ∃ l, handedOn (u.handOn z) z = l := ⟨_, rfl⟩
    rw [hl] at hon ⊢
    rw [hon, hframe]
  case zone =>
    rw [State.handOn_zone, hzone]
    rfl
  case settles =>
    refine ZoneRec.SettlesTo.settles ?_
    rw [State.handOn_zone, hzone]
    exact ZoneRec.settlesTo_settled ..
  case others =>
    intro y hy
    rw [State.handOn_zone, ← hu, State.settleZone, State.setZone_zone_other _ _ _ _ hy,
      State.setZone_zone_other _ _ _ _ hy]
    rfl
  case ends =>
    have hends := u.handOn_endsEvaluation z
    rw [hframe] at hends ⊢
    exact hends

end Sys2Proof.Machine
end

section
/-! The evaluations that count no second: a change of what governs a zone, a door event, and the delivery of a BLIND half
(R34, R40, R47). -/

namespace Sys2Proof.Machine

open Sys2Proof.Safety

/-- Settles O16: what governs is stored, and outside TRANSIT the evaluation of the stored record follows. -/
theorem holdChangeIsStored : Obligations.HoldChangeIsStored := by
  intro z s g rest htake r r' untested
  have hexec : exec (.holdChangeEvaluation z) s = .next ((s.setEvents rest).evaluateHoldChange z g) :=
    congrArg _ (State.takeEvent_of_some _ htake)
  rw [hexec]
  refine ⟨fun htransit => ?_, fun htransit => ⟨_, rfl, ?_⟩⟩
  · exact congrArg _ (if_pos htransit)
  · have heval : (s.setEvents rest).evaluateHoldChange z g
        = (((s.setEvents rest).setZone z r').settleZone none z false false).handOn z := if_neg htransit
    rw [heval]
    obtain ⟨hframe, hzone, hsettles, hothers, hends⟩ := (s.setEvents rest).evaluates z r' s.time
    exact ⟨hframe, hzone, hsettles, hothers, hends⟩

/-- Settles O21: the door's zone is evaluated with door-paused and the grace count as the event leaves them. -/
theorem doorEventPausesItsZone : Obligations.DoorEventPausesItsZone := by
  intro d s ev rest htake
  have hexec : exec (.doorChangeEvaluation d) s = .next (match s.zoneOfDoor d with
      | some z => (s.setEvents rest).evaluateDoor z ev
      | none => s.setEvents rest) := congrArg _ (State.takeEvent_of_some _ htake)
  rw [hexec]
  refine ⟨fun z hz => ?_, fun hz => by rw [hz]; rfl⟩
  intro anyOpen r untested
  have heval : (s.setEvents rest).evaluateDoor z ev
      = (((s.setEvents rest).setZone z r).settleZone none z false false).handOn z := by cases ev <;> rfl
  obtain ⟨hframe, hzone, hsettles, hothers, hends⟩ := (s.setEvents rest).evaluates z r s.time
  rw [hz]
  exact ⟨_, congrArg _ heval, hframe, hzone, hsettles, hothers, hends⟩

/-! ### The BLIND schedule (R40) -/

/-- The zone's record as the delivery of its BLIND_HALF, due at `due`, leaves it before the evaluation. -/
def State.halfTurned (s : State) (z : Zone) (half : BlindHalf) (due : Instant) : ZoneRec :=
  let next := nextHalf (s.eval.blindUsed.get z) half
  { s.zone z with half := some next.1, blindDue := some (due.sec + next.2) }

/-- The timebase with a deadline re-armed at `due`, its expiry taken. -/
def Timebase.rearmed (x : Timebase) (k : DeadlineKey) (due : Instant) : Timebase :=
  { x with expiries := dropKey k x.expiries }.withEntry k due

theorem Timebase.rearmed_without (x : Timebase) (k : DeadlineKey) (due : Instant) :
    (x.rearmed k due).without k = x.without k := by
  rw [Timebase.rearmed, Timebase.withEntry_without]
  simp [Timebase.without]

theorem execBlindHalf_of_delivers {s : State} {z : Zone} {due : Instant} {half : BlindHalf}
    (hd : Delivers s (.blindHalf z) due) (hh : (s.zone z).half = some half) :
    let time := s.time.rearmed (.blindHalf z) (due.plus (nextHalf (s.eval.blindUsed.get z) half).2)
    exec (.blindHalf z) s
      = .next ((((s.setTime time).setZone z (s.halfTurned z half due)).settleZone none z false false).handOn z) := by
  refine congrArg _ ((State.deliver_of_next _ hd rfl).trans ?_)
  have hsome : ((s.setTime { s.time with expiries := dropKey (.blindHalf z) s.time.expiries }).zone z).half
      = some half := hh
  dsimp only
  rw [hsome]
  rfl

end Sys2Proof.Machine
end

section
/-! A one-second evaluation step by step (R33): what each step leaves alone, and the zone's record at the end. -/

namespace Sys2Proof.Machine

open Sys2Proof.Safety

/-! ### The frame of steps 1 to 8 -/

/-- The steps of a zone's evaluation before its end change the zone's record, the hold table and the timebase, and hand
events on. -/
structure State.StepsZone (s t : State) (z : Zone) : Prop where
  frame : t = { s with
    holds := t.holds, time := t.time, events := t.events, eval := { s.eval with zones := t.eval.zones } }
  others : ∀ y, y ≠ z → t.zone y = s.zone y

section StepsZone

variable {s t u : State} {z : Zone}

theorem State.StepsZone.refl (s : State) (z : Zone) : s.StepsZone s z := ⟨rfl, fun _ _ => rfl⟩

theorem State.StepsZone.trans (h : s.StepsZone t z) (h' : t.StepsZone u z) : s.StepsZone u z := by
  refine ⟨?_, fun y hy => (h'.others y hy).trans (h.others y hy)⟩
  rw [h'.frame, h.frame]

theorem State.StepsZone.setZone (h : s.StepsZone t z) (r : ZoneRec) : s.StepsZone (t.setZone z r) z :=
  h.trans ⟨rfl, fun y hy => t.setZone_zone_other z y r hy⟩

theorem State.StepsZone.setTime (h : s.StepsZone t z) (x : Timebase) : s.StepsZone (t.setTime x) z :=
  h.trans ⟨rfl, fun _ _ => rfl⟩

theorem State.StepsZone.raiseNotice (h : s.StepsZone t z) (n : Notice) : s.StepsZone (t.raiseNotice n) z :=
  h.trans ⟨rfl, fun _ _ => rfl⟩

theorem State.stepsZone_selectSource (s : State) (rep : Option Report) (z : Zone) (restart : Bool) :
    s.StepsZone (s.selectSource rep z restart) z := by
  unfold State.selectSource
  dsimp only
  split
  · split
    · exact ((StepsZone.refl s z).setTime _).setZone _
    · exact (StepsZone.refl s z).setZone _
  · split
    · exact ((StepsZone.refl s z).setTime _).setZone _
    · exact (StepsZone.refl s z).setZone _

theorem State.stepsZone_secondJudged (s : State) (z : Zone) (rep : Report) :
    (s.readBlindLen z).StepsZone (s.secondJudged z rep) z := by
  obtain ⟨grace, hgrace⟩ := ((s.readBlindLen z).selectSource (some rep) z false).lowerGrace_eq z
  unfold State.secondJudged
  dsimp only
  rw [hgrace]
  exact (((s.readBlindLen z).stepsZone_selectSource (some rep) z false).setZone _).setZone _

theorem State.stepsZone_timeWarm (s : State) (z : Zone) (suppressed : Bool) :
    s.StepsZone (s.timeWarm z suppressed) z := by
  unfold State.timeWarm
  dsimp only
  split
  · exact ((StepsZone.refl s z).setZone _).raiseNotice _
  · exact (StepsZone.refl s z).setZone _

theorem State.stepsZone_timeCold (s : State) (z : Zone) (suppressed : Bool) :
    s.StepsZone (s.timeCold z suppressed) z := by
  unfold State.timeCold
  split
  · exact StepsZone.refl s z
  · dsimp only
    split
    · exact ((StepsZone.refl s z).setZone _).raiseNotice _
    · exact (StepsZone.refl s z).setZone _

theorem State.stepsZone_timed (s : State) (rep : Option Report) (z : Zone) (suppressed : Bool) :
    s.StepsZone (s.timed rep z suppressed) z := by
  unfold State.timed
  split
  · exact (s.stepsZone_timeWarm z suppressed).trans (State.stepsZone_timeCold ..)
  · exact StepsZone.refl s z

end StepsZone

/-! ### Step 8 (R21, R27 to R29) -/

theorem mem_governmentHanded {s t : State} {z : Zone} : ∀ x ∈ governmentHanded s t z, ∃ g, x = .holdChange z g := by
  unfold governmentHanded
  split
  · split <;> simp
  · simp

/-- A slot that a lapse names may hold no record, or one that has lapsed already (R20, R21). -/
theorem State.lapse_cases (s : State) (i : Nat) (cause : LapseCause) :
    ∃ tab time raised, s.lapse i cause = { s with holds := tab, time := time, events := s.events ++ raised } ∧
      (time = s.time ∨ time = s.time.without (.holdExpiry i)) ∧ ∀ x ∈ raised, x = Handoff.raise .holdLapsed := by
  cases hi : s.holds.at i with
  | none => exact ⟨s.holds, s.time, [], by simp [State.lapse, hi], .inl rfl, by simp⟩
  | some h =>
    obtain ⟨tab, -, hlapse⟩ := State.lapse_eq cause hi
    refine ⟨_, _, _, hlapse, ?_, ?_⟩ <;> split <;> simp

/-- The counting of the EFFECTIVE hold changes the hold table, and may lapse that hold: its deadline goes, HOLD_LAPSED is
raised, and what then governs the zone is handed on (R21, R27 to R29). -/
theorem State.comply_eq (s : State) (z : Zone) (f : Int) (tested suppressed : Bool) :
    ∃ tab time l, s.comply z f tested suppressed = { s with holds := tab, time := time, events := s.events ++ l } ∧
      (time = s.time ∨ ∃ h, s.effectiveHold z = some h ∧ time = s.time.without (.holdExpiry h.handle.slot)) ∧
      ∀ x ∈ l, x = .raise .holdLapsed ∨ ∃ g, x = .holdChange z g := by
  cases he : s.effectiveHold z with
  | none => exact ⟨s.holds, s.time, [], by simp [State.comply, he], .inl rfl, by simp⟩
  | some h =>
    obtain ⟨put, hput⟩ : ∃ put, s.holds.put h.handle.slot (some (h.complied f tested suppressed)) = put := ⟨_, rfl⟩
    cases hl : h.lapsesByReach f tested with
    | false =>
      refine ⟨put, s.time, [], ?_, .inl rfl, by simp⟩
      rw [State.comply_of_stays he hl, hput, List.append_nil]
      rfl
    | true =>
      have hcomply : s.comply z f tested suppressed
          = (s.setHolds put).regovern z fun s2 => s2.lapse h.handle.slot .reached := by
        simp only [State.comply, he, hl, if_true, hput]
      obtain ⟨tab, time, raised, hlapse, htime, hraised⟩ := (s.setHolds put).lapse_cases h.handle.slot .reached
      have hr := State.regovern_of_change (z := z) (change := fun s2 => s2.lapse h.handle.slot .reached) hlapse
      rw [← hcomply, List.append_assoc] at hr
      exact ⟨_, time, _, hr, htime.imp_right fun ht => ⟨h, rfl, ht⟩,
        fun x hx => (List.mem_append.1 hx).imp (hraised x) (mem_governmentHanded x)⟩

theorem State.stepsZone_comply (s : State) (z : Zone) (f : Int) (tested suppressed : Bool) :
    s.StepsZone (s.comply z f tested suppressed) z := by
  obtain ⟨holds, time, l, hc, -⟩ := s.comply_eq z f tested suppressed
  rw [hc]
  exact ⟨rfl, fun _ _ => rfl⟩

/-! ### The frame of the whole evaluation -/

/-- A one-second evaluation as its steps: 1 to 6, 7, 8 and 9. -/
theorem State.evaluateSecond_steps (s : State) (z : Zone) (rep : Report) :
    s.evaluateSecond z rep =
      ((((s.secondJudged z rep).timed (some rep) z (suppressedIn s z)).comply z
        (sourceDue (seenWith rep s) (s.entry z) (s.zone z).f).2 ((s.secondJudged z rep).fTested (some rep) z)
        (suppressedIn s z)).handOn z) := by
  rw [← s.suppressed_of_selectSource z rep, ← (s.secondJudged_zone z rep).2.1]
  rfl

theorem State.StepsZone.endsEvaluation {s t : State} {z : Zone} (h : s.StepsZone t z) :
    EndsEvaluation s (t.handOn z) z := by
  have hends := t.handOn_endsEvaluation z
  rw [h.frame] at hends ⊢
  exact hends

/-- What a one-second evaluation leaves alone: the other blocks, the other zones and the settings (R33). -/
theorem State.evaluateSecond_frame {s t : State} {z : Zone} {rep : Report} (ht : s.evaluateSecond z rep = t) :
    t = { s with
      holds := t.holds, time := t.time, events := t.events
      eval := { s.eval with
        zones := t.eval.zones, paths := t.eval.paths, demand := t.eval.demand
        blindUsed := s.eval.blindUsed.set z (s.eval.blindLen.get z) } } ∧
    (∀ y, y ≠ z → t.zone y = s.zone y) ∧ EndsEvaluation s t z := by
  obtain ⟨u, hu⟩ : ∃ u, ((s.secondJudged z rep).timed (some rep) z (suppressedIn s z)).comply z
    (sourceDue (seenWith rep s) (s.entry z) (s.zone z).f).2 ((s.secondJudged z rep).fTested (some rep) z)
    (suppressedIn s z) = u := ⟨_, rfl⟩
  have hsteps : (s.readBlindLen z).StepsZone u z := hu ▸
    ((s.stepsZone_secondJudged z rep).trans (State.stepsZone_timed ..)).trans (State.stepsZone_comply ..)
  have hon : u.handOn z = t := by rw [← ht, s.evaluateSecond_steps z rep, hu]
  refine ⟨?_, fun y hy => ?_, ?_⟩
  · have h := u.handOn_eq z
    rw [hon] at h
    rw [h, hsteps.frame]
    rfl
  · rw [← hon, State.handOn_zone, hsteps.others y hy]
    rfl
  · rw [← hon]
    exact hsteps.endsEvaluation

/-! ### The record and the deadlines that steps 1 and 2 leave (R35 to R38, R48) -/

theorem State.sensorSeeding_seen {s t : State} (hmap : t.map = s.map) (hmeas : t.meas = s.meas) (z : Zone)
    (rep : Report) :
    t.sensorSeeding (some rep) z = decide ((seenWith rep s (s.entry z).sensor).1 = .seeding) := by
  simp only [State.sensorSeeding, State.reading_seen, State.entry, State.reading, State.reportOf, State.channel, hmap,
    hmeas]

theorem State.lowerGrace_zone (s : State) (z : Zone) : (s.lowerGrace z).zone z = { s.zone z with
    grace := if s.anyDoorOpen z then (s.zone z).grace else (s.zone z).grace - 1 } := by
  unfold State.lowerGrace
  split <;> simp

section Selected

variable (s : State) (z : Zone) (rep : Report)

/-- What a change between BLIND and the other sources makes of a value: `entered` where BLIND begins, `left` where it
ends, and otherwise the value that stood. -/
def byBlind {α : Type} (before after : Source) (entered left stood : α) : α :=
  if after = .blind then (if before = .blind then stood else entered) else if before = .blind then left else stood

theorem byBlind_of_choice {α : Type} (before after : Source) (entered left stood : α) :
    (if after = .blind ∧ (before ≠ .blind ∨ false = true) then entered
      else if after ≠ .blind ∧ before = .blind then left else stood) = byBlind before after entered left stood := by
  unfold byBlind
  by_cases hafter : after = .blind <;> by_cases hbefore : before = .blind <;> simp [hafter, hbefore]

/-- The seconds of the calling half that a one-second evaluation reads (R33, R38). -/
def State.callingSecs : Nat := 60 * (s.eval.blindLen.get z).calling

/-- The zone's record with the source and F of the report taken, and with its grace count lowered. -/
def State.secondRecord : ZoneRec :=
  let r := s.zone z
  let x := sourceDue (seenWith rep s) (s.entry z) r.f
  { r with
    source := x.1, f := x.2
    placeholder := r.placeholder
      && (decide (x.1 = .blind) || decide ((seenWith rep s (s.entry z).sensor).1 = .seeding))
    half := byBlind r.source x.1 (some .call) none r.half
    blindDue := byBlind r.source x.1 (some (s.time.uptime + s.callingSecs z)) none r.blindDue
    grace := if (s.entry z).doors.any fun d => decide ((s.door d).state ≠ .closed) then r.grace else r.grace - 1 }

/-- The timebase with the BLIND_HALF entry as the choice of the source leaves it. -/
def State.secondTime : Timebase :=
  byBlind (s.zone z).source (sourceDue (seenWith rep s) (s.entry z) (s.zone z).f).1
    (s.time.withEntry (.blindHalf z) (s.now.plus (s.callingSecs z))) (s.time.without (.blindHalf z)) s.time

/-- What the choice of the source does to the deadlines (R37, R38). -/
theorem State.selectSource_time (s : State) (rep : Option Report) (z : Zone) :
    (s.selectSource rep z false).time
      = byBlind (s.zone z).source (s.sourceOf rep (s.entry z) (s.zone z).f).1
        (s.time.withEntry (.blindHalf z) (s.now.plus (60 * (s.eval.blindUsed.get z).calling)))
        (s.time.without (.blindHalf z)) s.time := by
  unfold State.selectSource byBlind
  dsimp only
  by_cases hbefore : (s.zone z).source = .blind
  · simp only [hbefore, ne_eq, not_true_eq_false, Bool.false_eq_true, or_self, if_false, if_true]
    split <;> rfl
  · simp only [hbefore, ne_eq, not_false_eq_true, Bool.false_eq_true, or_false, if_false, if_true]
    split <;> rfl

theorem State.readBlindLen_sourceOf : (s.readBlindLen z).sourceOf (some rep) ((s.readBlindLen z).entry z)
    ((s.readBlindLen z).zone z).f = sourceDue (seenWith rep s) (s.entry z) (s.zone z).f := State.sourceOf_eq ..

theorem State.secondJudged_time : (s.secondJudged z rep).time = s.secondTime z rep := by
  obtain ⟨g, hg⟩ := ((s.readBlindLen z).selectSource (some rep) z false).lowerGrace_eq z
  rw [State.secondJudged, hg, State.settleZone_time, State.setZone_time, State.selectSource_time,
    State.readBlindLen_sourceOf, State.readBlindLen_eval, PerZone.get_set_self]
  rfl

/-- Steps 3 to 6 of a one-second evaluation are made on the record that steps 1 and 2 leave. -/
theorem State.secondJudged_record :
    let r := s.secondRecord z rep
    (s.secondJudged z rep).zone z = r.settled (judgedAfresh (s.zone z).source r.source)
      (decide ((seenWith rep s (s.entry z).sensor).1 = .seeding) || r.placeholder)
      (s.arb.state.runs (s.entry z).path && s.delivering (s.entry z).actuator) true := by
  intro r
  obtain ⟨s1, hs1⟩ : ∃ s1, (s.readBlindLen z).selectSource (some rep) z false = s1 := ⟨_, rfl⟩
  have hsteps : (s.readBlindLen z).StepsZone s1 z := hs1 ▸ State.stepsZone_selectSource ..
  have hselected : s1.zone z = { r with grace := (s.zone z).grace } := by
    rw [← hs1, State.selectSource_zone]
    dsimp only
    rw [State.readBlindLen_sourceOf, State.sensorSeeding_seen (s := s) (t := s.readBlindLen z) rfl rfl, byBlind_of_choice,
      byBlind_of_choice, State.readBlindLen_eval, PerZone.get_set_self]
    rfl
  have hlowered : (s1.lowerGrace z).zone z = r := by
    rw [State.lowerGrace_zone, hselected, hsteps.frame]
    rfl
  have hjudged : s.secondJudged z rep = (s1.lowerGrace z).settleZone (some rep) z
      (judgedAfresh (s.zone z).source (s1.zone z).source) true := by
    rw [← hs1]
    rfl
  obtain ⟨grace, hgrace⟩ := s1.lowerGrace_eq z
  rw [hjudged, State.settleZone, State.setZone_zone_self, State.callUntested, hlowered, hselected]
  rw [hgrace, State.sensorSeeding_seen (s := s) (by rw [hsteps.frame]; rfl) (by rw [hsteps.frame]; rfl), hsteps.frame]
  rfl

end Selected

/-! ### Step 7 (R50 to R52) -/

theorem warmStep_eq (r : ZoneRec) (margin : Int) (limit : Nat) (suppressed : Bool) :
    let hot := r.t + r.h + margin < r.f
    let count := if ¬ hot then 0 else if suppressed = true then r.warmCount else min limit (r.warmCount + 1)
    let warms := hot ∧ ¬ suppressed = true ∧ limit ≤ count ∧ r.warm = false
    warmStep r margin limit suppressed = ({ r with
      warmCount := count, warm := decide (warms ∨ (r.warm = true ∧ (hot ∨ r.t + r.h < r.f))) }, decide warms) := by
  intro hot count warms
  unfold warmStep
  by_cases hhot : hot
  · cases suppressed with
    | true => simp [hot, count, warms, hhot]
    | false =>
      by_cases hfull : limit ≤ r.warmCount + 1 <;> by_cases hw : r.warm = true <;>
        simp [hot, count, warms, hhot, hfull, hw]
  · simp [hot, count, warms, hhot]

theorem coldStep_eq (r : ZoneRec) (suppressed : Bool) :
    let chilly := r.f < r.t - r.h - 30
    let count := if ¬ chilly then 0 else if suppressed = true then r.coldCount else min 900 (r.coldCount + 1)
    let colds := chilly ∧ ¬ suppressed = true ∧ 900 ≤ count ∧ r.cold = false
    coldStep r suppressed = ({ r with
      coldCount := count, cold := decide (colds ∨ (r.cold = true ∧ r.f < r.t - r.h)) }, decide colds) := by
  intro chilly count colds
  unfold coldStep
  by_cases hchilly : chilly
  · have hbelow : r.f < r.t - r.h := by omega
    cases suppressed with
    | true => simp [chilly, count, colds, hchilly, hbelow]
    | false =>
      by_cases hfull : 900 ≤ r.coldCount + 1 <;> by_cases hc : r.cold = true <;>
        simp [chilly, count, colds, hchilly, hbelow, hfull, hc]
  · simp [chilly, count, colds, hchilly]

section Timed

variable (s : State) (z : Zone) (suppressed : Bool)

/-- The warm side of step 7 on the zone's record. -/
def State.warmed : ZoneRec × Bool :=
  warmStep (s.zone z) (s.entry z).warmMargin (60 * s.eval.excursionTime) suppressed

theorem State.timeWarm_eq : s.timeWarm z suppressed =
    (s.setZone z (s.warmed z suppressed).1).setEvents
      (s.events ++ if (s.warmed z suppressed).2 then [.raise .warmExcursion] else []) := by
  unfold State.timeWarm
  dsimp only
  change (if (s.warmed z suppressed).2 = true then _ else _) = _
  split <;> simp [State.warmed, State.raiseNotice, State.hand, State.setEvents, State.setZone, State.setEval]

theorem State.timeCold_eq (h : z ≠ .freeze) : s.timeCold z suppressed =
    (s.setZone z (coldStep (s.zone z) suppressed).1).setEvents
      (s.events ++ if (coldStep (s.zone z) suppressed).2 then [.raise .coldExcursion] else []) := by
  rw [State.timeCold, if_neg h]
  dsimp only
  split <;> simp [State.raiseNotice, State.hand, State.setEvents, State.setZone, State.setEval]

theorem State.timed_time (rep : Option Report) : (s.timed rep z suppressed).time = s.time := by
  have hcold (t : State) : (t.timeCold z suppressed).time = t.time := by
    by_cases hz : z = .freeze
    · rw [State.timeCold, if_pos hz]
    · rw [State.timeCold_eq t z suppressed hz]
      rfl
  unfold State.timed
  split
  · rw [hcold, State.timeWarm_eq]
    rfl
  · rfl

end Timed

/-! ### The record and the deadlines at its end -/

/-- What steps 8 and 9 leave of the zone's record and of the deadlines, and what they hand on. -/
theorem State.evaluateSecond_cases (s : State) (z : Zone) (rep : Report) :
    let d := (s.secondJudged z rep).timed (some rep) z (suppressedIn s z)
    let t := s.evaluateSecond z rep
    ∃ l, t.zone z = d.zone z ∧
      (t.time = s.secondTime z rep ∨
        ∃ h, s.effectiveHold z = some h ∧ t.time = (s.secondTime z rep).without (.holdExpiry h.handle.slot)) ∧
      t.events = d.events ++ l ++ handedOn t z ∧ ∀ x ∈ l, x = .raise .holdLapsed ∨ ∃ g, x = .holdChange z g := by
  intro d t
  obtain ⟨tab, time, l, hcomply, htime, hl⟩ := d.comply_eq z (sourceDue (seenWith rep s) (s.entry z) (s.zone z).f).2
    ((s.secondJudged z rep).fTested (some rep) z) (suppressedIn s z)
  have ht : t = _ := s.evaluateSecond_steps z rep
  rw [show State.comply _ _ _ _ _ = _ from hcomply] at ht
  obtain ⟨-, ⟨hholds, -, -⟩, -⟩ := (s.secondJudged z rep).timed_timesZones (some rep) z (suppressedIn s z)
  have hd : d.holds = s.holds ∧ d.time = s.secondTime z rep :=
    ⟨hholds.trans (by simp), (State.timed_time ..).trans (s.secondJudged_time z rep)⟩
  refine ⟨l, ?_, ?_, ?_, hl⟩
  · rw [ht, State.handOn_zone]
    rfl
  · rw [ht, State.handOn_time, ← hd.2]
    simpa only [State.effectiveHold_eq, hd.1] using htime
  · rw [ht, State.handOn_events]

end Sys2Proof.Machine
end

section
/-! The one-second evaluation (R33): what it makes of the zone's record, of its excursions and of its BLIND schedule. -/

namespace Sys2Proof.Machine

open Sys2Proof.Safety

/-! ### Deadlines of other keys -/

theorem timeKept_of_eq {s t : State} (keys : List DeadlineKey) (h : t.time = s.time) : TimeKept keys s t := by
  simp only [TimeKept, h, and_self]

theorem timeKept_trans {s t u : State} {keys : List DeadlineKey} (h : TimeKept keys s t) (h' : TimeKept keys t u) :
    TimeKept keys s u := by
  obtain ⟨huptime, hms, hentries, hexpiries⟩ := h
  obtain ⟨huptime', hms', hentries', hexpiries'⟩ := h'
  exact ⟨huptime'.trans huptime, hms'.trans hms, hentries'.trans hentries, hexpiries'.trans hexpiries⟩

theorem filter_others_dropKey {k : DeadlineKey} {keys : List DeadlineKey} (hk : k ∈ keys) (l : List Deadline) :
    (dropKey k l).filter (fun d => decide (d.key ∉ keys)) = l.filter fun d => decide (d.key ∉ keys) := by
  rw [dropKey, List.filter_filter]
  refine List.filter_congr fun d _ => ?_
  by_cases hd : d.key ∈ keys
  · simp [hd]
  · simp [hd, show d.key ≠ k from fun h => hd (h ▸ hk)]

/-- A change of the entry and the expiry of one key keeps those of every other key (R171). -/
theorem timeKept_of_without {s t : State} {k : DeadlineKey} {keys : List DeadlineKey} (hk : k ∈ keys)
    (h : t.time.without k = s.time.without k) : TimeKept keys s t := by
  have hothers {l l' : List Deadline} (hl : dropKey k l = dropKey k l') :
      (l.filter fun d => decide (d.key ∉ keys)) = l'.filter fun d => decide (d.key ∉ keys) := by
    rw [← filter_others_dropKey hk l, hl, filter_others_dropKey hk]
  obtain ⟨huptime, hms, hentries, hexpiries⟩ := (timeKept_iff k s t).2 h
  dsimp only at hentries hexpiries
  rw [dropKey_eq_filter, dropKey_eq_filter] at hentries hexpiries
  exact ⟨huptime, hms, hothers hentries, hothers hexpiries⟩

theorem State.secondTime_without (s : State) (z : Zone) (rep : Report) :
    (s.secondTime z rep).without (.blindHalf z) = s.time.without (.blindHalf z) := by
  unfold State.secondTime byBlind
  split <;> split <;> simp

@[simp] theorem State.setEvents_zone (s : State) (l : List Handoff) (z : Zone) : (s.setEvents l).zone z = s.zone z := rfl

/-! ### What steps 7 to 9 leave of the record that steps 1 to 6 have judged -/

/-- The records agree but for the excursions' counts and flags. -/
def ZoneRec.SameButExcursions (r r' : ZoneRec) : Prop :=
  r' = { r with warmCount := r'.warmCount, warm := r'.warm, coldCount := r'.coldCount, cold := r'.cold }

theorem ZoneRec.SameButExcursions.trans {r r' r'' : ZoneRec} (h : r.SameButExcursions r')
    (h' : r'.SameButExcursions r'') : r.SameButExcursions r'' := by
  unfold SameButExcursions at h h' ⊢
  rw [h', h]

theorem ZoneRec.SettlesTo.timed {r r' r'' : ZoneRec} {call served second : Bool}
    (h : r.SettlesTo r' call served second) (h' : r'.SameButExcursions r'') : r.SettlesTo r'' call served second := by
  rw [h']
  exact ⟨h.state, h.wait, h.excess, h.figures⟩

theorem State.timed_sameButExcursions (s : State) (rep : Option Report) (z : Zone) (suppressed : Bool) :
    (s.zone z).SameButExcursions ((s.timed rep z suppressed).zone z) := by
  have hwarm : (s.zone z).SameButExcursions (s.warmed z suppressed).1 := by rw [State.warmed, warmStep_eq]; rfl
  have hcold (r : ZoneRec) : r.SameButExcursions (coldStep r suppressed).1 := by rw [coldStep_eq]; rfl
  have hwarmed : (s.timeWarm z suppressed).zone z = (s.warmed z suppressed).1 := by
    rw [State.timeWarm_eq, State.setEvents_zone, State.setZone_zone_self]
  unfold State.timed
  split
  · by_cases hz : z = .freeze
    · rw [State.timeCold, if_pos hz, hwarmed]
      exact hwarm
    · rw [State.timeCold_eq _ _ _ hz, State.setEvents_zone, State.setZone_zone_self, hwarmed]
      exact hwarm.trans (hcold _)
  · rfl

theorem judgedAfresh_eq (before after : Source) : judgedAfresh before after
    = decide ((before = .fallback ∧ after = .sensed) ∨ (before = .blind ∧ after ≠ .blind)) := by
  cases before <;> cases after <;> rfl

section Second

variable {s t : State} {z : Zone} {rep : Report}

/-- The record at the end: the one of steps 1 and 2, settled, with its excursions timed. -/
theorem State.evaluateSecond_record (ht : s.evaluateSecond z rep = t) :
    ∃ afresh untested served, ((s.secondRecord z rep).settled afresh untested served true).SameButExcursions (t.zone z) := by
  obtain ⟨l, hzone, -⟩ := s.evaluateSecond_cases z rep
  have hsame := State.timed_sameButExcursions (s.secondJudged z rep) (some rep) z (suppressedIn s z)
  rw [← hzone, ht, s.secondJudged_record z rep] at hsame
  exact ⟨_, _, _, hsame⟩

/-- In BLIND the call follows the half, and otherwise F is no placeholder once the sensor has left SEEDING (R32, R35,
R39). -/
theorem State.callDue_secondRecord (s : State) (z : Zone) (rep : Report) (afresh : Bool) :
    let r := s.secondRecord z rep
    let seeding := decide ((seenWith rep s (s.entry z).sensor).1 = .seeding)
    callDue r afresh (seeding || r.placeholder) = callDue r afresh seeding := by
  intro r seeding
  unfold callDue
  by_cases hblind : r.source = .blind
  · rw [if_pos hblind, if_pos hblind]
  · have hplaceholder : r.placeholder = ((s.zone z).placeholder && (decide (r.source = .blind) || seeding)) := rfl
    have huntested : (seeding || r.placeholder) = seeding := by rw [hplaceholder]; cases seeding <;> simp [hblind]
    rw [huntested]

theorem State.evaluateSecond_settles (ht : s.evaluateSecond z rep = t) :
    let r := s.secondRecord z rep
    Settles s t z r (callDue r (judgedAfresh (s.zone z).source r.source)
      (decide ((seenWith rep s (s.entry z).sensor).1 = .seeding))) true := by
  intro r
  obtain ⟨l, hzone, -⟩ := s.evaluateSecond_cases z rep
  have hsame := State.timed_sameButExcursions (s.secondJudged z rep) (some rep) z (suppressedIn s z)
  rw [← hzone, ht, s.secondJudged_record z rep] at hsame
  rw [← s.callDue_secondRecord z rep]
  exact ((ZoneRec.settlesTo_settled ..).timed hsame).settles

/-- The deadlines at the end: the BLIND_HALF entry as the source leaves it, and no HOLD_EXPIRY of a hold that lapses. -/
theorem State.evaluateSecond_time (ht : s.evaluateSecond z rep = t) :
    t.time = s.secondTime z rep ∨
      ∃ h, s.effectiveHold z = some h ∧ t.time = (s.secondTime z rep).without (.holdExpiry h.handle.slot) := by
  obtain ⟨l, -, htime, -⟩ := s.evaluateSecond_cases z rep
  rwa [ht] at htime

theorem State.evaluateSecond_mem (ht : s.evaluateSecond z rep = t) :
    ∀ e ∈ t.time.deadlines ++ t.time.expiries, e ∈ (s.secondTime z rep).deadlines ++ (s.secondTime z rep).expiries := by
  intro e he
  rcases State.evaluateSecond_time ht with htime | ⟨h, -, htime⟩
  · rwa [htime] at he
  · rw [htime] at he
    exact (List.mem_append.1 he).elim (fun he => List.mem_append_left _ (mem_dropKey.1 he).1)
      fun he => List.mem_append_right _ (mem_dropKey.1 he).1

/-- Where the choice of the source leaves the BLIND_HALF entries as they stood, only a lapse touches the deadlines. -/
theorem State.evaluateSecond_timeKept (ht : s.evaluateSecond z rep = t) {keys : List DeadlineKey}
    (hkeys : ∀ h, s.effectiveHold z = some h → .holdExpiry h.handle.slot ∈ keys)
    (hsource : TimeKept keys s (s.setTime (s.secondTime z rep))) : TimeKept keys s t := by
  refine timeKept_trans hsource ?_
  rcases State.evaluateSecond_time ht with htime | ⟨h, he, htime⟩
  · exact timeKept_of_eq keys htime
  · exact timeKept_of_without (hkeys h he) (by rw [htime, Timebase.without_without]; rfl)

end Second

/-- Settles O17: steps 1 to 6 on the report taken give the record, and steps 7 to 9 change only its excursions. -/
theorem oneSecondEvaluationSettlesTheZone : Obligations.OneSecondEvaluationSettlesTheZone := by
  intro z s rep rest htake e r x seeding afresh half r' reach
  obtain ⟨t, ht⟩ : ∃ t, (s.setEvents rest).evaluateSecond z rep = t := ⟨_, rfl⟩
  have hexec : exec (.oneSecondEvaluation z) s = .next t := congrArg _ ((State.takeEvent_of_some _ htake).trans ht)
  obtain ⟨hframe, hothers, hends⟩ := State.evaluateSecond_frame ht
  obtain ⟨_, _, _, hrecord⟩ := State.evaluateSecond_record ht
  have hreach (h : Hold) (he : s.effectiveHold z = some h) : .holdExpiry h.handle.slot ∈ reach := by simp [reach, he]
  refine ⟨t, hexec, hframe, by rw [hrecord]; rfl, by rw [hrecord]; rfl, by rw [hrecord]; rfl, by rw [hrecord]; rfl,
    ?settles, by rw [hrecord]; rfl, by rw [hrecord]; rfl, ?left, ?stood, ?kept, hothers, hends⟩
  case settles =>
    have hafresh : judgedAfresh r.source x.1 = afresh := judgedAfresh_eq ..
    have hsettles := State.evaluateSecond_settles ht
    rw [← hafresh]
    exact hsettles
  case left =>
    intro hafter hbefore
    have hgone : s.secondTime z rep = s.time.without (.blindHalf z) := (if_neg hafter).trans (if_pos hbefore)
    refine ⟨by rw [hrecord]; exact (if_neg hafter).trans (if_pos hbefore), fun e he hkey => ?_⟩
    have hmem := State.evaluateSecond_mem ht e he
    exact s.time.not_mem_without (.blindHalf z) e (hgone ▸ hmem) (List.mem_singleton.1 hkey)
  case stood =>
    intro hsource
    have hstood {α : Type} (entered left stood : α) : byBlind r.source x.1 entered left stood = stood := by
      unfold byBlind
      by_cases hafter : x.1 = .blind
      · rw [if_pos hafter, if_pos (hsource.1 hafter)]
      · rw [if_neg hafter, if_neg fun hbefore => hafter (hsource.2 hbefore)]
    exact ⟨by rw [hrecord]; exact hstood .., State.evaluateSecond_timeKept ht hreach (timeKept_of_eq _ (hstood ..))⟩
  case kept =>
    exact State.evaluateSecond_timeKept ht (fun h he => .tail _ (hreach h he))
      (timeKept_of_without (.head _) (s.secondTime_without z rep))

/-! ### The excursions (R50 to R52) -/

theorem State.timed_of_untested {s : State} {rep : Option Report} {z : Zone} (h : ¬ s.fTested rep z = true)
    (suppressed : Bool) : s.timed rep z suppressed = s := if_neg h

/-- Step 7 on the zone's record, and the notices it raises. -/
theorem State.timed_of_tested {s : State} {rep : Option Report} {z : Zone} (h : s.fTested rep z = true)
    (suppressed : Bool) {w c : ZoneRec × Bool} (hw : s.warmed z suppressed = w)
    (hc : (if z = .freeze then (w.1, false) else coldStep w.1 suppressed) = c) :
    (s.timed rep z suppressed).zone z = c.1 ∧
      (s.timed rep z suppressed).events = s.events ++ (if w.2 then [.raise .warmExcursion] else [])
        ++ if c.2 then [.raise .coldExcursion] else [] := by
  have ht : s.timed rep z suppressed = (s.timeWarm z suppressed).timeCold z suppressed := if_pos h
  have hwarm := s.timeWarm_eq z suppressed
  rw [hw] at hwarm
  have hzone : (s.timeWarm z suppressed).zone z = w.1 := by rw [hwarm, State.setEvents_zone, State.setZone_zone_self]
  rw [ht]
  by_cases hz : z = .freeze
  · rw [if_pos hz] at hc
    rw [State.timeCold, if_pos hz, hzone, ← hc, hwarm]
    exact ⟨rfl, (List.append_nil _).symm⟩
  · rw [if_neg hz, ← hzone] at hc
    rw [State.timeCold_eq _ _ _ hz, hc, State.setEvents_zone, State.setZone_zone_self, hwarm]
    exact ⟨rfl, rfl⟩

/-- The warm side of step 7 reads the margin and the limit as they stood before the evaluation. -/
theorem State.secondJudged_warmed (s : State) (z : Zone) (rep : Report) (suppressed : Bool) :
    (s.secondJudged z rep).warmed z suppressed = warmStep ((s.secondJudged z rep).zone z) (s.entry z).warmMargin
      (60 * s.eval.excursionTime) suppressed := by
  have htime : (s.secondJudged z rep).eval.excursionTime = s.eval.excursionTime :=
    congrArg (·.eval.excursionTime) (s.stepsZone_secondJudged z rep).frame
  rw [State.warmed, htime, State.entry, State.secondJudged_map]
  rfl

/-- Settles O18: step 7 times the judged record where F is tested, and steps 8 and 9 leave its excursions alone. -/
theorem oneSecondEvaluationTimesExcursions : Obligations.OneSecondEvaluationTimesExcursions := by
  intro z s rep rest htake e r x tested held limit hot chilly warmCount coldCount warms colds
  obtain ⟨t, ht⟩ : ∃ t, (s.setEvents rest).evaluateSecond z rep = t := ⟨_, rfl⟩
  have hexec : exec (.oneSecondEvaluation z) s = .next t := congrArg _ ((State.takeEvent_of_some _ htake).trans ht)
  obtain ⟨l, hzone, -, hevents, hl⟩ := (s.setEvents rest).evaluateSecond_cases z rep
  obtain ⟨s1, hs1⟩ : ∃ s1, (s.setEvents rest).secondJudged z rep = s1 := ⟨_, rfl⟩
  obtain ⟨d, hd⟩ : ∃ d, s1.timed (some rep) z (suppressedIn s z) = d := ⟨_, rfl⟩
  have hd' : ((s.setEvents rest).secondJudged z rep).timed (some rep) z (suppressedIn (s.setEvents rest) z) = d :=
    hs1 ▸ hd
  rw [ht, hd'] at hzone hevents
  have htested : s1.fTested (some rep) z = true ↔ tested := hs1 ▸ (s.setEvents rest).fTested_secondJudged z rep
  have hrecord := hs1 ▸ (s.setEvents rest).secondJudged_record z rep
  have hwarmed := (hs1 ▸ (s.setEvents rest).secondJudged_warmed z rep (suppressedIn s z)).trans (warmStep_eq ..)
  rw [hrecord] at hwarmed
  have hrest : s1.events = rest := hs1 ▸ (s.setEvents rest).secondJudged_events z rep
  refine ⟨t, l, hexec, ?_⟩
  by_cases hyes : tested
  · have hwarms : warms ↔ _ := and_iff_right hyes
    by_cases hfreeze : z = .freeze
    · obtain ⟨hz, he⟩ := State.timed_of_tested (htested.2 hyes) _ hwarmed (if_pos hfreeze)
      rw [hd] at hz he
      have hcolds : ¬ colds := fun ⟨_, h, _⟩ => h hfreeze
      refine ⟨fun _ => ?_, fun _ h => absurd hfreeze h, fun h => absurd hyes h, fun _ => ?_, ?_, hl⟩
      · rw [hzone, hz, hwarms]
        exact ⟨rfl, decide_eq_true_iff⟩
      · rw [hzone, hz]
        exact ⟨rfl, rfl⟩
      · simp only [hevents, he, hrest, hwarms, hcolds, decide_eq_true_iff, Bool.false_eq_true]
        rfl
    · have hcolds : colds ↔ _ := (and_iff_right hyes).trans (and_iff_right hfreeze)
      obtain ⟨hz, he⟩ := State.timed_of_tested (htested.2 hyes) _ hwarmed ((if_neg hfreeze).trans (coldStep_eq ..))
      rw [hd] at hz he
      refine ⟨fun _ => ?_, fun _ _ => ?_, fun h => absurd hyes h, fun h => absurd h ?_, ?_, hl⟩
      · rw [hzone, hz, hwarms]
        exact ⟨rfl, decide_eq_true_iff⟩
      · rw [hzone, hz, hcolds]
        exact ⟨rfl, decide_eq_true_iff⟩
      · simp [hyes, hfreeze]
      · simp only [hevents, he, hrest, hwarms, hcolds, decide_eq_true_iff]
        rfl
  · rw [State.timed_of_untested (by rwa [htested])] at hd
    subst hd
    have hwarms : ¬ warms := fun h => hyes h.1
    have hcolds : ¬ colds := fun h => hyes h.1
    refine ⟨fun h => absurd h hyes, fun h => absurd h hyes, fun _ => ?_, fun _ => ?_, ?_, hl⟩
    · rw [hzone, hrecord]
      exact ⟨rfl, rfl⟩
    · rw [hzone, hrecord]
      exact ⟨rfl, rfl⟩
    · rw [if_neg hwarms, if_neg hcolds, hevents, hrest, List.append_nil, List.append_nil]

/-! ### The BLIND schedule (R38 to R40) -/

/-- With the sensor FAULTED or RECOVERING and no usable fallback there is no F (R35, R38). -/
theorem sourceDue_blind {now : Channel → ChannelState × Int} {e : MapEntry} (f : Int)
    (hsensor : (now e.sensor).1 = .faulted ∨ (now e.sensor).1 = .recovering)
    (hfallback : ∀ c o, e.fallback = some (c, o) → (now c).1 ≠ .good ∧ (now c).1 ≠ .suspect) :
    sourceDue now e f = (.blind, f) := by
  unfold sourceDue
  cases hf : e.fallback with
  | none => rcases hsensor with h | h <;> simp [h]
  | some p =>
    obtain ⟨hgood, hsuspect⟩ := hfallback p.1 p.2 hf
    rcases hsensor with h | h <;> simp [h, hgood, hsuspect]

/-- A zone outside TRANSIT whose source is BLIND calls in the calling half, with urgency 200 (R39). -/
theorem Settles.of_blind {s t : State} {z : Zone} {r : ZoneRec} {afresh untested second : Bool}
    (h : Settles s t z r (callDue r afresh untested) second) (hsource : r.source = .blind)
    (hhalf : r.half = some .call) (hstate : r.state ≠ .transit) : (t.zone z).calls = true ∧ (t.zone z).urgency = 200 := by
  obtain ⟨-, houtside, -, -, hfigures⟩ := h
  obtain ⟨-, hcooling, hcalling⟩ := houtside hstate
  have hcall : callDue r afresh untested = true := by simp [callDue, hsource, hhalf]
  have hcalls : (t.zone z).calls = true := by
    by_cases hserved : s.arb.state.runs (s.entry z).path = true ∧ r.doorPaused = false ∧
        s.delivering (s.entry z).actuator = true
    · simp [ZoneRec.calls, hcooling hcall hserved]
    · simp [ZoneRec.calls, hcalling hcall hserved]
  rw [hcalls, if_neg (by simp), if_pos hsource] at hfigures
  exact ⟨hcalls, congrArg Prod.fst hfigures⟩

/-- Settles O20: the half begins with the evaluation that finds no F, and its delivery turns it. -/
theorem blindZoneFollowsItsSchedule : Obligations.BlindZoneFollowsItsSchedule := by
  refine ⟨fun z s rep rest htake => ?enters, fun z s due half hd hh => ?turns⟩
  case enters =>
    intro e now secs hbefore hsensor hfallback
    obtain ⟨t, ht⟩ : ∃ t, (s.setEvents rest).evaluateSecond z rep = t := ⟨_, rfl⟩
    have hexec : exec (.oneSecondEvaluation z) s = .next t := congrArg _ ((State.takeEvent_of_some _ htake).trans ht)
    have hblind : sourceDue now e (s.zone z).f = (.blind, (s.zone z).f) := sourceDue_blind _ hsensor hfallback
    have hafter : (sourceDue now e (s.zone z).f).1 = .blind := by rw [hblind]
    have hentered {α : Type} (entered left stood : α) :
        byBlind (s.zone z).source (sourceDue now e (s.zone z).f).1 entered left stood = entered :=
      (if_pos hafter).trans (if_neg hbefore)
    obtain ⟨_, _, _, hrecord⟩ := State.evaluateSecond_record ht
    have hentry : ⟨.blindHalf z, ⟨s.time.uptime + secs, s.time.ms⟩⟩ ∈ ((s.setEvents rest).secondTime z rep).deadlines := by
      rw [show (s.setEvents rest).secondTime z rep = _ from hentered ..]
      exact mem_placeDeadline.2 (.inl rfl)
    refine ⟨t, hexec, ?_, ?_, ?_, ?_, ?_, fun hstate => ?_⟩
    · rw [hrecord]; exact hafter
    · rw [hrecord]; exact congrArg Prod.snd hblind
    · rw [hrecord]; exact hentered ..
    · rw [hrecord]; exact hentered ..
    · rcases State.evaluateSecond_time ht with htime | ⟨h, -, htime⟩
      · rwa [DueAfter, htime]
      · rw [DueAfter, htime]
        exact mem_dropKey.2 ⟨hentry, by simp⟩
    · exact Settles.of_blind (State.evaluateSecond_settles ht) hafter (hentered ..) hstate
  case turns =>
    intro len next r untested
    have hnext : nextHalf len half = next := by cases half <;> rfl
    have hr : s.halfTurned z half due = r := by simp only [State.halfTurned, hnext, r, len]
    have hexec := execBlindHalf_of_delivers hd hh
    simp only [hr, hnext, len] at hexec
    obtain ⟨hframe, hzone, hsettles, hothers, hends⟩ := s.evaluates z r
      (s.time.rearmed (.blindHalf z) (due.plus next.2))
    have htime := congrArg State.time hframe
    refine ⟨_, hexec, ?frame, hzone, hsettles, hothers, hends, ?entry, ?expiries, ?kept⟩
    case frame => rw [htime]; exact hframe
    case entry => rw [htime]; exact mem_placeDeadline.2 (.inl rfl)
    case expiries => rw [htime]; exact fun e he => (mem_dropKey.1 he).2
    case kept => rw [timeKept_iff, htime]; exact Timebase.rearmed_without ..

end Sys2Proof.Machine
end

section
/-! The invariants of the zone records (R45, R31, R112): what keeps them, operation by operation, to the end of a transit. -/

namespace Sys2Proof.Machine

open Sys2Proof.Safety

/-! ### What keeps the two invariants -/

theorem urgencySafe_iff (s : State) :
    UrgencySafe s ↔ (∀ z, ZoneSafe (s.zone z)) ∧ ∀ p, (s.eval.paths.get p).urgency ≤ 9999 := by
  constructor
  · rintro ⟨hfresh, hchill, hfreeze, hpaths⟩
    exact ⟨fun z => by cases z <;> assumption, fun p => by cases p <;> simp [PerPath.get, hpaths]⟩
  · rintro ⟨hzones, hpaths⟩
    exact ⟨hzones .fresh, hzones .chill, hzones .freeze, hpaths .fresh, hpaths .freeze⟩

theorem transitSafe_iff (s : State) :
    TransitSafe s ↔ ∀ z, (s.zone z).state = .transit ↔ z = .chill ∧ s.map.step ≠ none := by
  constructor
  · rintro ⟨hchill, hfresh, hfreeze⟩ z
    cases z
    · exact iff_of_false hfresh (by simp)
    · simpa [State.zone, PerZone.get] using hchill
    · exact iff_of_false hfreeze (by simp)
  · intro h
    exact ⟨by simpa [State.zone, PerZone.get] using h .chill, fun hf => by simpa using (h .fresh).1 hf,
      fun hf => by simpa using (h .freeze).1 hf⟩

/-- The state `t` is safe in its zones' records where `s` is. -/
structure State.KeepsZones (s t : State) : Prop where
  urgency : UrgencySafe s → UrgencySafe t
  transit : TransitSafe s → TransitSafe t

/-- All of the state that the two invariants speak of. -/
def State.zoneView (s : State) : PerZone ZoneRec × PerPath PathRec × Option TransitStep :=
  (s.eval.zones, s.eval.paths, s.map.step)

namespace State.KeepsZones

variable {s t u : State}

theorem refl (s : State) : s.KeepsZones s := ⟨id, id⟩

theorem trans (h : s.KeepsZones t) (h' : t.KeepsZones u) : s.KeepsZones u := ⟨h'.urgency ∘ h.urgency, h'.transit ∘ h.transit⟩

theorem of_view (h : t.zoneView = s.zoneView) : s.KeepsZones t := by
  simp only [zoneView, Prod.mk.injEq] at h
  obtain ⟨hzones, hpaths, hstep⟩ := h
  exact ⟨fun hs => by rwa [UrgencySafe, hzones, hpaths], fun hs => by rwa [TransitSafe, hzones, hstep]⟩

/-- A change that the invariants do not see, before the one that keeps them. -/
theorem after (h : t.KeepsZones u) (hview : t.zoneView = s.zoneView) : s.KeepsZones u := (of_view hview).trans h

end State.KeepsZones

/-! ### Steps 3 to 6 -/

/-- Steps 3 to 6 leave a record in range, whatever state and urgency they found (R44, R45). -/
theorem ZoneRec.SettlesTo.zoneSafe {r r' : ZoneRec} {call served second : Bool} (h : r.SettlesTo r' call served second)
    (hwait : r.waitAge ≤ 1800) (hgrace : r'.grace ≤ 600) : ZoneSafe r' := by
  have hurgency : r'.urgency = _ := congrArg Prod.fst (h.figures.trans (urgencyOf_eq ..))
  refine ⟨?range, fun hs => ?zero, ?wait, hgrace⟩
  case range => rw [hurgency]; split_ifs <;> simp
  case zero =>
    have hcalls : r'.calls = false := by rcases hs with hs | hs <;> simp [ZoneRec.calls, hs]
    rw [hurgency, if_pos hcalls]
  case wait => rw [h.wait, waitOf_eq]; split_ifs <;> omega

theorem ZoneRec.SettlesTo.transit_iff {r r' : ZoneRec} {call served second : Bool}
    (h : r.SettlesTo r' call served second) : r'.state = .transit ↔ r.state = .transit := by
  rw [h.state, stateOf_transit_iff]

/-! ### Steps on one zone's record -/

section OneZone

variable {s t : State} {z : Zone}

theorem State.StepsZone.urgencySafe (h : s.StepsZone t z) (hs : UrgencySafe s) (hz : ZoneSafe (t.zone z)) :
    UrgencySafe t := by
  rw [urgencySafe_iff] at hs ⊢
  obtain ⟨hzones, hpaths⟩ := hs
  refine ⟨fun y => ?_, fun p => ?_⟩
  · by_cases hy : y = z
    · rwa [hy]
    · rw [h.others y hy]; exact hzones y
  · rw [h.frame]; exact hpaths p

theorem State.StepsZone.transitSafe (h : s.StepsZone t z) (hs : TransitSafe s)
    (hz : (t.zone z).state = .transit ↔ (s.zone z).state = .transit) : TransitSafe t := by
  rw [transitSafe_iff] at hs ⊢
  intro y
  have hstep : t.map.step = s.map.step := by rw [h.frame]
  rw [hstep, ← hs y]
  by_cases hy : y = z
  · rwa [hy]
  · rw [h.others y hy]

theorem State.StepsZone.keepsZones (h : s.StepsZone t z) (hsafe : ZoneSafe (s.zone z) → ZoneSafe (t.zone z))
    (hstate : (t.zone z).state = .transit ↔ (s.zone z).state = .transit) : s.KeepsZones t :=
  ⟨fun hs => h.urgencySafe hs (hsafe (((urgencySafe_iff s).1 hs).1 z)), fun hs => h.transitSafe hs hstate⟩

theorem State.setZone_keepsZones (s : State) (z : Zone) (r : ZoneRec) (hsafe : ZoneSafe (s.zone z) → ZoneSafe r)
    (hstate : r.state = .transit ↔ (s.zone z).state = .transit) : s.KeepsZones (s.setZone z r) := by
  refine ((StepsZone.refl s z).setZone r).keepsZones ?_ ?_ <;> rwa [State.setZone_zone_self]

theorem State.settleZone_settlesTo (s : State) (rep : Option Report) (z : Zone) (afresh second : Bool) :
    ∃ call served, (s.zone z).SettlesTo ((s.settleZone rep z afresh second).zone z) call served second := by
  rw [State.settleZone, State.setZone_zone_self]
  exact ⟨_, _, ZoneRec.settlesTo_settled ..⟩

theorem State.settleZone_grace (s : State) (rep : Option Report) (z : Zone) (afresh second : Bool) :
    ((s.settleZone rep z afresh second).zone z).grace = (s.zone z).grace := by
  rw [State.settleZone, State.setZone_zone_self]
  rfl

/-- Steps 3 to 6 restore what earlier steps on the zone may have broken, its counts aside. -/
theorem State.StepsZone.settleZone_urgencySafe (h : s.StepsZone t z) (hs : UrgencySafe s)
    (hwait : (t.zone z).waitAge ≤ 1800) (hgrace : (t.zone z).grace ≤ 600) (rep : Option Report) (afresh second : Bool) :
    UrgencySafe (t.settleZone rep z afresh second) := by
  obtain ⟨call, served, hsettles⟩ := t.settleZone_settlesTo rep z afresh second
  exact (h.setZone _).urgencySafe hs (hsettles.zoneSafe hwait ((t.settleZone_grace ..).trans_le hgrace))

theorem State.settleZone_keepsZones (s : State) (rep : Option Report) (z : Zone) (afresh second : Bool) :
    s.KeepsZones (s.settleZone rep z afresh second) := by
  obtain ⟨call, served, hsettles⟩ := s.settleZone_settlesTo rep z afresh second
  exact ((StepsZone.refl s z).setZone _).keepsZones
    (fun ⟨_, _, hwait, hgrace⟩ => hsettles.zoneSafe hwait ((s.settleZone_grace ..).trans_le hgrace)) hsettles.transit_iff

theorem State.selectSource_keepsZones (s : State) (rep : Option Report) (z : Zone) (restart : Bool) :
    s.KeepsZones (s.selectSource rep z restart) := by
  refine (s.stepsZone_selectSource rep z restart).keepsZones ?_ ?_ <;> rw [State.selectSource_zone]
  exact id

theorem State.lowerGrace_keepsZones (s : State) (z : Zone) : s.KeepsZones (s.lowerGrace z) := by
  unfold State.lowerGrace
  split
  · exact .refl s
  · refine s.setZone_keepsZones z _ (fun ⟨hrange, hzero, hwait, hgrace⟩ => ⟨hrange, hzero, hwait, ?_⟩) Iff.rfl
    exact (Nat.sub_le ..).trans hgrace

theorem State.timed_keepsZones (s : State) (rep : Option Report) (z : Zone) (suppressed : Bool) :
    s.KeepsZones (s.timed rep z suppressed) := by
  have hsame := s.timed_sameButExcursions rep z suppressed
  refine (s.stepsZone_timed rep z suppressed).keepsZones ?_ ?_ <;> rw [hsame]
  exact id

theorem State.comply_keepsZones (s : State) (z : Zone) (f : Int) (tested suppressed : Bool) :
    s.KeepsZones (s.comply z f tested suppressed) := by
  obtain ⟨holds, time, l, hc, -⟩ := s.comply_eq z f tested suppressed
  exact .of_view (by rw [hc]; rfl)

end OneZone

/-! ### The end of an evaluation -/

theorem State.recomputePath_keepsZones (s : State) (p : Path) : s.KeepsZones (s.recomputePath p) := by
  refine ⟨fun hs => ?_, id⟩
  rw [urgencySafe_iff] at hs ⊢
  obtain ⟨hzones, hpaths⟩ := hs
  refine ⟨hzones, fun q => ?_⟩
  by_cases hq : q = p
  · obtain ⟨hurgency, -⟩ := s.recomputePath_pathFormed p
    rw [hq, hurgency]
    exact min_le_left ..
  · have hother : (s.recomputePath p).eval.paths.get q = s.eval.paths.get q := PerPath.get_set_other _ _ hq
    rw [hother]
    exact hpaths q

@[simp] theorem State.handUrgencies_zoneView (s : State) : s.handUrgencies.zoneView = s.zoneView := by
  simp [State.zoneView]

@[simp] theorem State.handDrawer_zoneView (s : State) (z : Zone) : (s.handDrawer z).zoneView = s.zoneView := by
  obtain ⟨l, hl⟩ := s.handDrawer_eq z
  rw [hl]
  rfl

theorem State.handOn_keepsZones (s : State) (z : Zone) : s.KeepsZones (s.handOn z) :=
  (KeepsZones.of_view (s.handDrawer_zoneView z)).trans <|
    (State.recomputePath_keepsZones _ _).trans <| .of_view (State.handUrgencies_zoneView _)

/-! ### The evaluations (R33, R34, R40, R47) -/

theorem State.settleAndHandOn_keepsZones (s : State) (z : Zone) :
    s.KeepsZones ((s.settleZone none z false false).handOn z) :=
  (s.settleZone_keepsZones ..).trans (State.handOn_keepsZones _ z)

theorem State.evaluateSecond_keepsZones (s : State) (z : Zone) (rep : Report) : s.KeepsZones (s.evaluateSecond z rep) := by
  rw [State.evaluateSecond_steps]
  have hread : s.KeepsZones (s.readBlindLen z) := .of_view rfl
  have hjudged : s.KeepsZones (s.secondJudged z rep) :=
    hread.trans <| (State.selectSource_keepsZones ..).trans <| (State.lowerGrace_keepsZones ..).trans <|
      State.settleZone_keepsZones ..
  exact hjudged.trans <| (State.timed_keepsZones ..).trans <| (State.comply_keepsZones ..).trans <|
    State.handOn_keepsZones ..

theorem State.evaluateHoldChange_keepsZones (s : State) (z : Zone) (g : Governing) :
    s.KeepsZones (s.evaluateHoldChange z g) := by
  have hstore : s.KeepsZones (s.setZone z ((s.zone z).store g)) := s.setZone_keepsZones z _ id Iff.rfl
  unfold State.evaluateHoldChange
  dsimp only
  split
  · exact hstore
  · exact hstore.trans (State.settleAndHandOn_keepsZones ..)

theorem graceAfter_le (e : DoorEvent) {grace : Nat} (h : grace ≤ 600) (anyOpen : Bool) :
    graceAfter e grace anyOpen ≤ 600 := by
  cases e with
  | open_ => exact Nat.zero_le _
  | ajar => exact h
  | close => cases anyOpen <;> simp [graceAfter, h]

theorem State.evaluateDoor_keepsZones (s : State) (z : Zone) (e : DoorEvent) : s.KeepsZones (s.evaluateDoor z e) := by
  let r := { s.zone z with
    doorPaused := s.pausedNow z, grace := graceAfter e (s.zone z).grace (s.anyDoorOpen z) }
  have hset : s.KeepsZones (s.setZone z r) := s.setZone_keepsZones z r
    (fun ⟨hrange, hzero, hwait, hgrace⟩ => ⟨hrange, hzero, hwait, graceAfter_le e hgrace _⟩) Iff.rfl
  exact hset.trans (State.settleAndHandOn_keepsZones ..)

theorem State.evaluateSchedule_keepsZones (s : State) (z : Zone) (half : BlindHalf) (due : Instant) :
    s.KeepsZones (s.evaluateSchedule z half due) := by
  have hturned (t : State) (hview : t.zoneView = s.zoneView) (hzone : t.zone z = s.zone z) :
      s.KeepsZones (t.setZone z (s.halfTurned z half due)) :=
    (KeepsZones.of_view hview).trans (t.setZone_keepsZones z _ (hzone ▸ id) (hzone ▸ Iff.rfl))
  exact (hturned (s.insertAt (.blindHalf z) _) rfl rfl).trans (State.settleAndHandOn_keepsZones ..)

/-! ### Into a transit and out of it (R53, R54, R112 to R118) -/

/-- The zone's record as the entry into TRANSIT leaves it (R53). -/
def ZoneRec.enterTransit (r : ZoneRec) : ZoneRec :=
  { r with state := .transit, waitAge := 0, urgency := 0, excess := 0, sat := false }

theorem State.keepsZones_enterTransit (s : State) :
    (s.setZone .chill (s.zone .chill).enterTransit).KeepsZones s.enterTransit := by
  unfold State.enterTransit
  dsimp only
  split <;> exact (KeepsZones.of_view rfl).trans <|
    (State.recomputePath_keepsZones _ _).trans <| .of_view (State.handUrgencies_zoneView _)

theorem State.enterTransit_urgencySafe {s : State} (hs : UrgencySafe s) : UrgencySafe s.enterTransit := by
  refine s.keepsZones_enterTransit.urgency (((StepsZone.refl s .chill).setZone _).urgencySafe hs ?_)
  obtain ⟨-, -, -, hgrace⟩ := ((urgencySafe_iff s).1 hs).1 .chill
  rw [State.setZone_zone_self]
  exact ⟨Nat.zero_le _, fun _ => rfl, Nat.zero_le _, hgrace⟩

theorem State.enterTransit_transitSafe {s : State} (hfresh : (s.zone .fresh).state ≠ .transit)
    (hfreeze : (s.zone .freeze).state ≠ .transit) (hstep : s.map.step ≠ none) : TransitSafe s.enterTransit :=
  s.keepsZones_enterTransit.transit ⟨iff_of_true rfl hstep, hfresh, hfreeze⟩

/-- The state of CHILL's record as the end of TRANSIT finds it, the source chosen anew. -/
def State.leftTransit (s : State) : State :=
  (s.setZone .chill ((s.zone .chill).leaveTransit (s.governing .chill))).selectSource none .chill true

theorem State.keepsZones_evaluateEndOfTransit (s : State) :
    (s.leftTransit.settleZone none .chill false false).KeepsZones s.evaluateEndOfTransit :=
  (KeepsZones.of_view (State.handDrawer_zoneView _ _)).trans <| (State.recomputePath_keepsZones _ _).trans <|
    (State.recomputePath_keepsZones _ _).trans <| .of_view (State.handUrgencies_zoneView _)

theorem ZoneRec.leaveTransit_counts (r : ZoneRec) (g : Option Governing) :
    (r.leaveTransit g).waitAge = r.waitAge ∧ (r.leaveTransit g).grace = r.grace := by
  cases g <;> exact ⟨rfl, rfl⟩

theorem State.evaluateEndOfTransit_urgencySafe {s : State} (hs : UrgencySafe s) : UrgencySafe s.evaluateEndOfTransit := by
  have hsteps : s.StepsZone s.leftTransit .chill :=
    ((StepsZone.refl s .chill).setZone _).trans (State.stepsZone_selectSource ..)
  obtain ⟨hwait, hgrace⟩ := (s.zone .chill).leaveTransit_counts (s.governing .chill)
  obtain ⟨-, -, hwaits, hgraces⟩ := ((urgencySafe_iff s).1 hs).1 .chill
  refine s.keepsZones_evaluateEndOfTransit.urgency (hsteps.settleZone_urgencySafe hs ?_ ?_ ..) <;>
    rw [State.leftTransit, State.selectSource_zone, State.setZone_zone_self]
  · exact hwait.trans_le hwaits
  · exact hgrace.trans_le hgraces

theorem State.evaluateEndOfTransit_transitSafe {s : State} (hfresh : (s.zone .fresh).state ≠ .transit)
    (hfreeze : (s.zone .freeze).state ≠ .transit) (hstep : s.map.step = none) :
    TransitSafe s.evaluateEndOfTransit := by
  have hleft : TransitSafe (s.setZone .chill ((s.zone .chill).leaveTransit (s.governing .chill))) :=
    ⟨iff_of_false (by simp [PerZone.set, State.setZone, ZoneRec.leaveTransit]) (not_not.2 hstep), hfresh, hfreeze⟩
  exact s.keepsZones_evaluateEndOfTransit.transit <|
    (State.settleZone_keepsZones ..).transit ((State.selectSource_keepsZones ..).transit hleft)

end Sys2Proof.Machine
end

section
/-! What the two invariants of the zone records do not see: the operations of the other blocks. -/

namespace Sys2Proof.Machine

open Sys2Proof.Safety

/-! ### The blocks and the operations on them that everything else is made of -/

section Blocks

variable (s : State)

@[simp] theorem State.setHolds_zoneView (x : HoldTable) : (s.setHolds x).zoneView = s.zoneView := rfl
@[simp] theorem State.setMeas_zoneView (x : Measurement) : (s.setMeas x).zoneView = s.zoneView := rfl
@[simp] theorem State.setDoors_zoneView (x : Doors) : (s.setDoors x).zoneView = s.zoneView := rfl
@[simp] theorem State.setArb_zoneView (x : Arbiter) : (s.setArb x).zoneView = s.zoneView := rfl
@[simp] theorem State.setDrive_zoneView (x : DriveLink) : (s.setDrive x).zoneView = s.zoneView := rfl
@[simp] theorem State.setDefrost_zoneView (x : Defrost) : (s.setDefrost x).zoneView = s.zoneView := rfl
@[simp] theorem State.setAir_zoneView (x : Air) : (s.setAir x).zoneView = s.zoneView := rfl
@[simp] theorem State.setTime_zoneView (x : Timebase) : (s.setTime x).zoneView = s.zoneView := rfl
@[simp] theorem State.setLink_zoneView (x : LinkPort) : (s.setLink x).zoneView = s.zoneView := rfl
@[simp] theorem State.setNotice_zoneView (x : NoticeUnit) : (s.setNotice x).zoneView = s.zoneView := rfl
@[simp] theorem State.setStore_zoneView (x : Store) : (s.setStore x).zoneView = s.zoneView := rfl
@[simp] theorem State.setEvents_zoneView (x : List Handoff) : (s.setEvents x).zoneView = s.zoneView := rfl
@[simp] theorem State.hand_zoneView (x : Handoff) : (s.hand x).zoneView = s.zoneView := rfl
@[simp] theorem State.raiseNotice_zoneView (n : Notice) : (s.raiseNotice n).zoneView = s.zoneView := rfl
@[simp] theorem State.insertAt_zoneView (k : DeadlineKey) (due : Instant) : (s.insertAt k due).zoneView = s.zoneView := rfl
@[simp] theorem State.insertAfter_zoneView (k : DeadlineKey) (n : Nat) : (s.insertAfter k n).zoneView = s.zoneView := rfl
@[simp] theorem State.removeDeadline_zoneView (k : DeadlineKey) : (s.removeDeadline k).zoneView = s.zoneView := rfl
@[simp] theorem State.setDoor_zoneView (d : Door) (r : DoorRec) : (s.setDoor d r).zoneView = s.zoneView := rfl
@[simp] theorem State.handDoor_zoneView (d : Door) (e : DoorEvent) : (s.handDoor d e).zoneView = s.zoneView := rfl
@[simp] theorem State.setRx_zoneView (rx : RxState) : (s.setRx rx).zoneView = s.zoneView := rfl
@[simp] theorem State.endStore_zoneView (w : StoreWrite) : (s.endStore w).zoneView = s.zoneView := rfl

end Blocks

/-- An operation that leaves the evaluator and the zone map alone. -/
theorem State.zoneView_congr {s t : State} (heval : t.eval = s.eval) (hmap : t.map = s.map) :
    t.zoneView = s.zoneView := by rw [State.zoneView, heval, hmap]; rfl

/-! ### Air handler -/

@[simp] theorem State.recomputeAir_zoneView (s : State) : s.recomputeAir.zoneView = s.zoneView :=
  zoneView_congr (by simp) (by simp)

@[simp] theorem State.reportValve_zoneView (s : State) : s.reportValve.zoneView = s.zoneView :=
  zoneView_congr (by simp) (by simp)

@[simp] theorem State.takeValve_zoneView (s : State) : s.takeValve.zoneView = s.zoneView :=
  zoneView_congr (by simp) (by simp)

@[simp] theorem State.airTake_zoneView (s : State) (w : AirWork) : (s.airTake w).zoneView = s.zoneView := by
  cases w <;> exact zoneView_congr (by simp [State.airTake]) (by simp [State.airTake])

@[simp] theorem State.valveHomed_zoneView (s : State) : s.valveHomed.zoneView = s.zoneView := by
  unfold State.valveHomed
  split <;> simp

/-! ### Path arbiter -/

@[simp] theorem State.changePath_zoneView (s : State) (p : PathState) : (s.changePath p).zoneView = s.zoneView :=
  zoneView_congr (by simp) (by simp)

@[simp] theorem State.review_zoneView (s : State) : s.review.zoneView = s.zoneView :=
  zoneView_congr (by simp) (by simp)

@[simp] theorem State.takeSag_zoneView (s : State) : s.takeSag.zoneView = s.zoneView :=
  zoneView_congr (by simp) (by simp)

@[simp] theorem State.takeFault_zoneView (s : State) : s.takeFault.zoneView = s.zoneView :=
  zoneView_congr (by simp) (by simp)

@[simp] theorem State.restore_zoneView (s : State) : s.restore.zoneView = s.zoneView :=
  zoneView_congr (by simp) (by simp)

@[simp] theorem State.runOn_zoneView (s : State) (p : Path) : (s.runOn p).zoneView = s.zoneView :=
  zoneView_congr (by simp) (by simp)

@[simp] theorem State.stopToOff_zoneView (s : State) : s.stopToOff.zoneView = s.zoneView :=
  zoneView_congr (by simp) (by simp)

@[simp] theorem State.completeStart_zoneView (s : State) (p : Path) : (s.completeStart p).zoneView = s.zoneView :=
  zoneView_congr (by simp) (by simp)

@[simp] theorem State.valveArrives_zoneView (s : State) (pos : Nat) : (s.valveArrives pos).zoneView = s.zoneView := by
  unfold State.valveArrives
  split
  · split <;> simp
  · simp

@[simp] theorem State.endPumpdown_zoneView (s : State) : s.endPumpdown.zoneView = s.zoneView := by
  unfold State.endPumpdown
  split <;> simp

@[simp] theorem State.retarget_zoneView (s : State) : s.retarget.zoneView = s.zoneView :=
  zoneView_congr (by simp) (by simp)

@[simp] theorem State.slewSpeed_zoneView (s : State) : s.slewSpeed.zoneView = s.zoneView := by
  unfold State.slewSpeed
  split <;> simp

@[simp] theorem State.takeNormal_zoneView (s : State) : s.takeNormal.zoneView = s.zoneView := by
  unfold State.takeNormal
  split <;> simp

@[simp] theorem State.recover_zoneView (s : State) : s.recover.zoneView = s.zoneView := by
  unfold State.recover
  split <;> simp

@[simp] theorem State.clearLockout_zoneView (s : State) : s.clearLockout.zoneView = s.zoneView := by
  unfold State.clearLockout
  dsimp only
  split <;> simp

/-! ### Drive link -/

@[simp] theorem State.judgeSilence_zoneView (s : State) : s.judgeSilence.zoneView = s.zoneView := by
  unfold State.judgeSilence
  split <;> simp

@[simp] theorem State.countRunSecond_zoneView (s : State) : s.countRunSecond.zoneView = s.zoneView := by
  unfold State.countRunSecond
  split
  · split <;> simp
  · rfl

@[simp] theorem State.sendDrive_zoneView (s : State) : s.sendDrive.zoneView = s.zoneView := rfl

@[simp] theorem State.takeStatus_zoneView (s : State) (seq actual code check : Byte) :
    (s.takeStatus seq actual code check).zoneView = s.zoneView := by
  unfold State.takeStatus
  split
  · dsimp only
    split <;> simp
  · rfl

@[simp] theorem State.driveByte_zoneView (s : State) (b : Byte) : (s.driveByte b).zoneView = s.zoneView := by
  unfold State.driveByte
  split
  · split <;> simp
  all_goals simp

/-! ### Defrost controller -/

@[simp] theorem State.compareInterval_zoneView (s : State) : s.compareInterval.zoneView = s.zoneView :=
  zoneView_congr (by simp) (by simp)

@[simp] theorem State.enterPrechill_zoneView (s : State) : s.enterPrechill.zoneView = s.zoneView :=
  zoneView_congr (by simp) (by simp)

@[simp] theorem State.enterPending_zoneView (s : State) : s.enterPending.zoneView = s.zoneView :=
  zoneView_congr (by simp) (by simp)

@[simp] theorem State.enterIdle_zoneView (s : State) : s.enterIdle.zoneView = s.zoneView :=
  zoneView_congr (by simp) (by simp)

@[simp] theorem State.enterHeat_zoneView (s : State) : s.enterHeat.zoneView = s.zoneView :=
  zoneView_congr (by simp) (by simp)

@[simp] theorem State.enterRelease_zoneView (s : State) : s.enterRelease.zoneView = s.zoneView :=
  zoneView_congr (by simp) (by simp)

@[simp] theorem State.enterRecover_zoneView (s : State) : s.enterRecover.zoneView = s.zoneView :=
  zoneView_congr (by simp) (by simp)

@[simp] theorem State.endRecover_zoneView (s : State) : s.endRecover.zoneView = s.zoneView :=
  zoneView_congr (by simp) (by simp)

@[simp] theorem State.endHeat_zoneView (s : State) (how : HeatEnd) : (s.endHeat how).zoneView = s.zoneView :=
  zoneView_congr (by simp) (by simp)

@[simp] theorem State.startRecovery_zoneView (s : State) : s.startRecovery.zoneView = s.zoneView :=
  zoneView_congr (by simp) (by simp)

@[simp] theorem State.endRecovery_zoneView (s : State) : s.endRecovery.zoneView = s.zoneView :=
  zoneView_congr (by simp) (by simp)

@[simp] theorem State.giveUpDefrost_zoneView (s : State) : s.giveUpDefrost.zoneView = s.zoneView := by
  simp [State.giveUpDefrost]

@[simp] theorem State.countFrost_zoneView (s : State) : s.countFrost.zoneView = s.zoneView := by
  unfold State.countFrost
  split <;> simp

@[simp] theorem State.heatTest_zoneView (s : State) (r : Report) : (s.heatTest r).zoneView = s.zoneView := by
  unfold State.heatTest
  split
  · rfl
  · split <;> simp

@[simp] theorem State.takeS4_zoneView (s : State) (r : Report) : (s.takeS4 r).zoneView = s.zoneView := by
  unfold State.takeS4
  dsimp only
  split
  · simp
  · simp
  · split <;> simp
  · simp

@[simp] theorem State.takePhaseChange_zoneView (s : State) (b : Bool) : (s.takePhaseChange b).zoneView = s.zoneView := by
  unfold State.takePhaseChange
  split
  · split <;> simp
  · split <;> simp
  · rfl

/-! ### Door unit, measurement unit, link port -/

@[simp] theorem State.sampleDoor_zoneView (s : State) (d : Door) (x : Level) : (s.sampleDoor d x).zoneView = s.zoneView := by
  unfold State.sampleDoor
  dsimp only
  split
  · cases x <;> rfl
  · rfl

@[simp] theorem State.reportToZone_zoneView (s : State) (c : Channel) (z : Zone) :
    (s.reportToZone c z).zoneView = s.zoneView := by
  unfold State.reportToZone
  split <;> simp

@[simp] theorem State.report_zoneView (s : State) (c : Channel) : (s.report c).zoneView = s.zoneView := by
  unfold State.report State.reportToOthers
  split <;> simp

@[simp] theorem State.completeFrame_zoneView (s : State) (len : Nat) (got : List Byte) :
    (s.completeFrame len got).zoneView = s.zoneView := by
  unfold State.completeFrame
  split
  · rfl
  · split <;> rfl

@[simp] theorem State.lengthFrame_zoneView (s : State) : s.lengthFrame.zoneView = s.zoneView := by
  unfold State.lengthFrame
  split <;> rfl

@[simp] theorem State.receive_zoneView (s : State) (b : Byte) : (s.receive b).zoneView = s.zoneView := by
  unfold State.receive
  split
  · split <;> simp
  · split <;> simp
  · split <;> simp
  · rfl

/-! ### Hold table and zone map -/

@[simp] theorem State.lapse_zoneView (s : State) (i : Nat) (cause : LapseCause) : (s.lapse i cause).zoneView = s.zoneView :=
  zoneView_congr (by simp) (by simp)

@[simp] theorem State.resolve_zoneView (s : State) (z : Zone) : (s.resolve z).zoneView = s.zoneView := rfl

@[simp] theorem State.handChange_zoneView (s : State) (z : Zone) (before : Option Governing) :
    (s.handChange z before).zoneView = s.zoneView := zoneView_congr (by simp) (by simp)

theorem State.regovern_zoneView (s : State) (z : Zone) {change : State → State}
    (h : (change s).zoneView = s.zoneView) : (s.regovern z change).zoneView = s.zoneView := by
  simpa [State.regovern] using h

@[simp] theorem holdOpen_zoneView (s : State) (zone kind : Byte) (target : Half) (halfBand priority flags : Byte)
    (minutes : Half) (floor : Byte) :
    (holdOpen zone kind target halfBand priority flags minutes floor s).1.zoneView = s.zoneView := by
  unfold holdOpen
  split
  · split_ifs
    · rfl
    · rfl
    · rfl
    · split
      · rfl
      · rw [State.openHold_state]
        exact s.regovern_zoneView _ rfl
  · rfl

theorem State.amendPriority_zoneView (s : State) (h : Hold) (mask priority : Byte) :
    (s.amendPriority h mask priority).1.zoneView = s.zoneView := by
  unfold State.amendPriority
  dsimp only
  split_ifs <;> rfl

theorem State.amendExpiry_zoneView (s : State) (h : Hold) (mask : Byte) (minutes : Half) :
    (s.amendExpiry h mask minutes).1.zoneView = s.zoneView := by
  unfold State.amendExpiry
  split
  · dsimp only
    split <;> rfl
  · rfl

theorem State.amendHold_zoneView (s : State) (h : Hold) (mask : Byte) (target : Half) (halfBand priority : Byte)
    (minutes : Half) (floor reach : Byte) :
    (s.amendHold h mask target halfBand priority minutes floor reach).1.zoneView = s.zoneView := by
  unfold State.amendHold
  dsimp only
  refine s.regovern_zoneView _ ?_
  split <;> simp [State.amendPriority_zoneView, State.amendExpiry_zoneView]

@[simp] theorem holdAmend_zoneView (s : State) (slot gen mask : Byte) (target : Half) (halfBand priority : Byte)
    (minutes : Half) (floor reach : Byte) :
    (holdAmend slot gen mask target halfBand priority minutes floor reach s).1.zoneView = s.zoneView := by
  unfold holdAmend
  split
  · rfl
  · split_ifs
    iterate 4 rfl
    exact s.amendHold_zoneView ..

@[simp] theorem holdRetire_zoneView (s : State) (slot gen : Byte) : (holdRetire slot gen s).1.zoneView = s.zoneView := by
  unfold holdRetire
  split
  · rfl
  · split
    · rfl
    · dsimp only
      exact s.regovern_zoneView _ (by simp)

theorem State.lapseAtCommit_zoneView (s : State) (l : List Nat) : (s.lapseAtCommit l).zoneView = s.zoneView := by
  induction l generalizing s with
  | nil => rfl
  | cons i is ih =>
    unfold State.lapseAtCommit
    split
    · exact ih s
    · split
      · rw [ih, State.lapse_zoneView]
      · exact ih s

theorem State.commitHolds_zoneView (s : State) (r : Regime) : (s.commitHolds r).zoneView = s.zoneView := by
  unfold State.commitHolds State.retargetChillBase
  split <;> simp [State.lapseAtCommit_zoneView]

@[simp] theorem mapSet_zoneView (s : State) (zone regime fallback : Byte) (offset : Half) :
    (mapSet zone regime fallback offset s).1.zoneView = s.zoneView := by
  have hstep (z : Zone) (r : Regime) (p : Fallback) : (s.map.storePair z r p).step = s.map.step := by cases z <;> rfl
  unfold mapSet
  split
  · rfl
  · split
    · rfl
    · split
      · rfl
      · split
        · rfl
        · simp [State.zoneView, hstep]

/-! ### The other requests -/

@[simp] theorem correctionSet_zoneView (s : State) (slot op channel index : Byte) (value : Half) :
    (correctionSet slot op channel index value s).1.zoneView = s.zoneView := by
  have hwrite (i : Nat) (k : Option Correction) : (s.writeCorrection i k).1.zoneView = s.zoneView := by
    unfold State.writeCorrection
    dsimp only
    split <;> rfl
  unfold correctionSet
  split
  · rfl
  · split
    · exact hwrite ..
    · split
      · rfl
      · dsimp only
        split_ifs
        iterate 3 rfl
        exact hwrite ..

@[simp] theorem doorQuery_zoneView (s : State) (door clear : Byte) : (doorQuery door clear s).1.zoneView = s.zoneView := by
  unfold doorQuery
  split <;> simp

@[simp] theorem defrostNow_zoneView (s : State) : (defrostNow s).1.zoneView = s.zoneView := by
  unfold defrostNow
  split <;> simp

@[simp] theorem defrostCancel_zoneView (s : State) : (defrostCancel s).1.zoneView = s.zoneView := by
  unfold defrostCancel
  split <;> simp

@[simp] theorem clearLockout_zoneView (s : State) : (clearLockout s).1.zoneView = s.zoneView := by
  unfold clearLockout
  split <;> simp

@[simp] theorem noticeNext_zoneView (s : State) : (noticeNext s).1.zoneView = s.zoneView := by
  unfold noticeNext
  split <;> simp

theorem State.writeSetting_zoneView {s t : State} {i : SettingItem} {v : Int} {clamped : Bool}
    (hw : s.writeSetting i v = some (t, clamped)) : t.zoneView = s.zoneView := by
  cases i <;> cases hw
  case weight z => exact State.handChange_zoneView _ z _
  case interval => exact State.compareInterval_zoneView _
  all_goals rfl

@[simp] theorem settingsWrite_zoneView (s : State) (item : Byte) (value : Quad) :
    (settingsWrite item value s).1.zoneView = s.zoneView := by
  unfold settingsWrite
  split
  · rfl
  · split
    · rfl
    · next hw => exact State.writeSetting_zoneView hw

@[simp] theorem settingsStore_zoneView (s : State) : (settingsStore s).1.zoneView = s.zoneView := by
  unfold settingsStore
  split <;> rfl

/-! ### The clock -/

@[simp] theorem State.entryFallsDue_zoneView (s : State) : s.entryFallsDue.zoneView = s.zoneView := by
  unfold State.entryFallsDue
  split
  · rfl
  · split <;> rfl

@[simp] theorem State.tickClock_zoneView (s : State) : s.tickClock.zoneView = s.zoneView := by
  unfold State.tickClock
  split_ifs <;> rfl

end Sys2Proof.Machine
end

section
/-! The invariants of the zone records (R45, R31, R112) are kept by every command and by every step. -/

namespace Sys2Proof.Machine

open Sys2Proof.Safety

/-! ### The regime change (R112 to R118) -/

@[simp] theorem State.commitChillHolds_zoneView (s : State) (startUp : Bool) :
    (s.commitChillHolds startUp).zoneView = s.zoneView := by
  cases startUp with
  | true => rfl
  | false => exact s.commitHolds_zoneView _

/-- A commit ends the transit, whatever its step and CHILL's record were. -/
theorem State.commitRegime_keepsZones (s : State) : s.KeepsZones s.commitRegime := by
  obtain ⟨u, hu⟩ : ∃ u, ((s.setMap s.map.committed).commitChillHolds s.map.startUp).withdrawChillChange = u := ⟨_, rfl⟩
  have hview : u.zoneView = (s.setMap s.map.committed).zoneView := by
    rw [← hu]
    exact State.commitChillHolds_zoneView _ _
  have hend : u.evaluateEndOfTransit.KeepsZones s.commitRegime := by
    refine .of_view ?_
    unfold State.commitRegime
    dsimp only
    rw [hu]
    have hair := u.evaluateEndOfTransit.recomputeAir_zoneView
    generalize u.evaluateEndOfTransit.recomputeAir = v at hair ⊢
    rw [← hair]
    split <;> rfl
  simp only [State.zoneView, Prod.mk.injEq] at hview
  obtain ⟨hzones, hpaths, hstep⟩ := hview
  refine ⟨fun hs => hend.urgency (State.evaluateEndOfTransit_urgencySafe ?_), fun ⟨_, hfresh, hfreeze⟩ =>
    hend.transit (State.evaluateEndOfTransit_transitSafe ?_ ?_ hstep)⟩
  · rwa [UrgencySafe, hzones, hpaths]
  · rwa [State.zone, hzones]
  · rwa [State.zone, hzones]

theorem State.setMap_keepsZones (s : State) {m : ZoneMap} (h : m.step = none ↔ s.map.step = none) :
    s.KeepsZones (s.setMap m) :=
  ⟨id, fun ⟨hchill, hfresh, hfreeze⟩ => ⟨hchill.trans (not_congr h.symm), hfresh, hfreeze⟩⟩

theorem State.enterFlap_keepsZones (s : State) (hstep : s.map.step ≠ none) : s.KeepsZones s.enterFlap := by
  have hflap : s.KeepsZones (s.setMap { s.map with step := some .flap }) :=
    s.setMap_keepsZones (iff_of_false (Option.some_ne_none _) hstep)
  unfold State.enterFlap
  dsimp only
  split
  · exact hflap.trans (State.commitRegime_keepsZones _)
  · exact hflap.trans (.of_view (State.recomputeAir_zoneView _))

theorem State.closingEnds_keepsZones (s : State) : s.KeepsZones s.closingEnds := by
  unfold State.closingEnds
  split
  · next h => exact s.enterFlap_keepsZones (h.1 ▸ Option.some_ne_none _)
  · exact .refl s

theorem State.beginRegime_keepsZones (s : State) (r : Regime) : s.KeepsZones (s.beginRegime r) := by
  obtain ⟨u, hu⟩ : ∃ u, s.setMap { s.map with
    target := some r, shadow := s.writeShadow r, step := some .closing, startUp := false } = u := ⟨_, rfl⟩
  have hin : s.KeepsZones u.enterTransit := by
    subst hu
    exact ⟨fun hs => State.enterTransit_urgencySafe hs, fun ⟨_, hfresh, hfreeze⟩ =>
      State.enterTransit_transitSafe hfresh hfreeze (Option.some_ne_none _)⟩
  have hbegin : s.beginRegime r = u.enterTransit.recomputeAir.closingEnds := by rw [← hu]; rfl
  rw [hbegin]
  exact hin.trans <| (KeepsZones.of_view (State.recomputeAir_zoneView _)).trans (State.closingEnds_keepsZones _)

theorem State.flapArrives_keepsZones (s : State) (dest : Path) : s.KeepsZones (s.flapArrives dest) := by
  unfold State.flapArrives
  refine .trans ?_ (.of_view (State.recomputeAir_zoneView _))
  dsimp only
  split
  · exact (State.commitRegime_keepsZones _).after rfl
  · exact .of_view rfl

theorem State.damperHomed_keepsZones (s : State) : s.KeepsZones s.damperHomed := by
  unfold State.damperHomed
  split
  · exact (State.closingEnds_keepsZones _).after rfl
  · exact .of_view rfl

/-! ### Start-up, the clock, and the taking of what is in flight -/

/-- Start-up leaves every urgency 0 and CHILL in TRANSIT, with the transit step of a closing flap (R32, R121). -/
theorem State.startUp_keepsZones (s : State) (straps : Straps) (lockout : Bool) (faults : Nat) :
    s.KeepsZones (s.startUp straps lockout faults) := by
  have hreset (st : ZoneState) (slot : Nat) (t h : Int) (weight : Nat) : ZoneSafe (resetZone st slot t h weight) :=
    ⟨Nat.zero_le _, fun _ => rfl, Nat.zero_le _, Nat.zero_le _⟩
  exact ⟨fun _ => ⟨hreset .., hreset .., hreset .., Nat.zero_le _, Nat.zero_le _⟩,
    fun _ => ⟨iff_of_true rfl (Option.some_ne_none _), ZoneState.noConfusion, ZoneState.noConfusion⟩⟩

theorem State.idle_keepsZones (s : State) : s.KeepsZones s.idle := by
  unfold State.idle
  split
  · exact .of_view (by simp)
  · split
    · exact s.flapArrives_keepsZones _
    · split <;> exact .of_view (by simp)

section Taking

variable {s : State}

theorem State.takeEvent_keepsZones {α : Type} {p : Handoff → Option α} {f : α → State → State}
    (hf : ∀ a (s1 : State), s1.KeepsZones (f a s1)) : s.KeepsZones (s.takeEvent p f) := by
  unfold State.takeEvent
  split
  · exact .refl s
  · exact (hf _ _).after rfl

theorem State.deliver_keepsZones {k : DeadlineKey} {f : Instant → State → State}
    (hf : ∀ due (s1 : State), s1.KeepsZones (f due s1)) : s.KeepsZones (s.deliver k f) := by
  obtain he | ⟨d, -, -, he⟩ := s.deliver_cases k f
  · rw [he]
    exact .refl s
  · rw [he]
    exact (hf _ _).after rfl

theorem State.serve_keepsZones {code : List Byte} {act : State → State × Reply}
    (hact : ∀ (s1 : State), s1.KeepsZones (act s1).1) : s.KeepsZones (s.serve code act) := by
  have hlink (l : LinkPort) : s.KeepsZones (s.setLink l) := .of_view rfl
  have hreply (t : State) (r : Reply) : t.KeepsZones (t.formReply r) := .of_view rfl
  unfold State.serve
  split
  · exact ((hlink _).trans (hact _)).trans (hreply _ _)
  · split
    · exact ((hlink _).trans (hact _)).trans (hreply _ _)
    · exact hlink _

/-- A request whose answer leaves the zones' records alone. -/
theorem State.serve_keepsZones_of_view {code : List Byte} {act : State → State × Reply}
    (hact : ∀ (s1 : State), (act s1).1.zoneView = s1.zoneView) : s.KeepsZones (s.serve code act) :=
  serve_keepsZones fun s1 => .of_view (hact s1)

theorem State.takeEvent_keepsZones_of_view {α : Type} {p : Handoff → Option α} {f : α → State → State}
    (hf : ∀ a (s1 : State), (f a s1).zoneView = s1.zoneView) : s.KeepsZones (s.takeEvent p f) :=
  takeEvent_keepsZones fun a s1 => .of_view (hf a s1)

theorem State.deliver_keepsZones_of_view {k : DeadlineKey} {f : Instant → State → State}
    (hf : ∀ due (s1 : State), (f due s1).zoneView = s1.zoneView) : s.KeepsZones (s.deliver k f) :=
  deliver_keepsZones fun due s1 => .of_view (hf due s1)

end Taking

theorem regimeSet_keepsZones (regime : Byte) (s : State) : s.KeepsZones (regimeSet regime s).1 := by
  unfold regimeSet
  split
  · exact .refl s
  · split
    · exact .refl s
    · split
      · exact .refl s
      · exact s.beginRegime_keepsZones _

/-! ### Every command -/

/-- Where the outcome is a next state, the zones' records are safe there if they are in `s`. -/
def State.ZonesKept (s : State) (o : Host.Outcome State Fault Refusal) : Prop := ∀ t, o = .next t → s.KeepsZones t

theorem State.ZonesKept.next {s t : State} (ht : s.KeepsZones t) : s.ZonesKept (.next t) := fun _ he => by cases he; exact ht

section Commands

variable (s : State)

theorem execUptimeWrapRestart_zonesKept (straps : Straps) : s.ZonesKept (execUptimeWrapRestart straps s) := by
  refine .next ?_
  split
  · exact s.startUp_keepsZones ..
  · exact .refl s

theorem execReplySent_zonesKept (straps : Straps) : s.ZonesKept (execReplySent straps s) := by
  refine .next ?_
  split
  · split
    · exact s.startUp_keepsZones ..
    · exact .of_view rfl
  · exact .refl s

theorem execBlindHalf_zonesKept (z : Zone) : s.ZonesKept (execBlindHalf z s) := by
  refine .next (State.deliver_keepsZones fun due s1 => ?_)
  split
  · exact s1.evaluateSchedule_keepsZones ..
  · exact .refl s1

theorem execDoorChangeEvaluation_zonesKept (d : Door) : s.ZonesKept (execDoorChangeEvaluation d s) := by
  refine .next (State.takeEvent_keepsZones fun e s1 => ?_)
  split
  · exact s1.evaluateDoor_keepsZones ..
  · exact .refl s1

theorem execDamperArrival_zonesKept : s.ZonesKept (execDamperArrival s) := by
  refine .next ?_
  split
  · exact (State.closingEnds_keepsZones _).after rfl
  · exact .refl s

theorem execFlapArrival_zonesKept : s.ZonesKept (execFlapArrival s) := by
  refine .next ?_
  split
  · exact s.flapArrives_keepsZones _
  · exact .refl s

theorem execHomingEnd_zonesKept (m : HomingMotor) : s.ZonesKept (execHomingEnd m s) := by
  refine .next ?_
  split
  · split
    · exact .of_view (by simp)
    · exact .refl s
  · split
    · exact s.damperHomed_keepsZones
    · exact .refl s
  · exact .refl s

theorem execHoldExpiry_zonesKept (slot : Nat) : s.ZonesKept (execHoldExpiry slot s) := by
  refine .next (State.deliver_keepsZones_of_view fun due s1 => ?_)
  split
  · rfl
  · exact s1.regovern_zoneView _ (by simp)

theorem execStoreWriteEnd_zonesKept : s.ZonesKept (execStoreWriteEnd s) := by
  refine .next (.of_view ?_)
  split <;> simp

theorem execFrameRefused_zonesKept (why : FrameRefusal) : s.ZonesKept (execFrameRefused why s) := by
  refine .next (.of_view ?_)
  cases why <;> split <;> rfl

theorem execOverrun_zonesKept : s.ZonesKept (execOverrun s) := by
  refine .next (.of_view ?_)
  split <;> rfl

theorem execFramingError_zonesKept : s.ZonesKept (execFramingError s) := by
  refine .next (.of_view ?_)
  split <;> simp

theorem execReplyStart_zonesKept : s.ZonesKept (execReplyStart s) := by
  refine .next (.of_view ?_)
  split <;> rfl

theorem execChannelConversion_zonesKept (c : Channel) (count : Nat) : s.ZonesKept (execChannelConversion c count s) := by
  refine .next (.of_view ?_)
  rw [State.report_zoneView]
  split <;> rfl

theorem execDoorAjar_zonesKept (d : Door) : s.ZonesKept (execDoorAjar d s) := by
  refine .next (State.deliver_keepsZones_of_view fun due s1 => ?_)
  split <;> simp

theorem execFanDelay_zonesKept : s.ZonesKept (execFanDelay s) := by
  refine .next (State.deliver_keepsZones_of_view fun due s1 => ?_)
  split <;> simp

theorem execValveArrival_zonesKept : s.ZonesKept (execValveArrival s) := by
  refine .next (.of_view ?_)
  split <;> simp

theorem execReleaseEnd_zonesKept : s.ZonesKept (execReleaseEnd s) := by
  refine .next (State.takeEvent_keepsZones_of_view fun e s1 => ?_)
  split <;> simp

theorem execPumpdownStage_zonesKept : s.ZonesKept (execPumpdownStage s) := by
  refine .next ?_
  split
  · exact State.deliver_keepsZones_of_view fun _ s1 => by simp
  · exact .refl s

theorem execHoldoffStage_zonesKept : s.ZonesKept (execHoldoffStage s) := by
  refine .next ?_
  split
  · exact State.deliver_keepsZones_of_view fun _ s1 => by simp
  · exact .refl s

theorem execRecoveryStage_zonesKept : s.ZonesKept (execRecoveryStage s) := by
  refine .next ?_
  split
  · exact State.deliver_keepsZones_of_view fun _ s1 => by simp
  · exact .refl s

theorem execDriveLinkTick_zonesKept : s.ZonesKept (execDriveLinkTick s) := by
  refine .next (.of_view ?_)
  simp

theorem execMainsSample_zonesKept (count : Nat) : s.ZonesKept (execMainsSample count s) := by
  refine .next (.of_view ?_)
  split <;> simp

theorem execArbiterSag_zonesKept : s.ZonesKept (execArbiterSag s) := by
  refine .next (.of_view ?_)
  split <;> simp

theorem execArbiterNormal_zonesKept : s.ZonesKept (execArbiterNormal s) := by
  refine .next (.of_view ?_)
  split <;> simp

theorem execArbiterChangeToDefrost_zonesKept : s.ZonesKept (execArbiterChangeToDefrost s) := by
  refine .next (State.takeEvent_keepsZones_of_view fun e s1 => ?_)
  split <;> simp

theorem execPendingLimit_zonesKept : s.ZonesKept (execPendingLimit s) := by
  refine .next (State.deliver_keepsZones_of_view fun due s1 => ?_)
  split <;> simp

theorem execPrechillPhaseExpiry_zonesKept : s.ZonesKept (execPrechillPhaseExpiry s) := by
  refine .next ?_
  split
  · exact State.deliver_keepsZones_of_view fun _ s1 => by simp
  · exact .refl s

theorem execHeatPhaseExpiry_zonesKept : s.ZonesKept (execHeatPhaseExpiry s) := by
  refine .next ?_
  split
  · exact State.deliver_keepsZones_of_view fun _ s1 => by simp
  · exact .refl s

theorem execDripPhaseExpiry_zonesKept : s.ZonesKept (execDripPhaseExpiry s) := by
  refine .next ?_
  split
  · exact State.deliver_keepsZones_of_view fun _ s1 => by simp
  · exact .refl s

theorem execRecoverPhaseExpiry_zonesKept : s.ZonesKept (execRecoverPhaseExpiry s) := by
  refine .next ?_
  split
  · exact State.deliver_keepsZones_of_view fun _ s1 => by simp
  · exact .refl s

theorem execCoilS3Report_zonesKept : s.ZonesKept (execCoilS3Report s) := by
  refine .next (State.takeEvent_keepsZones_of_view fun e s1 => ?_)
  split <;> simp

theorem execCoilRecoveryCutShort_zonesKept : s.ZonesKept (execCoilRecoveryCutShort s) := by
  refine .next (State.takeEvent_keepsZones_of_view fun e s1 => ?_)
  split <;> simp

theorem execDriveReceiverByte_zonesKept (c : DriveChar) : s.ZonesKept (execDriveReceiverByte c s) := by
  refine .next (.of_view ?_)
  split <;> simp

theorem execDamperStep_zonesKept : s.ZonesKept (execDamperStep s) := by
  refine .next (.of_view ?_)
  split
  · rfl
  · simp
  · split <;> simp

theorem execValveStep_zonesKept : s.ZonesKept (execValveStep s) := by
  refine .next (.of_view ?_)
  split
  · rfl
  · simp
  · split <;> simp

/-- Every command keeps the zones' records safe. -/
theorem exec_zonesKept (c : Instr) : s.ZonesKept (exec c s) := by
  have read {code : List Byte} {act : State → State × Reply} (h : ∀ s1, (act s1).1 = s1) :
      s.KeepsZones (s.serve code act) := State.serve_keepsZones_of_view fun s1 => by rw [h s1]
  cases c with
  | powerOnReset straps => exact .next (s.startUp_keepsZones ..)
  | uptimeWrapRestart straps => exact execUptimeWrapRestart_zonesKept s _
  | ident => exact .next (read fun _ => rfl)
  | systemQuery => exact .next (read fun _ => rfl)
  | restart => exact .next (State.serve_keepsZones_of_view fun _ => rfl)
  | holdOpen zone kind target halfBand priority flags minutes floor =>
    exact .next (State.serve_keepsZones_of_view fun _ => holdOpen_zoneView ..)
  | holdAmend slot gen mask target halfBand priority minutes floor reach =>
    exact .next (State.serve_keepsZones_of_view fun _ => holdAmend_zoneView ..)
  | holdRetire slot gen => exact .next (State.serve_keepsZones_of_view fun _ => holdRetire_zoneView ..)
  | holdQuery slot gen => exact .next (read (holdQuery_fst _ _))
  | holdList zone => exact .next (read (holdList_fst _))
  | zoneQuery zone => exact .next (read (zoneQuery_fst _))
  | regimeSet regime => exact .next (State.serve_keepsZones (regimeSet_keepsZones _))
  | mapSet zone regime fallback offset => exact .next (State.serve_keepsZones_of_view fun _ => mapSet_zoneView ..)
  | sensorQuery channel => exact .next (read (sensorQuery_fst _))
  | correctionSet slot op channel index value =>
    exact .next (State.serve_keepsZones_of_view fun _ => correctionSet_zoneView ..)
  | doorQuery door clear => exact .next (State.serve_keepsZones_of_view fun _ => doorQuery_zoneView ..)
  | defrostNow => exact .next (State.serve_keepsZones_of_view defrostNow_zoneView)
  | defrostCancel => exact .next (State.serve_keepsZones_of_view defrostCancel_zoneView)
  | clearLockout => exact .next (State.serve_keepsZones_of_view clearLockout_zoneView)
  | noticeNext => exact .next (State.serve_keepsZones_of_view noticeNext_zoneView)
  | noticeEnable mask => exact .next (State.serve_keepsZones_of_view fun _ => rfl)
  | settingsWrite item value => exact .next (State.serve_keepsZones_of_view fun _ => settingsWrite_zoneView ..)
  | settingsRead item => exact .next (read (settingsRead_fst _))
  | settingsStore => exact .next (State.serve_keepsZones_of_view settingsStore_zoneView)
  | storeWriteEnd => exact execStoreWriteEnd_zonesKept s
  | frameRefused why => exact execFrameRefused_zonesKept s _
  | overrun => exact execOverrun_zonesKept s
  | framingError => exact execFramingError_zonesKept s
  | byteGapTimeout => exact .next (.of_view rfl)
  | replyStart => exact execReplyStart_zonesKept s
  | replySent straps => exact execReplySent_zonesKept s _
  | holdExpiry slot => exact execHoldExpiry_zonesKept s _
  | holdChangeEvaluation z => exact .next (State.takeEvent_keepsZones fun g s1 => s1.evaluateHoldChange_keepsZones z g)
  | channelConversion c count => exact execChannelConversion_zonesKept s _ _
  | oneSecondEvaluation z => exact .next (State.takeEvent_keepsZones fun r s1 => s1.evaluateSecond_keepsZones z r)
  | blindHalf z => exact execBlindHalf_zonesKept s _
  | doorSample d a b c => exact .next (.of_view (s.sampleDoor_zoneView ..))
  | doorAjar d => exact execDoorAjar_zonesKept s _
  | doorChangeEvaluation d => exact execDoorChangeEvaluation_zonesKept s _
  | airRecompute k => exact .next (State.takeEvent_keepsZones_of_view fun w s1 => s1.airTake_zoneView w)
  | fanDelay => exact execFanDelay_zonesKept s
  | damperArrival => exact execDamperArrival_zonesKept s
  | flapArrival => exact execFlapArrival_zonesKept s
  | homingEnd m => exact execHomingEnd_zonesKept s _
  | valveArrival => exact execValveArrival_zonesKept s
  | startCompletion => exact .next (State.takeEvent_keepsZones_of_view fun pos s1 => s1.valveArrives_zoneView pos)
  | releaseEnd => exact execReleaseEnd_zonesKept s
  | arbiterReview => exact .next (State.takeEvent_keepsZones_of_view fun _ s1 => s1.review_zoneView)
  | pumpdownStage => exact execPumpdownStage_zonesKept s
  | holdoffStage => exact execHoldoffStage_zonesKept s
  | recoveryStage => exact execRecoveryStage_zonesKept s
  | inhibit => exact .next (State.deliver_keepsZones_of_view fun _ _ => State.review_zoneView _)
  | dwellMin => exact .next (State.deliver_keepsZones_of_view fun _ _ => State.review_zoneView _)
  | dwellMax => exact .next (State.deliver_keepsZones_of_view fun _ _ => State.review_zoneView _)
  | speedStep => exact .next (State.deliver_keepsZones_of_view fun _ _ => by simp)
  | driveLinkTick => exact execDriveLinkTick_zonesKept s
  | statusFrame seq actual code check => exact .next (.of_view (State.takeStatus_zoneView ..))
  | mainsSample count => exact execMainsSample_zonesKept s _
  | arbiterSag => exact execArbiterSag_zonesKept s
  | arbiterNormal => exact execArbiterNormal_zonesKept s
  | arbiterChangeToDefrost => exact execArbiterChangeToDefrost_zonesKept s
  | defrostS4Report => exact .next (State.takeEvent_keepsZones_of_view fun r s1 => s1.takeS4_zoneView r)
  | pendingLimit => exact execPendingLimit_zonesKept s
  | prechillPhaseExpiry => exact execPrechillPhaseExpiry_zonesKept s
  | heatPhaseExpiry => exact execHeatPhaseExpiry_zonesKept s
  | dripPhaseExpiry => exact execDripPhaseExpiry_zonesKept s
  | recoverPhaseExpiry => exact execRecoverPhaseExpiry_zonesKept s
  | coilS3Report => exact execCoilS3Report_zonesKept s
  | coilRecovery => exact .next (State.deliver_keepsZones_of_view fun _ s1 => s1.endRecovery_zoneView)
  | coilRecoveryCutShort => exact execCoilRecoveryCutShort_zonesKept s
  | deadlineFallsDue => exact .next (.of_view s.entryFallsDue_zoneView)
  | noticeRaise n => exact .next (State.takeEvent_keepsZones_of_view fun _ _ => rfl)
  | characterReceived b => exact .next (.of_view (s.receive_zoneView b))
  | driveReceiverByte c => exact execDriveReceiverByte_zonesKept s _
  | damperStep => exact execDamperStep_zonesKept s
  | valveStep => exact execValveStep_zonesKept s
  | pwmPeriodBoundary => exact .next (.of_view rfl)

end Commands

/-- Settles O22: a step runs one command or moves the clock, and each keeps the zones' records safe. -/
theorem everyStepKeepsTheZoneRecords : Obligations.EveryStepKeepsTheZoneRecords := by
  intro s t hstep
  have hkeeps : s.KeepsZones t := by
    unfold step at hstep
    split at hstep
    · cases hstep
      exact s.idle_keepsZones
    · next c rest _ => exact (exec_zonesKept (s.setPending rest) c t hstep).after rfl
  exact ⟨hkeeps.urgency, hkeeps.transit⟩

end Sys2Proof.Machine
end

section
/-! The deadline list under several insertions and removals: which entries of which keys it holds after them (R169 to R171). -/

namespace Sys2Proof.Machine

open Sys2Proof.Safety

/-! ### A wait, and an expiry taken -/

/-- The timebase with an entry that falls due `secs` seconds after the present instant (R170). -/
def Timebase.wait (x : Timebase) (k : DeadlineKey) (secs : Nat) : Timebase := x.withEntry k ⟨x.uptime + secs, x.ms⟩

/-- The timebase once the expiry of the key has been taken (R172). -/
def Timebase.delivered (x : Timebase) (k : DeadlineKey) : Timebase := { x with expiries := dropKey k x.expiries }

theorem State.insertAfter_eq (s : State) (k : DeadlineKey) (secs : Nat) :
    s.insertAfter k secs = s.setTime (s.time.wait k secs) := rfl

theorem expired_eq (s : State) (k : DeadlineKey) : expired s k = s.setTime (s.time.delivered k) := rfl

/-- An expiry that is next for its owner is delivered, on the state without it. -/
theorem State.deliver_of_delivers {s : State} {k : DeadlineKey} {due : Instant} (h : Delivers s k due)
    (f : Instant → State → State) : s.deliver k f = f due (expired s k) := State.deliver_of_next f h rfl

section Timebase

variable (x : Timebase) (k : DeadlineKey) (secs : Nat) (due : Instant)

@[simp] theorem Timebase.without_uptime : (x.without k).uptime = x.uptime := rfl
@[simp] theorem Timebase.without_ms : (x.without k).ms = x.ms := rfl
@[simp] theorem Timebase.wait_uptime : (x.wait k secs).uptime = x.uptime := rfl
@[simp] theorem Timebase.wait_ms : (x.wait k secs).ms = x.ms := rfl
@[simp] theorem Timebase.delivered_uptime : (x.delivered k).uptime = x.uptime := rfl
@[simp] theorem Timebase.delivered_ms : (x.delivered k).ms = x.ms := rfl
@[simp] theorem Timebase.delivered_deadlines : (x.delivered k).deadlines = x.deadlines := rfl

/-! ### The entries in the list -/

@[simp] theorem Timebase.mem_without_deadlines {e : Deadline} :
    e ∈ (x.without k).deadlines ↔ e ∈ x.deadlines ∧ e.key ≠ k := mem_dropKey

@[simp] theorem Timebase.mem_wait_deadlines {e : Deadline} :
    e ∈ (x.wait k secs).deadlines ↔ e = ⟨k, ⟨x.uptime + secs, x.ms⟩⟩ ∨ e ∈ x.deadlines ∧ e.key ≠ k :=
  mem_placeDeadline.trans (or_congr_right mem_dropKey)

@[simp] theorem Timebase.mem_without_expiries {e : Deadline} :
    e ∈ (x.without k).expiries ↔ e ∈ x.expiries ∧ e.key ≠ k := mem_dropKey

@[simp] theorem Timebase.mem_wait_expiries {e : Deadline} :
    e ∈ (x.wait k secs).expiries ↔ e ∈ x.expiries ∧ e.key ≠ k := mem_dropKey

@[simp] theorem Timebase.mem_delivered_expiries {e : Deadline} :
    e ∈ (x.delivered k).expiries ↔ e ∈ x.expiries ∧ e.key ≠ k := mem_dropKey

/-! ### Keys of which nothing is left -/

/-- No entry and no expiry in flight is of the key. -/
def Timebase.Lacks (x : Timebase) (k : DeadlineKey) : Prop := ∀ e ∈ x.deadlines ++ x.expiries, e.key ≠ k

theorem noneOf_iff (keys : List DeadlineKey) (t : State) : NoneOf keys t ↔ ∀ k ∈ keys, t.time.Lacks k :=
  ⟨fun h _ hk e he hek => h e he (hek ▸ hk), fun h e he hk => h _ hk e he rfl⟩

@[simp] theorem Timebase.lacks_without {j : DeadlineKey} : (x.without j).Lacks k ↔ j = k ∨ x.Lacks k := by
  simp only [Lacks, List.mem_append, mem_without_deadlines, mem_without_expiries, ← or_and_right]
  constructor
  · exact fun h => or_iff_not_imp_left.2 fun hj e he hek => h e ⟨he, fun hej => hj (hej ▸ hek)⟩ hek
  · rintro (rfl | h) e ⟨he, hej⟩
    · exact hej
    · exact h e he

@[simp] theorem Timebase.lacks_wait {j : DeadlineKey} : (x.wait j secs).Lacks k ↔ j ≠ k ∧ x.Lacks k := by
  simp only [Lacks, List.mem_append, mem_wait_deadlines, mem_wait_expiries, or_assoc, ← or_and_right]
  constructor
  · exact fun h => ⟨h _ (.inl rfl), fun e he hek => h e (.inr ⟨he, fun hej => h _ (.inl rfl) (hej ▸ hek)⟩) hek⟩
  · rintro ⟨hj, h⟩ e (rfl | ⟨he, -⟩)
    · exact hj
    · exact h e he

/-! ### The keys left alone -/

/-- The timebase with the entries and the expiries of the other keys alone. -/
def Timebase.apart (x : Timebase) (keys : List DeadlineKey) : Timebase :=
  { x with
    deadlines := x.deadlines.filter fun d => decide (d.key ∉ keys)
    expiries := x.expiries.filter fun d => decide (d.key ∉ keys) }

theorem timeKept_iff_apart (keys : List DeadlineKey) (s t : State) :
    TimeKept keys s t ↔ t.time.apart keys = s.time.apart keys := by
  simp only [TimeKept, Timebase.apart, Timebase.mk.injEq]

variable {k} {keys : List DeadlineKey}

@[simp] theorem Timebase.apart_without (hk : k ∈ keys) : (x.without k).apart keys = x.apart keys := by
  simp only [apart, without, filter_others_dropKey hk]

@[simp] theorem Timebase.apart_delivered (hk : k ∈ keys) : (x.delivered k).apart keys = x.apart keys := by
  simp only [apart, delivered, filter_others_dropKey hk]

@[simp] theorem Timebase.apart_wait (hk : k ∈ keys) : (x.wait k secs).apart keys = x.apart keys := by
  rw [← apart_without (x.wait k secs) hk, wait, withEntry_without, apart_without x hk]

end Timebase

end Sys2Proof.Machine
end

section
/-! The path arbiter in closed form: availability and urgency in the terms of the statements, and what each change of path
state makes of the record, the timers and the hand-offs (R57 to R85). -/

namespace Sys2Proof.Machine

open Sys2Proof.Safety

/-! ### Availability, urgency, speed target (R58, R59, R72, R73) -/

section Reads

variable (s : State)

theorem State.countedUrgency_freeze : s.countedUrgency .freeze =
    if s.defrost.phase = .pending then max s.eval.paths.freeze.urgency 1 else s.eval.paths.freeze.urgency := by
  simp [State.countedUrgency, PerPath.get]

variable {s} in
theorem State.available_fresh (h : s.arb.state.isHalted = false) :
    s.available .fresh = true ↔ s.defrost.recovery = false := by
  simp [State.available, h]

variable {s} in
theorem State.available_freeze (h : s.arb.state.isHalted = false) :
    s.available .freeze = true ↔ s.defrost.phase ≠ .release ∧ s.defrost.phase ≠ .heat ∧ s.defrost.phase ≠ .drip := by
  simp [State.available, h]

theorem State.wanted_iff (p : Path) : s.wanted p = true ↔ 0 < s.countedUrgency p ∧ s.available p = true := by
  simp [State.wanted]

/-- The speed target of the model is the one of the statements. -/
theorem State.targetOn_eq_speedAim (p : Path) : s.targetOn p = speedAim s p := by
  cases p with
  | fresh => rfl
  | freeze =>
    unfold State.targetOn speedAim
    rw [countedUrgency_freeze]
    rfl

end Reads

/-! ### Changes of path state (R57, R60) -/

theorem runState_valveTarget (p : Path) : (runState p).valveTarget = valveEnd p := by cases p <;> rfl

theorem runState_path (p : Path) : (runState p).path = some p := by cases p <;> rfl

theorem runState_isHalted (p : Path) : (runState p).isHalted = false := by cases p <;> rfl

theorem PathState.isHalted_of_commandsRun {st : PathState} (h : st.commandsRun = true) : st.isHalted = false := by
  cases st <;> first | rfl | cases h

/-- What a change from one path state to another hands on (R57, R60). -/
def changeHanded (old new : PathState) : List Handoff :=
  [.airPathState (decide (new = .runFreeze)), .arbiterToDefrost (decide (old = .runFresh)) new.isHalted]

theorem State.changePath_eq {s : State} {st : PathState} (h : s.arb.state ≠ st) :
    s.changePath st = { s with
      arb := { s.arb with state := st, valveTarget := st.valveTarget }
      events := s.events ++ changeHanded s.arb.state st } := State.changePath_of_ne h

/-- The timers once the compressor has been stopped (R62, R71). -/
def Timebase.stopped (x : Timebase) : Timebase :=
  (((x.without .speedStep).without .dwellMin).without .dwellMax).wait .inhibit 300

/-- The timers once a run has begun (R61). -/
def Timebase.dwelling (x : Timebase) : Timebase := (x.wait .dwellMin 240).wait .dwellMax 1800

/-- The timers once PUMPDOWN has begun (R69). -/
def Timebase.pumpingDown (x : Timebase) : Timebase := ((x.without .dwellMin).without .dwellMax).wait .stage 45

/-- The target recomputed on the path of a run (R72). -/
theorem State.retarget_eq {s : State} {p : Path} (h : s.arb.state.path = some p) :
    s.retarget = s.setArb { s.arb with speedTarget := s.targetOn p } := by
  simp only [State.retarget, h]

theorem State.retarget_of_none {s : State} (h : s.arb.state.path = none) : s.retarget = s := by
  simp only [State.retarget, h]

@[simp] theorem State.setTime_setTime (s : State) (x y : Timebase) : (s.setTime x).setTime y = s.setTime y := rfl

theorem State.stopCompressor_eq (s : State) : s.stopCompressor = { s with
    arb := { s.arb with speed := 0, inhibitRunning := true }, time := s.time.stopped } := by
  simp only [State.stopCompressor, State.removeDeadline_eq, State.insertAfter_eq, State.setTime_time,
    State.setTime_setTime]
  rfl

theorem State.startDwell_eq (s : State) : s.startDwell = { s with
    arb := { s.arb with dwellMinMet := false, dwellMaxMet := false }, time := s.time.dwelling } := by
  simp only [State.startDwell, State.insertAfter_eq, State.setTime_time, State.setTime_setTime]
  rfl

theorem State.runOn_eq {s : State} {p : Path} (h : s.arb.state ≠ runState p) : s.runOn p = { s with
    arb := { s.arb with
      state := runState p, valveTarget := valveEnd p, dwellMinMet := false, dwellMaxMet := false
      speedTarget := s.targetOn p }
    time := s.time.dwelling, events := s.events ++ changeHanded s.arb.state (runState p) } := by
  rw [State.runOn, State.changePath_eq h, State.startDwell_eq, State.retarget_eq (p := p) (runState_path p),
    runState_valveTarget]
  rfl

theorem State.enterPumpdown_eq {s : State} (h : s.arb.state ≠ .pumpdown) : s.enterPumpdown = { s with
    arb := { s.arb with state := .pumpdown, valveTarget := Config.valveClosed, speed := 40 }
    time := s.time.pumpingDown, events := s.events ++ changeHanded s.arb.state .pumpdown } := by
  rw [State.enterPumpdown, State.changePath_eq h]
  rfl

theorem State.stopToOff_eq {s : State} (h : s.arb.state ≠ .off) : s.stopToOff = { s with
    arb := { s.arb with state := .off, valveTarget := Config.valveClosed, speed := 0, inhibitRunning := true }
    time := s.time.stopped, events := s.events ++ changeHanded s.arb.state .off } := by
  rw [State.stopToOff, State.changePath_eq h]
  rfl

/-! ### Starts (R63 to R65) -/

theorem State.beginStart_eq (s : State) (p : Path) : s.beginStart p = { s with
    arb := { s.arb with resumePref := none, startPath := some p, valveTarget := valveEnd p }
    events := s.events ++ [.airPathState false] } := rfl

theorem State.abandonStart_eq (s : State) : s.abandonStart = { s with
    arb := { s.arb with startPath := none, valveTarget := Config.valveClosed }
    events := s.events ++ [.airPathState false] } := rfl

theorem State.completeStart_eq {s : State} {p : Path} (h : s.arb.state ≠ runState p) : s.completeStart p = { s with
    arb := { s.arb with
      state := runState p, valveTarget := valveEnd p, dwellMinMet := false, dwellMaxMet := false, startPath := none
      speed := 40, speedTarget := s.targetOn p }
    time := s.time.dwelling.wait .speedStep 10, events := s.events ++ changeHanded s.arb.state (runState p) } := by
  rw [State.completeStart, State.changePath_eq h, State.startDwell_eq, State.retarget_eq (p := p) (runState_path p),
    runState_valveTarget]
  rfl

theorem State.startChoice_of_chosen {s : State} {p : Path} (hi : s.arb.inhibitRunning = false)
    (hp : s.choosePath = some p) : s.startChoice = s.beginStart p := by simp [State.startChoice, hi, hp]

theorem State.startChoice_of_none {s : State} (h : s.arb.inhibitRunning = true ∨ s.choosePath = none) :
    s.startChoice = s := by
  unfold State.startChoice
  split
  · rfl
  · next hi => simp only [h.resolve_left hi]

/-! ### Reviews (R60) -/

theorem State.review_of_off {s : State} (h : s.arb.state = .off) (hp : s.arb.startPath = none) :
    s.review = s.startChoice := by simp only [State.review, h, hp]

theorem State.review_of_starting {s : State} {p : Path} (h : s.arb.state = .off) (hp : s.arb.startPath = some p) :
    s.review = s.startCheck p := by simp only [State.review, h, hp]

theorem State.review_of_run {s : State} {p : Path} (h : s.arb.state = runState p) : s.review = s.reviewRun p := by
  cases p <;> simp only [State.review, h, runState]

theorem State.review_of_resting {s : State} (h : s.arb.state = .pumpdown ∨ s.arb.state.isHalted = true) :
    s.review = s := by
  unfold State.review
  split <;> simp_all [PathState.isHalted]

/-! ### Halts (R78 to R85) -/

theorem State.haltRun_eq {s : State} {cause : HaltCause} (h : s.arb.state.commandsRun = true) :
    s.haltRun cause = { s with
      arb := { s.arb with
        state := .halted cause, stack := .path (savedState s.arb.state) :: s.arb.stack, speed := 0
        valveTarget := Config.valveClosed, inhibitRunning := true }
      time := s.time.stopped.without .stage, events := s.events ++ changeHanded s.arb.state (.halted cause) } := by
  have hne : s.arb.state ≠ .halted cause := fun he => by simp [he, PathState.commandsRun] at h
  have hstopped : (s.pushPath.stopCompressor).removeDeadline .stage = { s with
      arb := { s.arb with stack := .path (savedState s.arb.state) :: s.arb.stack, speed := 0, inhibitRunning := true }
      time := s.time.stopped.without .stage } := by
    rw [State.stopCompressor_eq]
    rfl
  rw [State.haltRun, hstopped, State.changePath_eq]
  · rfl
  · exact hne

theorem State.takeFault_of_stopped {s : State} (h : s.arb.state.commandsRun = false) : s.takeFault = s := if_pos h

/-- The halt of a run by a compressor fault, its count and its deadlines, LOCKOUT apart (R79). -/
def State.faulted (s : State) : State := { s with
  arb := { s.arb with
    state := .halted .fault, stack := .path (savedState s.arb.state) :: s.arb.stack, speed := 0
    valveTarget := Config.valveClosed, inhibitRunning := true, runSeconds := 0
    faultCount := min 3 (s.arb.faultCount + 1) }
  time := (s.time.stopped.without .stage).wait .stage 600
  events := s.events ++ changeHanded s.arb.state (.halted .fault) ++ [.raise .compressorFault] }

theorem State.lockOut_eq (s : State) : s.lockOut = { s with
    arb := { s.arb with state := .halted .lockout, stack := [] }
    time := s.time.without .stage, events := s.events ++ [.raise .compressorLockout] } := rfl

/-- A compressor fault halts a run, and the third locks it out (R79, R80). -/
theorem State.takeFault_eq {s : State} (h : s.arb.state.commandsRun = true) :
    s.takeFault = if 2 ≤ s.arb.faultCount then s.faulted.lockOut else s.faulted := by
  have hthird : 3 ≤ s.faulted.arb.faultCount ↔ 2 ≤ s.arb.faultCount :=
    show 3 ≤ min 3 (s.arb.faultCount + 1) ↔ _ by omega
  rw [← if_congr hthird rfl rfl, State.takeFault, if_neg (by simp [h]), State.haltRun_eq h]
  rfl

/-- The state in OFF that a saved context restores, before the review (R83). -/
def State.restored (s : State) : State := { s with
  arb := { s.arb with
    state := .off, valveTarget := Config.valveClosed, startPath := none, resumePref := resumeOf (popPath s.arb.stack).1
    stack := (popPath s.arb.stack).2 }
  events := s.events ++ changeHanded s.arb.state .off }

theorem State.restore_eq {s : State} (h : s.arb.state ≠ .off) : s.restore = s.restored.review := by
  rw [State.restore, State.changePath_eq h]
  rfl

end Sys2Proof.Machine
end

section
/-! The invariants of the commanded speed and of the protection stack (R57, R78): what keeps them, operation by operation of
the path arbiter and the drive link. -/

namespace Sys2Proof.Machine

open Sys2Proof.Safety

/-! ### The two invariants, state by state -/

/-- The speeds that a path state admits (R57). -/
def PathState.AdmitsSpeed (st : PathState) (speed : Nat) : Prop :=
  match st with
  | .off => speed = 0
  | .runFresh => 30 ≤ speed ∧ speed ≤ 100
  | .runFreeze => 30 ≤ speed ∧ speed ≤ 100
  | .pumpdown => speed = 40
  | .halted _ => speed = 0

theorem speedSafe_iff (s : State) :
    SpeedSafe s ↔ s.arb.state.AdmitsSpeed s.arb.speed ∧ (30 ≤ s.arb.speedTarget ∧ s.arb.speedTarget ≤ 100) ∧
      (60 ≤ s.arb.maxSpeed ∧ s.arb.maxSpeed ≤ 100) := by
  unfold SpeedSafe
  cases s.arb.state <;> simp [PathState.commandsRun, PathState.AdmitsSpeed]
  omega

theorem PathState.admitsSpeed_of_stopped {st : PathState} (h : st.commandsRun = false) {speed : Nat} :
    st.AdmitsSpeed speed ↔ speed = 0 := by
  cases st <;> simp_all [commandsRun, AdmitsSpeed]

theorem PathState.AdmitsSpeed.range {st : PathState} {speed : Nat} (h : st.AdmitsSpeed speed)
    (hrun : st.commandsRun = true) : 30 ≤ speed ∧ speed ≤ 100 := by
  cases st <;> simp_all [commandsRun, AdmitsSpeed]

theorem runState_admitsSpeed (p : Path) {speed : Nat} : (runState p).AdmitsSpeed speed ↔ 30 ≤ speed ∧ speed ≤ 100 := by
  cases p <;> rfl

theorem runState_commandsRun (p : Path) : (runState p).commandsRun = true := by cases p <;> rfl

theorem PathState.commandsRun_of_isHalted {st : PathState} (h : st.isHalted = true) : st.commandsRun = false := by
  cases st <;> first | rfl | cases h

/-- Outside a halt, and in LOCKOUT, the stack is empty (R78). -/
theorem stackShape_of_empty {st : PathState} (h : st.isHalted = false ∨ st = .halted .lockout) {l : List Context} :
    stackShape st l = true ↔ l = [] := by
  rcases h with h | rfl
  · cases st <;> cases l <;> simp_all [stackShape, PathState.isHalted]
  · cases l <;> simp [stackShape]

/-- In HALTED(FAULT) the stack holds the path context alone (R78). -/
theorem stackShape_fault_iff {l : List Context} : stackShape (.halted .fault) l = true ↔ ∃ x, l = [.path x] := by
  unfold stackShape
  split <;> simp_all

/-- In HALTED(SAG) a holdoff may stand above the path context (R78). -/
theorem stackShape_sag_iff {l : List Context} :
    stackShape (.halted .sag) l = true ↔ ∃ x, l = [.path x] ∨ ∃ n, 1 ≤ n ∧ l = [.holdoff n, .path x] := by
  unfold stackShape
  split <;> simp_all

/-! ### What keeps the two invariants -/

/-- The arbiter's speed and stack are safe in `t` where they are in `s`. -/
structure State.KeepsArbiter (s t : State) : Prop where
  speed : SpeedSafe s → SpeedSafe t
  stack : StackSafe s → StackSafe t

/-- All of the state that the two invariants speak of. -/
def State.arbiterView (s : State) : PathState × (Nat × Nat × Nat) × List Context × Nat :=
  (s.arb.state, (s.arb.speed, s.arb.speedTarget, s.arb.maxSpeed), s.arb.stack, s.arb.faultCount)

namespace State.KeepsArbiter

variable {s t u : State}

theorem refl (s : State) : s.KeepsArbiter s := ⟨id, id⟩

theorem trans (h : s.KeepsArbiter t) (h' : t.KeepsArbiter u) : s.KeepsArbiter u :=
  ⟨h'.speed ∘ h.speed, h'.stack ∘ h.stack⟩

theorem of_view (h : t.arbiterView = s.arbiterView) : s.KeepsArbiter t := by
  simp only [arbiterView, Prod.mk.injEq] at h
  obtain ⟨hstate, ⟨hspeed, htarget, hmax⟩, hstack, hcount⟩ := h
  exact ⟨fun hs => by rwa [SpeedSafe, hstate, hspeed, htarget, hmax],
    fun hs => by rwa [StackSafe, hstate, hstack, hcount]⟩

theorem of_arb (h : t.arb = s.arb) : s.KeepsArbiter t := of_view (by simp only [arbiterView, h])

/-- A change that the invariants do not see, before the one that keeps them. -/
theorem after (h : t.KeepsArbiter u) (harb : t.arb = s.arb) : s.KeepsArbiter u := (of_arb harb).trans h

/-- A change that leaves the maximum speed alone keeps the invariants part by part. -/
theorem of_parts (hspeed : s.arb.state.AdmitsSpeed s.arb.speed → t.arb.state.AdmitsSpeed t.arb.speed)
    (htarget : 60 ≤ s.arb.maxSpeed → s.arb.maxSpeed ≤ 100 → 30 ≤ s.arb.speedTarget ∧ s.arb.speedTarget ≤ 100 →
      30 ≤ t.arb.speedTarget ∧ t.arb.speedTarget ≤ 100)
    (hmax : t.arb.maxSpeed = s.arb.maxSpeed)
    (hstack : stackShape s.arb.state s.arb.stack = true → stackShape t.arb.state t.arb.stack = true)
    (hcount : s.arb.faultCount ≤ 3 → t.arb.faultCount ≤ 3) : s.KeepsArbiter t := by
  refine ⟨fun hs => ?_, fun ⟨hshape, hfaults⟩ => ⟨hstack hshape, hcount hfaults⟩⟩
  rw [speedSafe_iff] at hs ⊢
  obtain ⟨hv, ht, hm, hm'⟩ := hs
  rw [hmax]
  exact ⟨hspeed hv, htarget hm hm' ht, hm, hm'⟩

end State.KeepsArbiter

open State (KeepsArbiter)

/-- A stack that is empty in both path states is kept by the change from one to the other. -/
theorem stackShape_kept {st st' : PathState} {l : List Context} (h : st.isHalted = false ∨ st = .halted .lockout)
    (h' : st'.isHalted = false ∨ st' = .halted .lockout) (hl : stackShape st l = true) : stackShape st' l = true :=
  (stackShape_of_empty h').2 ((stackShape_of_empty h).1 hl)

/-- A path context pushed on the empty stack has the shape of HALTED(FAULT) and of HALTED(SAG) (R78). -/
theorem stackShape_pushed {st : PathState} {cause : HaltCause} {l : List Context} (x : SavedState)
    (h : st.isHalted = false) (hc : cause ≠ .lockout) (hl : stackShape st l = true) :
    stackShape (.halted cause) (.path x :: l) = true := by
  rw [(stackShape_of_empty (.inl h)).1 hl]
  cases cause with
  | lockout => exact absurd rfl hc
  | fault => rfl
  | sag => rfl

/-! ### Speed target and slew (R72 to R74) -/

/-- The speed target lies between 30 and 100 (R72, R73). -/
theorem State.targetOn_range {s : State} (hmin : 60 ≤ s.arb.maxSpeed) (hmax : s.arb.maxSpeed ≤ 100) (p : Path) :
    30 ≤ s.targetOn p ∧ s.targetOn p ≤ 100 := by
  have hderate (amb : Int) : 85 ≤ ambientDerate amb := by
    unfold ambientDerate
    split_ifs <;> omega
  have hcap : 60 ≤ s.speedCap ∧ s.speedCap ≤ 100 :=
    ⟨le_min hmin ((by norm_num : 60 ≤ 85).trans (hderate _)), (min_le_left ..).trans hmax⟩
  unfold State.targetOn
  dsimp only
  generalize (s.eval.paths.get p).floor.getD 0 = floor
  split <;> omega

theorem State.retarget_keepsArbiter (s : State) : s.KeepsArbiter s.retarget := by
  cases hp : s.arb.state.path with
  | none => rw [retarget_of_none hp]; exact .refl s
  | some p =>
    rw [retarget_eq hp]
    exact .of_parts id (fun hmin hmax _ => targetOn_range hmin hmax p) rfl id id

/-- A slew step between two speeds in range stays in range (R74). -/
theorem slew_range {speed target : Nat} (hs : 30 ≤ speed ∧ speed ≤ 100) (ht : 30 ≤ target ∧ target ≤ 100) :
    30 ≤ slew speed target ∧ slew speed target ≤ 100 := by
  unfold slew
  split <;> omega

theorem PathState.eq_runState {st : PathState} {p : Path} (h : st.path = some p) : st = runState p := by
  cases st <;> cases h <;> rfl

theorem State.slewSpeed_keepsArbiter (s : State) : s.KeepsArbiter s.slewSpeed := by
  unfold State.slewSpeed
  split
  · next p hp =>
    refine ⟨fun hs => ?_, id⟩
    rw [speedSafe_iff] at hs ⊢
    obtain ⟨hspeed, htarget, hmax⟩ := hs
    rw [PathState.eq_runState hp, runState_admitsSpeed] at hspeed
    refine ⟨?_, htarget, hmax⟩
    rw [setArb_arb, PathState.eq_runState hp, runState_admitsSpeed]
    exact slew_range hspeed htarget
  · exact .refl s

/-! ### Changes of path state (R57, R69 to R71) -/

section Changes

variable {s : State}

theorem State.runOn_keepsArbiter {p : Path} (h : s.arb.state.commandsRun = true) (hp : s.arb.state ≠ runState p) :
    s.KeepsArbiter (s.runOn p) := by
  rw [runOn_eq hp]
  exact .of_parts (fun hv => (runState_admitsSpeed p).2 (hv.range h)) (fun hmin hmax _ => targetOn_range hmin hmax p) rfl
    (stackShape_kept (.inl (PathState.isHalted_of_commandsRun h)) (.inl (runState_isHalted p))) id

theorem State.enterPumpdown_keepsArbiter (h : s.arb.state.commandsRun = true) (hp : s.arb.state ≠ .pumpdown) :
    s.KeepsArbiter s.enterPumpdown := by
  rw [enterPumpdown_eq hp]
  exact .of_parts (fun _ => rfl) (fun _ _ => id) rfl
    (stackShape_kept (.inl (PathState.isHalted_of_commandsRun h)) (.inl rfl)) id

theorem State.stopToOff_keepsArbiter (h : s.arb.state.commandsRun = true) : s.KeepsArbiter s.stopToOff := by
  rw [stopToOff_eq fun he => by simp [he, PathState.commandsRun] at h]
  exact .of_parts (fun _ => rfl) (fun _ _ => id) rfl
    (stackShape_kept (.inl (PathState.isHalted_of_commandsRun h)) (.inl rfl)) id

theorem State.completeStart_keepsArbiter (h : s.arb.state = .off) (p : Path) : s.KeepsArbiter (s.completeStart p) := by
  rw [completeStart_eq (by rw [h]; cases p <;> nofun)]
  exact .of_parts (fun _ => (runState_admitsSpeed p).2 (show 30 ≤ 40 ∧ 40 ≤ 100 by decide)) (fun hmin hmax _ => targetOn_range hmin hmax p) rfl
    (stackShape_kept (.inl (by rw [h]; rfl)) (.inl (runState_isHalted p))) id

theorem State.startChoice_keepsArbiter (s : State) : s.KeepsArbiter s.startChoice := by
  unfold State.startChoice
  split
  · exact .refl s
  · split
    · exact .of_view rfl
    · exact .refl s

theorem State.startCheck_keepsArbiter (s : State) (p : Path) : s.KeepsArbiter (s.startCheck p) := by
  unfold State.startCheck
  split
  · exact .refl s
  · exact .of_view rfl

theorem State.leave_keepsArbiter {p : Path} (h : s.arb.state = runState p) (toOther : Bool) :
    s.KeepsArbiter (s.leave p toOther) := by
  have hrun : s.arb.state.commandsRun = true := h ▸ runState_commandsRun p
  cases p with
  | fresh => exact enterPumpdown_keepsArbiter hrun (by rw [h]; nofun)
  | freeze =>
    cases toOther with
    | true => exact runOn_keepsArbiter hrun (by rw [h]; nofun)
    | false => exact stopToOff_keepsArbiter hrun

theorem State.reviewRun_keepsArbiter {p : Path} (h : s.arb.state = runState p) : s.KeepsArbiter (s.reviewRun p) := by
  unfold State.reviewRun
  split
  · exact leave_keepsArbiter h _
  · split
    · exact s.retarget_keepsArbiter
    · exact leave_keepsArbiter h _
    · exact leave_keepsArbiter h _

/-- A review keeps the invariants in every path state (R60). -/
theorem State.review_keepsArbiter (s : State) : s.KeepsArbiter s.review := by
  unfold State.review
  split
  · split
    · exact s.startChoice_keepsArbiter
    · exact s.startCheck_keepsArbiter _
  · next h => exact reviewRun_keepsArbiter (p := .fresh) h
  · next h => exact reviewRun_keepsArbiter (p := .freeze) h
  · exact .refl s
  · exact .refl s

theorem State.valveArrives_keepsArbiter (s : State) (pos : Nat) : s.KeepsArbiter (s.valveArrives pos) := by
  unfold State.valveArrives
  split
  · next h _ =>
    split
    · exact completeStart_keepsArbiter h _
    · exact s.review_keepsArbiter
  · exact s.review_keepsArbiter

theorem State.endPumpdown_keepsArbiter (h : s.arb.state = .pumpdown) : s.KeepsArbiter s.endPumpdown := by
  have hrun : s.arb.state.commandsRun = true := by rw [h]; rfl
  unfold State.endPumpdown
  split
  · exact runOn_keepsArbiter hrun (by rw [h]; nofun)
  · exact stopToOff_keepsArbiter hrun

end Changes

/-! ### Halts (R78 to R85) -/

section Halts

variable {s : State}

/-- A fault halts a run over one path context, and the third leaves the stack empty (R79, R80). -/
theorem State.takeFault_keepsArbiter (s : State) : s.KeepsArbiter s.takeFault := by
  cases h : s.arb.state.commandsRun with
  | false => rw [takeFault_of_stopped h]; exact .refl s
  | true =>
    rw [takeFault_eq h]
    split
    · exact .of_parts (fun _ => rfl) (fun _ _ => id) rfl (fun _ => rfl) fun _ => min_le_left ..
    · exact .of_parts (fun _ => rfl) (fun _ _ => id) rfl
        (stackShape_pushed _ (PathState.isHalted_of_commandsRun h) nofun) fun _ => min_le_left ..

theorem State.haltRun_keepsArbiter (h : s.arb.state.commandsRun = true) : s.KeepsArbiter (s.haltRun .sag) := by
  rw [haltRun_eq h]
  exact .of_parts (fun _ => rfl) (fun _ _ => id) rfl
    (stackShape_pushed _ (PathState.isHalted_of_commandsRun h) nofun) id

/-- The seconds saved of a holdoff are at least 1 (R81). -/
theorem State.one_le_holdoffLeft (s : State) : 1 ≤ s.holdoffLeft := by
  unfold State.holdoffLeft
  split <;> omega

theorem State.takeSag_keepsArbiter (s : State) : s.KeepsArbiter s.takeSag := by
  have hraise (t : State) (n : Notice) : t.KeepsArbiter (t.raiseNotice n) := .of_arb rfl
  unfold State.takeSag
  split
  · exact .refl s
  · exact .of_arb rfl
  · next h =>
    refine .trans ?_ (hraise _ _)
    dsimp only
    rw [changePath_eq (by simp [h])]
    refine .of_parts (fun hv => ?_) (fun _ _ => id) rfl (fun hs => ?_) id
    · rwa [h] at hv
    · obtain ⟨x, hx⟩ := stackShape_fault_iff.1 (h ▸ hs)
      exact stackShape_sag_iff.2 ⟨x, .inr ⟨s.holdoffLeft, s.one_le_holdoffLeft, congrArg _ hx⟩⟩
  · next h =>
    refine .trans ?_ (hraise _ _)
    dsimp only
    rw [changePath_eq (by rw [setArb_arb, pushPath, setArb_arb, h]; nofun)]
    refine .of_parts (fun hv => ?_) (fun _ _ => id) rfl (stackShape_pushed _ (by rw [h]; rfl) nofun) id
    rwa [h] at hv
  · next hlockout hsag hfault hoff =>
    refine .trans (haltRun_keepsArbiter ?_) (hraise _ _)
    cases h : s.arb.state with
    | off => exact absurd h hoff
    | halted cause => cases cause <;> contradiction
    | _ => rfl

theorem State.takeNormal_keepsArbiter (s : State) : s.KeepsArbiter s.takeNormal := by
  unfold State.takeNormal
  split
  · exact .of_arb rfl
  · exact .refl s

/-- A restored path context leaves OFF with the stack empty (R83). -/
theorem State.restore_keepsArbiter (h : s.arb.state.isHalted = true)
    (hstack : stackShape s.arb.state s.arb.stack = true → ∃ x, s.arb.stack = [.path x]) :
    s.KeepsArbiter s.restore := by
  rw [restore_eq fun he => by simp [he, PathState.isHalted] at h]
  refine .trans ?_ (State.review_keepsArbiter _)
  refine .of_parts (PathState.admitsSpeed_of_stopped (PathState.commandsRun_of_isHalted h)).1 (fun _ _ => id) rfl
    (fun hs => (stackShape_of_empty (.inl rfl)).2 ?_) id
  obtain ⟨x, hx⟩ := hstack hs
  simp [State.restored, hx, popPath]

theorem State.recover_keepsArbiter (h : s.arb.state = .halted .sag) : s.KeepsArbiter s.recover := by
  unfold State.recover
  split
  · next n rest hl =>
    refine .trans ?_ (.of_arb (insertAfter_arb ..))
    rw [changePath_eq (by rw [setArb_arb, h]; nofun)]
    refine .of_parts (fun hv => ?_) (fun _ _ => id) rfl (fun hs => stackShape_fault_iff.2 ?_) id
    · rwa [h] at hv
    · rw [h, hl] at hs
      obtain ⟨x, hx | ⟨_, -, hx⟩⟩ := stackShape_sag_iff.1 hs
      · cases hx
      · cases hx
        exact ⟨x, rfl⟩
  · next hl =>
    refine restore_keepsArbiter (by rw [h]; rfl) fun hs => ?_
    rw [h] at hs
    obtain ⟨x, hx | ⟨n, -, hx⟩⟩ := stackShape_sag_iff.1 hs
    · exact ⟨x, hx⟩
    · exact absurd hx (hl n [.path x])

theorem State.clearLockout_keepsArbiter (h : s.arb.state = .halted .lockout) : s.KeepsArbiter s.clearLockout := by
  let off : State := (s.changePath .off).setArb { (s.changePath .off).arb with faultCount := 0, runSeconds := 0 }
  have hoff : s.KeepsArbiter off := by
    simp only [off, changePath_eq (by rw [h]; nofun : s.arb.state ≠ .off)]
    refine .of_parts (fun hv => ?_) (fun _ _ => id) rfl (stackShape_kept (.inr h) (.inl rfl)) fun _ => Nat.zero_le _
    rwa [h] at hv
  unfold State.clearLockout
  dsimp only
  split
  · exact hoff.trans (takeSag_keepsArbiter _)
  · exact hoff.trans (review_keepsArbiter _)

end Halts

/-! ### Drive link (R76, R77, R84) -/

section Drive

variable (s : State)

theorem State.judgeSilence_keepsArbiter : s.KeepsArbiter s.judgeSilence := by
  unfold State.judgeSilence
  split
  · exact s.takeFault_keepsArbiter
  · exact .refl s

theorem State.countRunSecond_keepsArbiter : s.KeepsArbiter s.countRunSecond := by
  unfold State.countRunSecond
  split
  · split
    · exact .of_parts id (fun _ _ => id) rfl id fun _ => Nat.zero_le _
    · exact .of_view rfl
  · exact .refl s

theorem State.takeStatus_keepsArbiter (seq actual code check : Byte) :
    s.KeepsArbiter (s.takeStatus seq actual code check) := by
  unfold State.takeStatus
  split
  · dsimp only
    split
    · exact (takeFault_keepsArbiter _).after rfl
    · exact .of_arb rfl
  · exact .refl s

theorem State.driveByte_keepsArbiter (b : Byte) : s.KeepsArbiter (s.driveByte b) := by
  unfold State.driveByte
  split
  · split
    · exact .of_arb rfl
    · exact .refl s
  · exact (takeStatus_keepsArbiter ..).after rfl
  · exact .of_arb rfl

end Drive

end Sys2Proof.Machine
end

section
/-! What leaves the arbiter's record alone: the operations of the other blocks. -/

namespace Sys2Proof.Machine

open Sys2Proof.Safety

/-! ### Air handler -/

@[simp] theorem State.airTake_arb (s : State) (w : AirWork) : (s.airTake w).arb = s.arb := by
  cases w <;> simp [State.airTake]

@[simp] theorem State.valveHomed_arb (s : State) : s.valveHomed.arb = s.arb := by
  unfold State.valveHomed
  split <;> simp

/-! ### Defrost controller -/

@[simp] theorem State.giveUpDefrost_arb (s : State) : s.giveUpDefrost.arb = s.arb := by simp [State.giveUpDefrost]

@[simp] theorem State.countFrost_arb (s : State) : s.countFrost.arb = s.arb := by
  unfold State.countFrost
  split <;> simp

@[simp] theorem State.heatTest_arb (s : State) (r : Report) : (s.heatTest r).arb = s.arb := by
  unfold State.heatTest
  split
  · rfl
  · split <;> simp

@[simp] theorem State.takeS4_arb (s : State) (r : Report) : (s.takeS4 r).arb = s.arb := by
  unfold State.takeS4
  dsimp only
  split
  · simp
  · simp
  · split <;> simp
  · simp

@[simp] theorem State.takePhaseChange_arb (s : State) (halted : Bool) : (s.takePhaseChange halted).arb = s.arb := by
  unfold State.takePhaseChange
  split
  · split <;> simp
  · split <;> simp
  · rfl

/-! ### Door unit, measurement unit, link port -/

@[simp] theorem State.sampleDoor_arb (s : State) (d : Door) (x : Level) : (s.sampleDoor d x).arb = s.arb := by
  unfold State.sampleDoor
  dsimp only
  split
  · cases x <;> rfl
  · rfl

@[simp] theorem State.reportToZone_arb (s : State) (c : Channel) (z : Zone) : (s.reportToZone c z).arb = s.arb := by
  unfold State.reportToZone
  split <;> simp

@[simp] theorem State.report_arb (s : State) (c : Channel) : (s.report c).arb = s.arb := by
  unfold State.report State.reportToOthers
  split <;> simp

@[simp] theorem State.completeFrame_arb (s : State) (len : Nat) (got : List Byte) :
    (s.completeFrame len got).arb = s.arb := by
  unfold State.completeFrame
  split
  · rfl
  · split <;> rfl

@[simp] theorem State.lengthFrame_arb (s : State) : s.lengthFrame.arb = s.arb := by
  unfold State.lengthFrame
  split <;> rfl

@[simp] theorem State.setRx_arb (s : State) (rx : RxState) : (s.setRx rx).arb = s.arb := rfl

@[simp] theorem State.receive_arb (s : State) (b : Byte) : (s.receive b).arb = s.arb := by
  unfold State.receive
  split
  · split <;> simp
  · split <;> simp
  · split <;> simp
  · rfl

/-! ### Hold table -/

theorem State.regovern_arb (s : State) (z : Zone) {change : State → State} (h : (change s).arb = s.arb) :
    (s.regovern z change).arb = s.arb := by simpa [State.regovern] using h

@[simp] theorem holdOpen_arb (s : State) (zone kind : Byte) (target : Half) (halfBand priority flags : Byte)
    (minutes : Half) (floor : Byte) :
    (holdOpen zone kind target halfBand priority flags minutes floor s).1.arb = s.arb := by
  unfold holdOpen
  split
  · split_ifs
    · rfl
    · rfl
    · rfl
    · split
      · rfl
      · rw [State.openHold_state]
        exact s.regovern_arb _ rfl
  · rfl

theorem State.amendPriority_arb (s : State) (h : Hold) (mask priority : Byte) :
    (s.amendPriority h mask priority).1.arb = s.arb := by
  unfold State.amendPriority
  dsimp only
  split_ifs <;> rfl

theorem State.amendExpiry_arb (s : State) (h : Hold) (mask : Byte) (minutes : Half) :
    (s.amendExpiry h mask minutes).1.arb = s.arb := by
  unfold State.amendExpiry
  split
  · dsimp only
    split <;> rfl
  · rfl

theorem State.amendHold_arb (s : State) (h : Hold) (mask : Byte) (target : Half) (halfBand priority : Byte)
    (minutes : Half) (floor reach : Byte) :
    (s.amendHold h mask target halfBand priority minutes floor reach).1.arb = s.arb := by
  unfold State.amendHold
  dsimp only
  refine s.regovern_arb _ ?_
  split <;> simp [State.amendPriority_arb, State.amendExpiry_arb]

@[simp] theorem holdAmend_arb (s : State) (slot gen mask : Byte) (target : Half) (halfBand priority : Byte)
    (minutes : Half) (floor reach : Byte) :
    (holdAmend slot gen mask target halfBand priority minutes floor reach s).1.arb = s.arb := by
  unfold holdAmend
  split
  · rfl
  · split_ifs
    iterate 4 rfl
    exact s.amendHold_arb ..

@[simp] theorem holdRetire_arb (s : State) (slot gen : Byte) : (holdRetire slot gen s).1.arb = s.arb := by
  unfold holdRetire
  split
  · rfl
  · split
    · rfl
    · dsimp only
      exact s.regovern_arb _ (by simp)

theorem State.lapseAtCommit_arb (s : State) (l : List Nat) : (s.lapseAtCommit l).arb = s.arb := by
  induction l generalizing s with
  | nil => rfl
  | cons i is ih =>
    unfold State.lapseAtCommit
    split
    · exact ih s
    · split
      · rw [ih, State.lapse_arb]
      · exact ih s

@[simp] theorem State.commitHolds_arb (s : State) (r : Regime) : (s.commitHolds r).arb = s.arb := by
  unfold State.commitHolds State.retargetChillBase
  split <;> simp [State.lapseAtCommit_arb]

/-! ### Zone evaluator -/

theorem State.StepsZone.arb {s t : State} {z : Zone} (h : s.StepsZone t z) : t.arb = s.arb := by rw [h.frame]

@[simp] theorem State.lowerGrace_arb (s : State) (z : Zone) : (s.lowerGrace z).arb = s.arb := by
  unfold State.lowerGrace
  split <;> rfl

@[simp] theorem State.comply_arb (s : State) (z : Zone) (f : Int) (tested suppressed : Bool) :
    (s.comply z f tested suppressed).arb = s.arb := by
  obtain ⟨holds, time, l, hc, -⟩ := s.comply_eq z f tested suppressed
  rw [hc]

@[simp] theorem State.timeAndCount_arb (s : State) (rep : Option Report) (z : Zone) (suppressed : Bool) :
    (s.timeAndCount rep z suppressed).arb = s.arb :=
  (State.comply_arb ..).trans (s.stepsZone_timed rep z suppressed).arb

@[simp] theorem State.evaluateSecond_arb (s : State) (z : Zone) (r : Report) : (s.evaluateSecond z r).arb = s.arb := by
  simp [State.evaluateSecond]

@[simp] theorem State.evaluateHoldChange_arb (s : State) (z : Zone) (g : Governing) :
    (s.evaluateHoldChange z g).arb = s.arb := by
  unfold State.evaluateHoldChange
  dsimp only
  split <;> simp

@[simp] theorem State.evaluateDoor_arb (s : State) (z : Zone) (e : DoorEvent) : (s.evaluateDoor z e).arb = s.arb := by
  simp [State.evaluateDoor]

@[simp] theorem State.evaluateSchedule_arb (s : State) (z : Zone) (half : BlindHalf) (due : Instant) :
    (s.evaluateSchedule z half due).arb = s.arb := by simp [State.evaluateSchedule]

@[simp] theorem State.evaluateEndOfTransit_arb (s : State) : s.evaluateEndOfTransit.arb = s.arb := by
  simp [State.evaluateEndOfTransit]

/-! ### Zone map -/

@[simp] theorem State.commitRegime_arb (s : State) : s.commitRegime.arb = s.arb := by
  unfold State.commitRegime State.commitChillHolds State.withdrawChillChange
  dsimp only
  split <;> simp

@[simp] theorem State.enterFlap_arb (s : State) : s.enterFlap.arb = s.arb := by
  unfold State.enterFlap
  dsimp only
  split <;> simp

@[simp] theorem State.closingEnds_arb (s : State) : s.closingEnds.arb = s.arb := by
  unfold State.closingEnds
  split <;> simp

@[simp] theorem State.beginRegime_arb (s : State) (r : Regime) : (s.beginRegime r).arb = s.arb := by
  simp [State.beginRegime]

@[simp] theorem State.flapArrives_arb (s : State) (dest : Path) : (s.flapArrives dest).arb = s.arb := by
  unfold State.flapArrives
  dsimp only
  split <;> simp

@[simp] theorem State.damperHomed_arb (s : State) : s.damperHomed.arb = s.arb := by
  unfold State.damperHomed
  split <;> simp

@[simp] theorem regimeSet_arb (s : State) (regime : Byte) : (regimeSet regime s).1.arb = s.arb := by
  unfold regimeSet
  split
  · rfl
  · split_ifs <;> simp

@[simp] theorem mapSet_arb (s : State) (zone regime fallback : Byte) (offset : Half) :
    (mapSet zone regime fallback offset s).1.arb = s.arb := by
  unfold mapSet
  split
  · rfl
  · split
    · rfl
    · split
      · rfl
      · split <;> rfl

/-! ### The other requests -/

@[simp] theorem correctionSet_arb (s : State) (slot op channel index : Byte) (value : Half) :
    (correctionSet slot op channel index value s).1.arb = s.arb := by
  have hwrite (i : Nat) (k : Option Correction) : (s.writeCorrection i k).1.arb = s.arb := by
    unfold State.writeCorrection
    dsimp only
    split <;> rfl
  unfold correctionSet
  split
  · rfl
  · split
    · exact hwrite ..
    · split
      · rfl
      · dsimp only
        split_ifs
        iterate 3 rfl
        exact hwrite ..

@[simp] theorem doorQuery_arb (s : State) (door clear : Byte) : (doorQuery door clear s).1.arb = s.arb := by
  unfold doorQuery
  split <;> rfl

@[simp] theorem defrostNow_arb (s : State) : (defrostNow s).1.arb = s.arb := by
  unfold defrostNow
  split <;> simp

@[simp] theorem defrostCancel_arb (s : State) : (defrostCancel s).1.arb = s.arb := by
  unfold defrostCancel
  split <;> simp

@[simp] theorem noticeNext_arb (s : State) : (noticeNext s).1.arb = s.arb := by
  unfold noticeNext
  split <;> rfl

@[simp] theorem settingsStore_arb (s : State) : (settingsStore s).1.arb = s.arb := by
  unfold settingsStore
  split <;> rfl

/-- A write of any item but the maximum speed. -/
theorem State.writeSetting_arb {s t : State} {i : SettingItem} {v : Int} {clamped : Bool} (hi : i ≠ .maxSpeed)
    (hw : s.writeSetting i v = some (t, clamped)) : t.arb = s.arb := by
  cases i <;> cases hw
  case maxSpeed => exact absurd rfl hi
  case weight z => exact State.handChange_arb _ z _
  case interval => exact State.compareInterval_arb _
  all_goals rfl

/-! ### The clock and what is due -/

@[simp] theorem State.entryFallsDue_arb (s : State) : s.entryFallsDue.arb = s.arb := by
  unfold State.entryFallsDue
  split
  · rfl
  · split <;> rfl

@[simp] theorem State.tickClock_arb (s : State) : s.tickClock.arb = s.arb := by
  unfold State.tickClock
  split_ifs <;> rfl

@[simp] theorem State.idle_arb (s : State) : s.idle.arb = s.arb := by
  unfold State.idle
  split
  · simp
  · split
    · simp
    · split
      · rfl
      · simp

end Sys2Proof.Machine
end

section
/-! The invariants of the commanded speed and of the protection stack (R57, R78) are kept by every command and by every
step. -/

namespace Sys2Proof.Machine

open Sys2Proof.Safety

/-! ### The maximum-speed setting, and start-up (R56, R73, R195, R197, R86) -/

theorem clampSetting_range {lo hi : Nat} (h : lo ≤ hi) (v : Int) :
    lo ≤ (clampSetting lo hi v).val ∧ (clampSetting lo hi v).val ≤ hi := by
  have hv := clampInt_bounds (Int.ofNat_le.2 h) v
  show lo ≤ (clampInt lo hi v).toNat ∧ (clampInt lo hi v).toNat ≤ hi
  omega

theorem loadContents_maxSpeed_range (image : Option ImageContents) :
    60 ≤ (loadContents image).settings.maxSpeed ∧ (loadContents image).settings.maxSpeed ≤ 100 := by
  cases image with
  | none => exact ⟨by decide, by decide⟩
  | some c => exact clampSetting_range (by norm_num) _

theorem settingsWrite_keepsArbiter (s : State) (item : Byte) (value : Quad) :
    s.KeepsArbiter (settingsWrite item value s).1 := by
  unfold settingsWrite
  split
  · exact .refl s
  · next i _ =>
    split
    · exact .refl s
    · next t clamped hw =>
      by_cases hi : i = .maxSpeed
      · subst hi
        cases hw
        refine ⟨fun hs => ?_, id⟩
        rw [speedSafe_iff] at hs ⊢
        obtain ⟨hspeed, htarget, -⟩ := hs
        exact ⟨hspeed, htarget, clampSetting_range (by norm_num) _⟩
      · exact .of_arb (State.writeSetting_arb hi hw)

/-- Start-up leaves the compressor stopped and the stack empty, in OFF or in LOCKOUT (R86). -/
theorem State.startUp_keepsArbiter (s : State) (straps : Straps) (lockout : Bool) {faults : Nat}
    (hf : s.arb.faultCount ≤ 3 → faults ≤ 3) : s.KeepsArbiter (s.startUp straps lockout faults) := by
  have hmax := loadContents_maxSpeed_range s.store.image
  refine ⟨fun _ => (speedSafe_iff _).2 ⟨?_, ⟨le_rfl, show 30 ≤ 100 by norm_num⟩, hmax⟩, fun ⟨_, hcount⟩ => ⟨?_, hf hcount⟩⟩
  · cases lockout <;> rfl
  · cases lockout <;> rfl

theorem State.restart_keepsArbiter (s : State) (straps : Straps) : s.KeepsArbiter (s.restart straps) :=
  s.startUp_keepsArbiter straps _ id

/-- A review after a change that the invariants do not see (R60 to R62). -/
theorem State.reviewAfter_keepsArbiter {s t : State} (h : t.arbiterView = s.arbiterView) : s.KeepsArbiter t.review :=
  (KeepsArbiter.of_view h).trans t.review_keepsArbiter

/-! ### The taking of what is in flight -/

section Taking

variable {s : State}

theorem State.takeEvent_keepsArbiter {α : Type} {p : Handoff → Option α} {f : α → State → State}
    (hf : ∀ a (s1 : State), s1.KeepsArbiter (f a s1)) : s.KeepsArbiter (s.takeEvent p f) := by
  unfold State.takeEvent
  split
  · exact .refl s
  · exact (hf _ _).after rfl

/-- A delivery to the arbiter may rely on the path state in which the expiry is taken. -/
theorem State.deliver_keepsArbiter {k : DeadlineKey} {f : Instant → State → State}
    (hf : ∀ due (s1 : State), s1.arb = s.arb → s1.KeepsArbiter (f due s1)) : s.KeepsArbiter (s.deliver k f) := by
  obtain he | ⟨d, -, -, he⟩ := s.deliver_cases k f
  · rw [he]
    exact .refl s
  · rw [he]
    exact (hf d.due (s.setTime (s.time.delivered k)) rfl).after rfl

theorem State.serve_keepsArbiter {code : List Byte} {act : State → State × Reply}
    (hact : ∀ (s1 : State), s1.KeepsArbiter (act s1).1) : s.KeepsArbiter (s.serve code act) := by
  have hlink (l : LinkPort) : s.KeepsArbiter (s.setLink l) := .of_arb rfl
  have hreply (t : State) (r : Reply) : t.KeepsArbiter (t.formReply r) := .of_arb rfl
  unfold State.serve
  split
  · exact ((hlink _).trans (hact _)).trans (hreply _ _)
  · split
    · exact ((hlink _).trans (hact _)).trans (hreply _ _)
    · exact hlink _

/-- A request whose answer leaves the arbiter's record alone. -/
theorem State.serve_keepsArbiter_of_arb {code : List Byte} {act : State → State × Reply}
    (hact : ∀ (s1 : State), (act s1).1.arb = s1.arb) : s.KeepsArbiter (s.serve code act) :=
  serve_keepsArbiter fun s1 => .of_arb (hact s1)

theorem State.takeEvent_keepsArbiter_of_arb {α : Type} {p : Handoff → Option α} {f : α → State → State}
    (hf : ∀ a (s1 : State), (f a s1).arb = s1.arb) : s.KeepsArbiter (s.takeEvent p f) :=
  takeEvent_keepsArbiter fun a s1 => .of_arb (hf a s1)

theorem State.deliver_keepsArbiter_of_arb {k : DeadlineKey} {f : Instant → State → State}
    (hf : ∀ due (s1 : State), (f due s1).arb = s1.arb) : s.KeepsArbiter (s.deliver k f) :=
  deliver_keepsArbiter fun due s1 _ => .of_arb (hf due s1)

end Taking

/-! ### Every command -/

/-- Where the outcome is a next state, the arbiter's speed and stack are safe there if they are in `s`. -/
def State.ArbiterKept (s : State) (o : Host.Outcome State Fault Refusal) : Prop := ∀ t, o = .next t → s.KeepsArbiter t

theorem State.ArbiterKept.next {s t : State} (ht : s.KeepsArbiter t) : s.ArbiterKept (.next t) :=
  fun _ he => by cases he; exact ht

section Commands

variable (s : State)

theorem clearLockout_keepsArbiter : s.KeepsArbiter (clearLockout s).1 := by
  unfold clearLockout
  split
  · next h => exact State.clearLockout_keepsArbiter h
  · exact .refl s

theorem execUptimeWrapRestart_arbiterKept (straps : Straps) : s.ArbiterKept (execUptimeWrapRestart straps s) := by
  refine .next ?_
  split
  · exact s.restart_keepsArbiter _
  · exact .refl s

theorem execReplySent_arbiterKept (straps : Straps) : s.ArbiterKept (execReplySent straps s) := by
  refine .next ?_
  split
  · split
    · exact s.restart_keepsArbiter _
    · exact .of_arb rfl
  · exact .refl s

theorem execPumpdownStage_arbiterKept : s.ArbiterKept (execPumpdownStage s) := by
  refine .next ?_
  split
  · next h => exact State.deliver_keepsArbiter fun _ s1 h1 => State.endPumpdown_keepsArbiter (by rw [h1, h])
  · exact .refl s

theorem execHoldoffStage_arbiterKept : s.ArbiterKept (execHoldoffStage s) := by
  refine .next ?_
  split
  · next h =>
    refine State.deliver_keepsArbiter fun _ s1 h1 => ?_
    rw [← h1] at h
    exact State.restore_keepsArbiter (by rw [h]; rfl) fun hs => stackShape_fault_iff.1 (h ▸ hs)
  · exact .refl s

theorem execRecoveryStage_arbiterKept : s.ArbiterKept (execRecoveryStage s) := by
  refine .next ?_
  split
  · next h => exact State.deliver_keepsArbiter fun _ s1 h1 => State.recover_keepsArbiter (by rw [h1, h])
  · exact .refl s

theorem execSpeedStep_arbiterKept : s.ArbiterKept (execSpeedStep s) :=
  .next <| State.deliver_keepsArbiter fun _ _ _ =>
    ((State.retarget_keepsArbiter _).after (State.insertAt_arb ..)).trans <|
      (State.slewSpeed_keepsArbiter _).trans (State.review_keepsArbiter _)

theorem execDriveLinkTick_arbiterKept : s.ArbiterKept (execDriveLinkTick s) := by
  have hsend (t : State) : t.KeepsArbiter t.sendDrive := .of_arb rfl
  refine .next (.trans (.trans ?_ (State.countRunSecond_keepsArbiter _)) (hsend _))
  exact (State.judgeSilence_keepsArbiter _).after rfl

theorem execDriveReceiverByte_arbiterKept (c : DriveChar) : s.ArbiterKept (execDriveReceiverByte c s) := by
  refine .next ?_
  split
  · exact s.driveByte_keepsArbiter _
  · exact .of_arb rfl

theorem execArbiterSag_arbiterKept : s.ArbiterKept (execArbiterSag s) := by
  refine .next ?_
  split
  · exact (State.takeSag_keepsArbiter _).after rfl
  · exact .refl s

theorem execArbiterNormal_arbiterKept : s.ArbiterKept (execArbiterNormal s) := by
  refine .next ?_
  split
  · exact (State.takeNormal_keepsArbiter _).after rfl
  · exact .refl s

theorem execStoreWriteEnd_arbiterKept : s.ArbiterKept (execStoreWriteEnd s) := by
  refine .next (.of_arb ?_)
  split <;> rfl

theorem execFrameRefused_arbiterKept (why : FrameRefusal) : s.ArbiterKept (execFrameRefused why s) := by
  refine .next (.of_arb ?_)
  cases why <;> split <;> rfl

theorem execOverrun_arbiterKept : s.ArbiterKept (execOverrun s) := by
  refine .next (.of_arb ?_)
  split <;> rfl

theorem execFramingError_arbiterKept : s.ArbiterKept (execFramingError s) := by
  refine .next (.of_arb ?_)
  split <;> rfl

theorem execReplyStart_arbiterKept : s.ArbiterKept (execReplyStart s) := by
  refine .next (.of_arb ?_)
  split <;> rfl

theorem execHoldExpiry_arbiterKept (slot : Nat) : s.ArbiterKept (execHoldExpiry slot s) := by
  refine .next (State.deliver_keepsArbiter_of_arb fun due s1 => ?_)
  split
  · rfl
  · exact s1.regovern_arb _ (State.lapse_arb ..)

theorem execChannelConversion_arbiterKept (c : Channel) (count : Nat) :
    s.ArbiterKept (execChannelConversion c count s) := by
  refine .next (.of_arb ?_)
  rw [State.report_arb]
  split <;> rfl

theorem execBlindHalf_arbiterKept (z : Zone) : s.ArbiterKept (execBlindHalf z s) := by
  refine .next (State.deliver_keepsArbiter_of_arb fun due s1 => ?_)
  split
  · exact s1.evaluateSchedule_arb ..
  · rfl

theorem execDoorAjar_arbiterKept (d : Door) : s.ArbiterKept (execDoorAjar d s) := by
  refine .next (State.deliver_keepsArbiter_of_arb fun due s1 => ?_)
  split <;> rfl

theorem execDoorChangeEvaluation_arbiterKept (d : Door) : s.ArbiterKept (execDoorChangeEvaluation d s) := by
  refine .next (State.takeEvent_keepsArbiter_of_arb fun e s1 => ?_)
  split
  · exact s1.evaluateDoor_arb ..
  · rfl

theorem execFanDelay_arbiterKept : s.ArbiterKept (execFanDelay s) := by
  refine .next (State.deliver_keepsArbiter_of_arb fun due s1 => ?_)
  split <;> simp

theorem execDamperArrival_arbiterKept : s.ArbiterKept (execDamperArrival s) := by
  refine .next (.of_arb ?_)
  split <;> simp

theorem execFlapArrival_arbiterKept : s.ArbiterKept (execFlapArrival s) := by
  refine .next (.of_arb ?_)
  split <;> simp

theorem execHomingEnd_arbiterKept (m : HomingMotor) : s.ArbiterKept (execHomingEnd m s) := by
  refine .next (.of_arb ?_)
  split
  · split <;> simp
  · split <;> simp
  · rfl

theorem execValveArrival_arbiterKept : s.ArbiterKept (execValveArrival s) := by
  refine .next (.of_arb ?_)
  split <;> rfl

theorem execReleaseEnd_arbiterKept : s.ArbiterKept (execReleaseEnd s) := by
  refine .next (State.takeEvent_keepsArbiter_of_arb fun e s1 => ?_)
  split <;> simp

theorem execMainsSample_arbiterKept (count : Nat) : s.ArbiterKept (execMainsSample count s) := by
  refine .next (.of_arb ?_)
  split <;> rfl

theorem execArbiterChangeToDefrost_arbiterKept : s.ArbiterKept (execArbiterChangeToDefrost s) := by
  refine .next (State.takeEvent_keepsArbiter_of_arb fun e s1 => ?_)
  split <;> simp

theorem execPendingLimit_arbiterKept : s.ArbiterKept (execPendingLimit s) := by
  refine .next (State.deliver_keepsArbiter_of_arb fun due s1 => ?_)
  split <;> simp

/-- The expiries of PHASE are delivered in the phase that they end, and leave the arbiter's record alone. -/
theorem State.phaseExpiry_arbiterKept (p : Phase) {f : Instant → State → State}
    (hf : ∀ due (s1 : State), (f due s1).arb = s1.arb) :
    s.ArbiterKept (.next (if s.defrost.phase = p then s.deliver .phase f else s)) := by
  refine .next ?_
  split
  · exact deliver_keepsArbiter_of_arb hf
  · exact .refl s

theorem execCoilS3Report_arbiterKept : s.ArbiterKept (execCoilS3Report s) := by
  refine .next (State.takeEvent_keepsArbiter_of_arb fun e s1 => ?_)
  split <;> simp

theorem execCoilRecoveryCutShort_arbiterKept : s.ArbiterKept (execCoilRecoveryCutShort s) := by
  refine .next (State.takeEvent_keepsArbiter_of_arb fun e s1 => ?_)
  split <;> simp

theorem execDamperStep_arbiterKept : s.ArbiterKept (execDamperStep s) := by
  refine .next (.of_arb ?_)
  split
  · rfl
  · rfl
  · split <;> rfl

theorem execValveStep_arbiterKept : s.ArbiterKept (execValveStep s) := by
  refine .next (.of_arb ?_)
  split
  · rfl
  · rfl
  · split <;> simp

/-- Every command keeps the arbiter's speed and stack safe. -/
theorem exec_arbiterKept (c : Instr) : s.ArbiterKept (exec c s) := by
  have read {code : List Byte} {act : State → State × Reply} (h : ∀ s1, (act s1).1 = s1) :
      s.KeepsArbiter (s.serve code act) := State.serve_keepsArbiter_of_arb fun s1 => by rw [h s1]
  cases c with
  | powerOnReset straps => exact .next (s.startUp_keepsArbiter _ _ fun _ => Nat.zero_le _)
  | uptimeWrapRestart straps => exact execUptimeWrapRestart_arbiterKept s _
  | ident => exact .next (read fun _ => rfl)
  | systemQuery => exact .next (read fun _ => rfl)
  | restart => exact .next (State.serve_keepsArbiter_of_arb fun _ => rfl)
  | holdOpen zone kind target halfBand priority flags minutes floor =>
    exact .next (State.serve_keepsArbiter_of_arb fun _ => holdOpen_arb ..)
  | holdAmend slot gen mask target halfBand priority minutes floor reach =>
    exact .next (State.serve_keepsArbiter_of_arb fun _ => holdAmend_arb ..)
  | holdRetire slot gen => exact .next (State.serve_keepsArbiter_of_arb fun _ => holdRetire_arb ..)
  | holdQuery slot gen => exact .next (read (holdQuery_fst _ _))
  | holdList zone => exact .next (read (holdList_fst _))
  | zoneQuery zone => exact .next (read (zoneQuery_fst _))
  | regimeSet regime => exact .next (State.serve_keepsArbiter_of_arb fun _ => regimeSet_arb ..)
  | mapSet zone regime fallback offset => exact .next (State.serve_keepsArbiter_of_arb fun _ => mapSet_arb ..)
  | sensorQuery channel => exact .next (read (sensorQuery_fst _))
  | correctionSet slot op channel index value =>
    exact .next (State.serve_keepsArbiter_of_arb fun _ => correctionSet_arb ..)
  | doorQuery door clear => exact .next (State.serve_keepsArbiter_of_arb fun _ => doorQuery_arb ..)
  | defrostNow => exact .next (State.serve_keepsArbiter_of_arb defrostNow_arb)
  | defrostCancel => exact .next (State.serve_keepsArbiter_of_arb defrostCancel_arb)
  | clearLockout => exact .next (State.serve_keepsArbiter clearLockout_keepsArbiter)
  | noticeNext => exact .next (State.serve_keepsArbiter_of_arb noticeNext_arb)
  | noticeEnable mask => exact .next (State.serve_keepsArbiter_of_arb fun _ => rfl)
  | settingsWrite item value =>
    exact .next (State.serve_keepsArbiter fun s1 => settingsWrite_keepsArbiter s1 _ _)
  | settingsRead item => exact .next (read (settingsRead_fst _))
  | settingsStore => exact .next (State.serve_keepsArbiter_of_arb settingsStore_arb)
  | storeWriteEnd => exact execStoreWriteEnd_arbiterKept s
  | frameRefused why => exact execFrameRefused_arbiterKept s _
  | overrun => exact execOverrun_arbiterKept s
  | framingError => exact execFramingError_arbiterKept s
  | byteGapTimeout => exact .next (.of_arb rfl)
  | replyStart => exact execReplyStart_arbiterKept s
  | replySent straps => exact execReplySent_arbiterKept s _
  | holdExpiry slot => exact execHoldExpiry_arbiterKept s _
  | holdChangeEvaluation z =>
    exact .next (State.takeEvent_keepsArbiter_of_arb fun g s1 => s1.evaluateHoldChange_arb z g)
  | channelConversion c count => exact execChannelConversion_arbiterKept s _ _
  | oneSecondEvaluation z => exact .next (State.takeEvent_keepsArbiter_of_arb fun r s1 => s1.evaluateSecond_arb z r)
  | blindHalf z => exact execBlindHalf_arbiterKept s _
  | doorSample d a b c => exact .next (.of_arb (s.sampleDoor_arb ..))
  | doorAjar d => exact execDoorAjar_arbiterKept s _
  | doorChangeEvaluation d => exact execDoorChangeEvaluation_arbiterKept s _
  | airRecompute k => exact .next (State.takeEvent_keepsArbiter_of_arb fun w s1 => s1.airTake_arb w)
  | fanDelay => exact execFanDelay_arbiterKept s
  | damperArrival => exact execDamperArrival_arbiterKept s
  | flapArrival => exact execFlapArrival_arbiterKept s
  | homingEnd m => exact execHomingEnd_arbiterKept s _
  | valveArrival => exact execValveArrival_arbiterKept s
  | startCompletion => exact .next (State.takeEvent_keepsArbiter fun pos s1 => s1.valveArrives_keepsArbiter pos)
  | releaseEnd => exact execReleaseEnd_arbiterKept s
  | arbiterReview => exact .next (State.takeEvent_keepsArbiter fun _ s1 => s1.review_keepsArbiter)
  | pumpdownStage => exact execPumpdownStage_arbiterKept s
  | holdoffStage => exact execHoldoffStage_arbiterKept s
  | recoveryStage => exact execRecoveryStage_arbiterKept s
  | inhibit => exact .next (State.deliver_keepsArbiter fun _ _ _ => State.reviewAfter_keepsArbiter rfl)
  | dwellMin => exact .next (State.deliver_keepsArbiter fun _ _ _ => State.reviewAfter_keepsArbiter rfl)
  | dwellMax => exact .next (State.deliver_keepsArbiter fun _ _ _ => State.reviewAfter_keepsArbiter rfl)
  | speedStep => exact execSpeedStep_arbiterKept s
  | driveLinkTick => exact execDriveLinkTick_arbiterKept s
  | statusFrame seq actual code check => exact .next ((State.takeStatus_keepsArbiter ..).after rfl)
  | mainsSample count => exact execMainsSample_arbiterKept s _
  | arbiterSag => exact execArbiterSag_arbiterKept s
  | arbiterNormal => exact execArbiterNormal_arbiterKept s
  | arbiterChangeToDefrost => exact execArbiterChangeToDefrost_arbiterKept s
  | defrostS4Report => exact .next (State.takeEvent_keepsArbiter_of_arb fun r s1 => s1.takeS4_arb r)
  | pendingLimit => exact execPendingLimit_arbiterKept s
  | prechillPhaseExpiry => exact s.phaseExpiry_arbiterKept .prechill fun _ s1 => s1.enterRelease_arb
  | heatPhaseExpiry => exact s.phaseExpiry_arbiterKept .heat fun _ s1 => s1.endHeat_arb _
  | dripPhaseExpiry => exact s.phaseExpiry_arbiterKept .drip fun _ s1 => s1.enterRecover_arb
  | recoverPhaseExpiry => exact s.phaseExpiry_arbiterKept .recover fun _ s1 => s1.endRecover_arb
  | coilS3Report => exact execCoilS3Report_arbiterKept s
  | coilRecovery => exact .next (State.deliver_keepsArbiter_of_arb fun _ s1 => s1.endRecovery_arb)
  | coilRecoveryCutShort => exact execCoilRecoveryCutShort_arbiterKept s
  | deadlineFallsDue => exact .next (.of_arb s.entryFallsDue_arb)
  | noticeRaise n => exact .next (State.takeEvent_keepsArbiter_of_arb fun _ _ => rfl)
  | characterReceived b => exact .next (.of_arb (s.receive_arb b))
  | driveReceiverByte c => exact execDriveReceiverByte_arbiterKept s _
  | damperStep => exact execDamperStep_arbiterKept s
  | valveStep => exact execValveStep_arbiterKept s
  | pwmPeriodBoundary => exact .next (.of_arb rfl)

end Commands

/-- Settles O43: a step runs one command or moves the clock, and each keeps the arbiter's speed and stack safe. -/
theorem everyStepKeepsSpeedAndStack : Obligations.EveryStepKeepsSpeedAndStack := by
  have hkeeps (s t : State) (hstep : step s = .next t) : s.KeepsArbiter t := by
    unfold step at hstep
    split at hstep
    · cases hstep
      exact .of_arb s.idle_arb
    · next c rest _ => exact (exec_arbiterKept (s.setPending rest) c t hstep).after rfl
  exact ⟨fun s t hs hstep => (hkeeps s t hstep).speed hs, fun s t hs hstep => (hkeeps s t hstep).stack hs⟩

end Sys2Proof.Machine
end

section
/-! Reviews (R60 to R73): the choice of a start path in OFF, the decision of a run, and the arrival that completes a start. -/

namespace Sys2Proof.Machine

open Sys2Proof.Safety

/-! ### The choice of the start path (R63) -/

section Choice

variable {s : State} {p q : Path}

theorem State.choosePath_of_none (h : ∀ x, s.wanted x = false) : s.choosePath = none := by
  unfold State.choosePath
  split <;> simp_all

/-- The resume preference decides where its path is wanted (R63). -/
theorem State.choosePath_of_preferred (hp : s.arb.resumePref = some p) (hw : s.wanted p = true) :
    s.choosePath = some p := by
  cases p with
  | fresh => simp only [choosePath, hp, hw]
  | freeze => simp only [choosePath, hp, hw]

/-- Otherwise the higher urgency decides, FREEZE at equality, or the one path that is wanted (R63). -/
theorem State.choosePath_of_better (hpq : p ≠ q) (hq : ¬ (s.arb.resumePref = some q ∧ s.wanted q = true))
    (hw : s.wanted p = true)
    (h : s.wanted q = false ∨ s.countedUrgency q < s.countedUrgency p ∨
      (s.countedUrgency q = s.countedUrgency p ∧ p = .freeze)) : s.choosePath = some p := by
  cases p <;> cases q <;> first | exact absurd rfl hpq | skip
  · unfold State.choosePath
    split <;> simp_all
  · unfold State.choosePath
    split <;> simp_all
    omega

end Choice

/-! ### The decision of a run (R66 to R68) -/

section Decision

variable {s : State} {p : Path}

/-- May the review of a run decide (R66, R67)? -/
def State.MayDecide (s : State) (p : Path) : Prop :=
  s.arb.dwellMinMet = true ∧ ¬ (p = .freeze ∧ s.defrost.phase = .prechill)

theorem State.decideRun_of_barred (h : ¬ s.MayDecide p) : s.decideRun p = .stay := by
  refine if_pos ?_
  rwa [MayDecide, not_and_not_right, imp_iff_or_not, Bool.not_eq_true] at h

theorem State.decideRun_of_may (h : s.MayDecide p) : s.decideRun p =
    decision (s.countedUrgency p) (s.countedUrgency (otherPath p)) (s.wanted (otherPath p)) s.arb.dwellMaxMet := by
  obtain ⟨hmet, hpinned⟩ := h
  exact if_neg (not_or.2 ⟨hpinned, by simp [hmet]⟩)

theorem decision_eq_switch_iff (up uq : Nat) (q dwellMaxMet : Bool) :
    decision up uq q dwellMaxMet = .switch ↔ q = true ∧ (up = 0 ∨ up + 300 ≤ uq ∨ dwellMaxMet = true) := by
  unfold decision
  split_ifs <;> simp_all

theorem decision_eq_stop_iff (up uq : Nat) (q dwellMaxMet : Bool) :
    decision up uq q dwellMaxMet = .stop ↔ up = 0 ∧ q = false := by
  unfold decision
  split_ifs <;> simp_all

theorem State.decideRun_eq_switch_iff : s.decideRun p = .switch ↔ s.MayDecide p ∧ s.wanted (otherPath p) = true ∧
    (s.countedUrgency p = 0 ∨ s.countedUrgency p + 300 ≤ s.countedUrgency (otherPath p) ∨ s.arb.dwellMaxMet = true) := by
  by_cases h : s.MayDecide p
  · rw [decideRun_of_may h, decision_eq_switch_iff, and_iff_right h]
  · simp [decideRun_of_barred h, h]

theorem State.decideRun_eq_stop_iff :
    s.decideRun p = .stop ↔ s.MayDecide p ∧ s.countedUrgency p = 0 ∧ s.wanted (otherPath p) = false := by
  by_cases h : s.MayDecide p
  · rw [decideRun_of_may h, decision_eq_stop_iff, and_iff_right h]
  · simp [decideRun_of_barred h, h]

/-- A review of a run that neither is forced to leave nor decides to has the target recomputed (R72). -/
theorem State.reviewRun_of_stays (hp : s.available p = true) (hswitch : s.decideRun p ≠ .switch)
    (hstop : s.decideRun p ≠ .stop) : s.reviewRun p = s.retarget := by
  rw [State.reviewRun, if_neg (by simp [hp])]
  split
  · rfl
  · next h => exact absurd h hswitch
  · next h => exact absurd h hstop

/-- A review of a run that leaves it leaves for the other path where that is wanted, unless it stops (R66, R68). -/
theorem State.reviewRun_of_leaves (h : s.available p = false ∨ s.decideRun p = .switch ∨ s.decideRun p = .stop) :
    ∃ toOther, s.reviewRun p = s.leave p toOther ∧
      (toOther = true ↔ s.wanted (otherPath p) = true ∧ (s.available p = false ∨ s.decideRun p = .switch)) := by
  cases hp : s.available p with
  | false => exact ⟨_, if_pos hp, by simp⟩
  | true =>
    rw [State.reviewRun, if_neg (by simp [hp])]
    rcases h with h | h | h
    · rw [hp] at h; cases h
    · exact ⟨true, by simp only [h], by simp [h, (decideRun_eq_switch_iff.1 h).2.1]⟩
    · exact ⟨false, by simp only [h], by simp [h]⟩

end Decision

/-! ### The review as a command -/

theorem execArbiterReview_of_taken {s : State} {rest : List Handoff}
    (h : takeFirst (onlyEvent .review) s.events = some ((), rest)) :
    exec .arbiterReview s = .next (s.setEvents rest).review := congrArg _ (State.takeEvent_of_some _ h)

/-! ### The arrival that completes a start (R64, log entry 25) -/

theorem execStartCompletion_of_taken {s : State} {pos : Nat} {rest : List Handoff}
    (h : takeFirst arbiterArrivalOf s.events = some (pos, rest)) :
    exec .startCompletion s = .next ((s.setEvents rest).valveArrives pos) := congrArg _ (State.takeEvent_of_some _ h)

theorem State.valveArrives_of_starting {s : State} {p : Path} (hoff : s.arb.state = .off)
    (hp : s.arb.startPath = some p) (pos : Nat) :
    s.valveArrives pos = if pos = valveEnd p ∧ s.available p = true then s.completeStart p else s.startCheck p := by
  rw [← State.review_of_starting hoff hp]
  simp only [State.valveArrives, hoff, hp]

theorem State.valveArrives_of_resting {s : State} (h : s.arb.state = .pumpdown ∨ s.arb.state.isHalted = true)
    (pos : Nat) : s.valveArrives pos = s := by
  unfold State.valveArrives
  split
  · next hoff _ => simp [hoff, PathState.isHalted] at h
  · exact State.review_of_resting h

/-! ### The obligations -/

/-- Settles O35: the branches of the start choice and of the start-path check. -/
theorem reviewInOffChoosesTheStartPath : Obligations.ReviewInOffChoosesTheStartPath := by
  intro s rest hrev quiet u free want pref aim
  have hexec : exec .arbiterReview s = .next quiet.review := execArbiterReview_of_taken hrev
  have hu (x : Path) : u x = quiet.countedUrgency x := by
    cases x with
    | fresh => rfl
    | freeze => exact quiet.countedUrgency_freeze.symm
  have hfree (hoff : s.arb.state = .off) (x : Path) : free x ↔ quiet.available x = true := by
    have hrun : quiet.arb.state.isHalted = false := congrArg PathState.isHalted hoff
    cases x with
    | fresh => exact (State.available_fresh hrun).symm
    | freeze => exact (State.available_freeze hrun).symm
  have hwant (hoff : s.arb.state = .off) (x : Path) : want x ↔ quiet.wanted x = true := by
    rw [State.wanted_iff, ← hu, ← hfree hoff]
  have haim (x : Path) : aim x = valveEnd x := by cases x <;> rfl
  refine ⟨fun hrest => ?resting, fun hoff hnone => ⟨fun hno => ?none, fun p q hpq hinhibit hp => ?chosen⟩,
    fun p hoff hstart => ⟨fun hp => ?kept, fun hp => ?abandoned⟩⟩
  case resting => rw [hexec, State.review_of_resting (s := quiet) hrest]
  case none =>
    rw [hexec, State.review_of_off (s := quiet) hoff hnone, State.startChoice_of_none]
    refine hno.imp_right fun ⟨hfresh, hfreeze⟩ => State.choosePath_of_none fun x => ?_
    rw [← Bool.not_eq_true, ← hwant hoff]
    cases x with
    | fresh => exact hfresh
    | freeze => exact hfreeze
  case chosen =>
    have hchoice : quiet.choosePath = some p := by
      simp only [pref, hwant hoff, hu] at hp
      rcases hp with ⟨hpref, hw⟩ | ⟨hq, hw, hbetter⟩
      · exact State.choosePath_of_preferred hpref hw
      · exact State.choosePath_of_better hpq hq hw (hbetter.imp_left (by simp))
    rw [hexec, State.review_of_off (s := quiet) hoff hnone, State.startChoice_of_chosen (s := quiet) hinhibit hchoice, State.beginStart_eq, haim]
  case kept =>
    rw [hexec, State.review_of_starting (s := quiet) hoff hstart, State.startCheck, if_pos ((hfree hoff p).1 hp)]
  case abandoned =>
    rw [hexec, State.review_of_starting (s := quiet) hoff hstart, State.startCheck, if_neg fun h => hp ((hfree hoff p).2 h),
      State.abandonStart_eq]
    rfl

theorem otherPath_of_ne {p q : Path} (h : p ≠ q) : otherPath p = q := by
  cases p <;> cases q <;> first | rfl | exact absurd rfl h

/-- Settles O36: a run stays, or leaves by the path that its forced leave or its decision gives. -/
theorem reviewOfARunDecides : Obligations.ReviewOfARunDecides := by
  intro s rest p q hrev hpq hstate u free want pinned may switch stop
  let quiet := s.setEvents rest
  have hrun : quiet.arb.state = runState p := by
    cases p with
    | fresh => exact hstate
    | freeze => exact hstate
  have hexec : exec .arbiterReview s = .next (quiet.reviewRun p) := by
    rw [execArbiterReview_of_taken hrev, State.review_of_run (s := quiet) hrun]
  have hhalt : quiet.arb.state.isHalted = false := by rw [hrun]; exact runState_isHalted p
  have hu (x : Path) : u x = quiet.countedUrgency x := by
    cases x with
    | fresh => rfl
    | freeze => exact quiet.countedUrgency_freeze.symm
  have hfree (x : Path) : free x ↔ quiet.available x = true := by
    cases x with
    | fresh => exact (State.available_fresh hhalt).symm
    | freeze => exact (State.available_freeze hhalt).symm
  have hwant (x : Path) : want x ↔ quiet.wanted x = true := by rw [State.wanted_iff, ← hu, ← hfree]
  have hmay : may ↔ quiet.MayDecide p := Iff.rfl
  have hswitch : switch ↔ quiet.decideRun p = .switch := by
    simp only [switch, hmay, hwant, hu, State.decideRun_eq_switch_iff, otherPath_of_ne hpq]
    rfl
  have hstop : stop ↔ quiet.decideRun p = .stop := by
    simp only [stop, hmay, hwant, hu, State.decideRun_eq_stop_iff, otherPath_of_ne hpq, Bool.not_eq_true]
  simp only [hwant, hfree, Bool.not_eq_true, hswitch, hstop]
  refine ⟨fun hp hns hnt => ?stays, fun hleaves => ?leaves⟩
  case stays =>
    rw [hexec, State.reviewRun_of_stays hp hns hnt, State.retarget_eq (by rw [hrun, runState_path]),
      State.targetOn_eq_speedAim]
    rfl
  case leaves =>
    obtain ⟨toOther, hleave, hother⟩ := State.reviewRun_of_leaves hleaves
    rw [otherPath_of_ne hpq] at hother
    rw [hleave] at hexec
    cases p with
    | fresh =>
      rw [State.leave, State.enterPumpdown_eq (by rw [hrun]; nofun), hrun] at hexec
      refine ⟨_, hexec, rfl, fun _ => ⟨rfl, ?_, ?_, ?_⟩, nofun, nofun⟩
      · simp [DueAfter, Timebase.pumpingDown, quiet]
      · rw [noneOf_iff]
        simp [Timebase.pumpingDown]
      · rw [timeKept_iff_apart]
        simp [Timebase.pumpingDown, quiet]
    | freeze =>
      cases toOther with
      | true =>
        rw [State.leave, if_pos rfl, State.runOn_eq (by rw [hrun]; nofun), hrun, State.targetOn_eq_speedAim] at hexec
        refine ⟨_, hexec, rfl, nofun, fun _ _ => ⟨rfl, ?_, ?_, ?_⟩, fun _ h => absurd (hother.1 rfl) h⟩
        · simp [DueAfter, Timebase.dwelling, quiet]
        · simp [DueAfter, Timebase.dwelling, quiet]
        · rw [timeKept_iff_apart]
          simp [Timebase.dwelling, quiet]
      | false =>
        rw [State.leave, if_neg nofun, State.stopToOff_eq (by rw [hrun]; nofun), hrun] at hexec
        refine ⟨_, hexec, rfl, nofun, fun _ h => absurd (hother.2 h) nofun, fun _ _ => ⟨rfl, ?_, ?_, ?_⟩⟩
        · simp [DueAfter, Timebase.stopped, quiet]
        · rw [noneOf_iff]
          simp [Timebase.stopped]
        · rw [timeKept_iff_apart]
          simp [Timebase.stopped, quiet]

/-- Settles O37: an arrival at the end of an available start path completes the start, any other is a review. -/
theorem arrivalCompletesTheStart : Obligations.ArrivalCompletesTheStart := by
  intro s pos rest harr free endOf
  let quiet := s.setEvents rest
  have hexec : exec .startCompletion s = .next (quiet.valveArrives pos) := execStartCompletion_of_taken harr
  have hend (x : Path) : endOf x = valveEnd x := by cases x <;> rfl
  have hfree (hoff : s.arb.state = .off) (x : Path) : free x ↔ quiet.available x = true := by
    have hhalt : quiet.arb.state.isHalted = false := congrArg PathState.isHalted hoff
    cases x with
    | fresh => exact (State.available_fresh hhalt).symm
    | freeze => exact (State.available_freeze hhalt).symm
  refine ⟨fun hrest => ?resting, fun p hoff hstart => ?starting⟩
  case resting => rw [hexec, State.valveArrives_of_resting (s := quiet) hrest]; rfl
  case starting =>
    rw [State.valveArrives_of_starting (s := quiet) hoff hstart] at hexec
    simp only [hfree hoff, hend]
    refine ⟨fun hp hpos => ?completed, fun hp hpos => ?elsewhere, fun hp => ?abandoned⟩
    case completed =>
      rw [if_pos ⟨hpos, hp⟩, State.completeStart_eq (by rw [show quiet.arb.state = .off from hoff]; cases p <;> nofun),
        show quiet.arb.state = .off from hoff, State.targetOn_eq_speedAim] at hexec
      refine ⟨_, hexec, by cases p <;> rfl, ?_, ?_, ?_, ?_⟩
      · simp [DueAfter, Timebase.dwelling, quiet]
      · simp [DueAfter, Timebase.dwelling, quiet]
      · simp [DueAfter, Timebase.dwelling, quiet]
      · rw [timeKept_iff_apart]
        simp [Timebase.dwelling, quiet]
    case elsewhere =>
      rw [hexec, if_neg fun h => hpos h.1, State.startCheck, if_pos hp]
      rfl
    case abandoned =>
      rw [hexec, if_neg fun h => hp h.2, State.startCheck, if_neg hp, State.abandonStart_eq]
      rfl

end Sys2Proof.Machine
end

section
/-! Deliveries to the path arbiter: STAGE in each state that waits for it (R69, R82, R83), and the arbiter's own timers (R60
to R62, R74). -/

namespace Sys2Proof.Machine

open Sys2Proof.Safety

/-- A review that stands first among the hand-offs is taken, and they are left as they were. -/
theorem execArbiterReview_of_head (s : State) (es : List Handoff) :
    exec .arbiterReview { s with events := .review :: es } = .next (s.setEvents es).review :=
  execArbiterReview_of_taken (by simp [takeFirst, onlyEvent])

/-! ### PUMPDOWN_STAGE (R69) -/

theorem execPumpdownStage_of_delivers {s : State} {due : Instant} (h : s.arb.state = .pumpdown)
    (hd : Delivers s .stage due) : exec .pumpdownStage s = .next (expired s .stage).endPumpdown :=
  congrArg _ ((if_pos h).trans (State.deliver_of_delivers hd _))

/-- Settles O38: PUMPDOWN ends into RUN_FREEZE where FREEZE is wanted, and into OFF otherwise. -/
theorem pumpdownEndsAtItsStage : Obligations.PumpdownEndsAtItsStage := by
  intro s due hpump hd u want
  have hrun : (expired s .stage).arb.state = .pumpdown := hpump
  have hwant : want ↔ (expired s .stage).wanted .freeze = true := by
    rw [State.wanted_iff, State.available_freeze (by rw [hrun]; rfl), State.countedUrgency_freeze]
    rfl
  have hexec := execPumpdownStage_of_delivers hpump hd
  rw [State.endPumpdown] at hexec
  by_cases hw : want
  · rw [if_pos (hwant.1 hw), State.runOn_eq (by rw [hrun]; nofun), hrun, State.targetOn_eq_speedAim] at hexec
    refine ⟨_, hexec, ?_, ?_, fun _ => ⟨rfl, ?_, ?_, ?_⟩, fun h => absurd hw h⟩
    · simp +contextual [Timebase.dwelling, expired_eq]
    · rw [decide_eq_true hw]
      rfl
    · simp [DueAfter, Timebase.dwelling, expired_eq]
    · simp [DueAfter, Timebase.dwelling, expired_eq]
    · rw [timeKept_iff_apart]
      simp [Timebase.dwelling, expired_eq]
  · rw [if_neg fun h => hw (hwant.2 h), State.stopToOff_eq (by rw [hrun]; nofun), hrun] at hexec
    refine ⟨_, hexec, ?_, ?_, fun h => absurd h hw, fun _ => ⟨rfl, ?_, ?_, ?_⟩⟩
    · simp +contextual [Timebase.stopped, expired_eq]
    · rw [decide_eq_false hw]
      rfl
    · simp [DueAfter, Timebase.stopped, expired_eq]
    · rw [noneOf_iff]
      simp [Timebase.stopped]
    · rw [timeKept_iff_apart]
      simp [Timebase.stopped, expired_eq]

/-! ### HOLDOFF_STAGE and RECOVERY_STAGE (R82, R83) -/

theorem execHoldoffStage_of_delivers {s : State} {due : Instant} (h : s.arb.state = .halted .fault)
    (hd : Delivers s .stage due) : exec .holdoffStage s = .next (expired s .stage).restore :=
  congrArg _ ((if_pos h).trans (State.deliver_of_delivers hd _))

theorem execRecoveryStage_of_delivers {s : State} {due : Instant} (h : s.arb.state = .halted .sag)
    (hd : Delivers s .stage due) : exec .recoveryStage s = .next (expired s .stage).recover :=
  congrArg _ ((if_pos h).trans (State.deliver_of_delivers hd _))

theorem State.recover_of_path {s : State} {l : SavedState} {rest : List Context} (h : s.arb.stack = .path l :: rest) :
    s.recover = s.restore := by simp only [State.recover, h]

theorem State.recover_of_holdoff {s : State} {n : Nat} {rest : List Context} (h : s.arb.stack = .holdoff n :: rest)
    (hs : s.arb.state = .halted .sag) : s.recover = { s with
      arb := { s.arb with state := .halted .fault, stack := rest, valveTarget := Config.valveClosed }
      time := s.time.wait .stage n, events := s.events ++ changeHanded (.halted .sag) (.halted .fault) } := by
  simp only [State.recover, h]
  rw [State.changePath_eq (by rw [State.setArb_arb, hs]; nofun), ← hs]
  rfl

/-- The state restored over one path context, as the statements write it. -/
theorem State.restored_of_stack {s : State} {l : SavedState} (h : s.arb.stack = [.path l])
    (hs : s.arb.state ≠ .runFresh) : s.restored = { s with
      arb := { s.arb with state := .off, startPath := none, resumePref := resumeOf l, stack := [], valveTarget := 60 }
      events := s.events ++ [.airPathState false, .arbiterToDefrost false false] } := by
  simp only [State.restored, h, popPath, changeHanded, decide_eq_false hs]
  rfl

/-- Settles O39: a restored context is OFF followed by a review, and a holdoff goes on for the seconds saved. -/
theorem stageRestoresTheContext : Obligations.StageRestoresTheContext := by
  intro s due l hd pref off restores
  have hpref : pref = resumeOf l := by cases l <;> rfl
  have hrestores {c : Instr} (hfresh : s.arb.state ≠ .runFresh) (hoff : s.arb.state ≠ .off) (hstack : s.arb.stack = [.path l])
      (hexec : exec c s = .next (expired s .stage).restore) : restores c := by
    have hreview : exec c s = .next off.review := by
      rw [hexec, State.restore_eq (s := expired s .stage) hoff,
        State.restored_of_stack (s := expired s .stage) hstack hfresh, ← hpref]
      rfl
    refine ⟨fun hinhibit => ?_, _, hreview, execArbiterReview_of_head off _⟩
    rw [hreview, State.review_of_off (s := off) rfl rfl, State.startChoice_of_none (s := off) (.inl hinhibit)]
  refine ⟨fun hs hstack => ?fault, fun hs => ⟨fun hstack => ?sag, fun n hstack => ?holdoff⟩⟩
  case fault => exact hrestores (by rw [hs]; nofun) (by rw [hs]; nofun) hstack (execHoldoffStage_of_delivers hs hd)
  case sag =>
    refine hrestores (by rw [hs]; nofun) (by rw [hs]; nofun) hstack ?_
    rw [execRecoveryStage_of_delivers hs hd, State.recover_of_path (s := expired s .stage) hstack]
  case holdoff =>
    have hexec := execRecoveryStage_of_delivers hs hd
    rw [State.recover_of_holdoff (s := expired s .stage) hstack hs] at hexec
    refine ⟨_, hexec, rfl, ?_, ?_, ?_⟩
    · simp [DueAfter, expired_eq]
    · simp [expired_eq]
    · rw [timeKept_iff_apart]
      simp [expired_eq]

/-! ### DWELL_MIN, DWELL_MAX, INHIBIT and SPEED_STEP (R60 to R62, R74) -/

/-- A timer that sets a flag of the arbiter's record, and the review that follows. -/
theorem reviewed_of_flagged {s : State} {c : Instr} {flagged : State} {es : List Handoff} (hes : flagged.events = es)
    (hexec : exec c s = .next flagged.review) :
    (∃ t, exec c s = .next t ∧ exec .arbiterReview { flagged with events := .review :: es } = .next t) ∧
      (flagged.arb.state = .pumpdown ∨ flagged.arb.state.isHalted = true → exec c s = .next flagged) := by
  subst hes
  exact ⟨⟨_, hexec, execArbiterReview_of_head flagged _⟩, fun h => by rw [hexec, State.review_of_resting h]⟩

theorem execSpeedStep_of_delivers {s : State} {due : Instant} (hd : Delivers s .speedStep due) :
    exec .speedStep s
      = .next (s.setTime (s.time.rearmed .speedStep (due.plus 10))).retarget.slewSpeed.review :=
  congrArg _ (State.deliver_of_delivers hd _)

theorem State.slewSpeed_eq {s : State} {p : Path} (h : s.arb.state.path = some p) :
    s.slewSpeed = s.setArb { s.arb with speed := slew s.arb.speed s.arb.speedTarget } := by
  simp only [State.slewSpeed, h]

theorem State.slewSpeed_of_none {s : State} (h : s.arb.state.path = none) : s.slewSpeed = s := by
  simp only [State.slewSpeed, h]

theorem PathState.path_of_resting {st : PathState} (h : st = .pumpdown ∨ st.isHalted = true) : st.path = none := by
  cases st <;> simp_all [PathState.isHalted, PathState.path]

/-- Settles O40: each delivery's own work on the record, and the review that follows it. -/
theorem arbiterTimersAct : Obligations.ArbiterTimersAct := by
  refine ⟨?flags, ?steps⟩
  case flags =>
    intro s due k c a hk hd flagged
    rcases hk with ⟨rfl, rfl, rfl⟩ | ⟨rfl, rfl, rfl⟩ | ⟨rfl, rfl, rfl⟩ <;>
      exact reviewed_of_flagged rfl (congrArg _ (State.deliver_of_delivers hd _))
  case steps =>
    intro s due hd rearmed
    let stepped := s.setTime (s.time.rearmed .speedStep (due.plus 10))
    have htime : stepped = { s with time := rearmed } := by
      simp [stepped, rearmed, Timebase.rearmed, Timebase.withEntry, State.setTime, Instant.plus]
    have hexec : exec .speedStep s = .next stepped.retarget.slewSpeed.review := execSpeedStep_of_delivers hd
    refine ⟨fun hrest => ?resting, fun p hp => ?running⟩
    case resting =>
      have hnone : stepped.arb.state.path = none := PathState.path_of_resting hrest
      rw [hexec, State.retarget_of_none hnone, State.slewSpeed_of_none hnone,
        State.review_of_resting (s := stepped) hrest, htime]
    case running =>
      intro target speed
      have htarget : stepped.targetOn p = target := State.targetOn_eq_speedAim stepped p
      let moved : State := stepped.setArb { s.arb with speedTarget := target, speed := slew s.arb.speed target }
      have hmoved : stepped.retarget.slewSpeed = moved := by
        rw [State.retarget_eq (s := stepped) hp, htarget, State.slewSpeed_eq (p := p)]
        · rfl
        · exact hp
      rw [hmoved] at hexec
      refine ⟨_, hexec, ?_⟩
      have hreview := execArbiterReview_of_head moved s.events
      simp only [moved, htime] at hreview ⊢
      exact hreview

end Sys2Proof.Machine
end

section
/-! The mains and the path arbiter: a declared SAG in each path state, NORMAL, and the end of a lockout (R81, R82, R85). -/

namespace Sys2Proof.Machine

open Sys2Proof.Safety

/-! ### A declared SAG (R81) -/

section Sag

variable {s : State}

theorem State.takeSag_of_lockout (h : s.arb.state = .halted .lockout) : s.takeSag = s := by simp only [State.takeSag, h]

theorem State.takeSag_of_sag (h : s.arb.state = .halted .sag) :
    s.takeSag = { s with time := s.time.without .stage, events := s.events ++ [.raise .mainsSag] } := by
  simp only [State.takeSag, h]
  rfl

theorem State.takeSag_of_fault (h : s.arb.state = .halted .fault) : s.takeSag = { s with
    arb := { s.arb with
      state := .halted .sag, stack := .holdoff s.holdoffLeft :: s.arb.stack, valveTarget := Config.valveClosed }
    time := s.time.without .stage
    events := s.events ++ (changeHanded (.halted .fault) (.halted .sag) ++ [.raise .mainsSag]) } := by
  simp only [State.takeSag, h]
  rw [State.changePath_eq (by rw [State.removeDeadline_arb, State.setArb_arb]; nofun), ← List.append_assoc]
  rfl

theorem State.takeSag_of_off (h : s.arb.state = .off) : s.takeSag = { s with
    arb := { s.arb with
      state := .halted .sag, stack := .path .off :: s.arb.stack, startPath := none, valveTarget := Config.valveClosed }
    events := s.events ++ (changeHanded .off (.halted .sag) ++ [.raise .mainsSag]) } := by
  have hsaved : savedState s.arb.state = .off := by rw [h]; rfl
  simp only [State.takeSag, h]
  rw [State.changePath_eq (by rw [State.setArb_arb, State.pushPath, State.setArb_arb, h]; nofun), ← hsaved, ← h, ← List.append_assoc]
  rfl

theorem State.takeSag_of_commandsRun (h : s.arb.state.commandsRun = true) : s.takeSag = { s with
    arb := { s.arb with
      state := .halted .sag, stack := .path (savedState s.arb.state) :: s.arb.stack, speed := 0
      valveTarget := Config.valveClosed, inhibitRunning := true }
    time := s.time.stopped.without .stage
    events := s.events ++ (changeHanded s.arb.state (.halted .sag) ++ [.raise .mainsSag]) } := by
  have hhalt : s.takeSag = (s.haltRun .sag).raiseNotice .mainsSag := by
    unfold State.takeSag
    split
    case h_5 => rfl
    all_goals next hs => rw [hs] at h; cases h
  rw [hhalt, State.haltRun_eq h, ← List.append_assoc]
  rfl

/-- The seconds saved are those to the due instant of the holdoff, at least 1 (log entry 36). -/
theorem State.holdoffLeft_of_found {d : Deadline}
    (h : (s.time.deadlines ++ s.time.expiries).find? (fun e => decide (e.key = .stage)) = some d) :
    s.holdoffLeft = max 1 (d.due.sec - s.time.uptime) := by
  simp only [State.holdoffLeft, State.dueOf, h, Option.map_some]

end Sag

theorem execArbiterSag_of_taken {s : State} {rest : List Handoff} (h : takeFirst mainsOf s.events = some (.sag, rest)) :
    exec .arbiterSag s = .next (s.setEvents rest).takeSag := by
  change Host.Outcome.next _ = _
  simp only [takeMains, h, if_true]

theorem execArbiterNormal_of_taken {s : State} {rest : List Handoff}
    (h : takeFirst mainsOf s.events = some (.normal, rest)) :
    exec .arbiterNormal s = .next (s.setEvents rest).takeNormal := by
  change Host.Outcome.next _ = _
  simp only [takeMains, h, if_true]

/-- Settles O41: the SAG by the path state it interrupts, and the NORMAL that begins the recovery wait. -/
theorem sagHaltsAndNormalWaits : Obligations.SagHaltsAndNormalWaits := by
  intro s rest
  let quiet := s.setEvents rest
  refine ⟨fun htaken => ?sag, fun htaken => ?normal⟩
  case sag =>
    intro halted
    have hexec : exec .arbiterSag s = .next quiet.takeSag := execArbiterSag_of_taken htaken
    refine ⟨fun h => ?lockout, fun h => ?run, fun h => ?off, fun h => ?fault, fun h => ?waiting⟩
    case lockout => rw [hexec, State.takeSag_of_lockout (s := quiet) h]; rfl
    case off => rw [hexec, State.takeSag_of_off (s := quiet) h]; rfl
    case run =>
      rw [State.takeSag_of_commandsRun (s := quiet) h] at hexec
      refine ⟨_, hexec, rfl, ?_, ?_, ?_⟩
      · simp [quiet, DueAfter, Timebase.stopped]
      · rw [noneOf_iff]
        simp [quiet, Timebase.stopped]
      · rw [timeKept_iff_apart]
        simp [quiet, Timebase.stopped]
    case fault =>
      rw [State.takeSag_of_fault (s := quiet) h] at hexec
      refine ⟨_, quiet.holdoffLeft, hexec, rfl, quiet.one_le_holdoffLeft, ?_, ?_, fun d => State.holdoffLeft_of_found⟩
      · rw [noneOf_iff]
        simp [quiet]
      · rw [timeKept_iff_apart]
        simp [quiet]
    case waiting =>
      rw [State.takeSag_of_sag (s := quiet) h] at hexec
      refine ⟨_, hexec, rfl, ?_, ?_⟩
      · rw [noneOf_iff]
        simp [quiet]
      · rw [timeKept_iff_apart]
        simp [quiet]
  case normal =>
    have hexec : exec .arbiterNormal s = .next quiet.takeNormal := execArbiterNormal_of_taken htaken
    refine ⟨fun h => ?_, fun h => ?_⟩
    · rw [State.takeNormal, if_pos (show quiet.arb.state = _ from h), State.insertAfter_eq] at hexec
      refine ⟨_, hexec, rfl, ?_, ?_⟩
      · simp [quiet, DueAfter]
      · rw [timeKept_iff_apart]
        simp [quiet]
    · rw [hexec, State.takeNormal, if_neg (show quiet.arb.state ≠ _ from h)]
      rfl

/-! ### CLEAR LOCKOUT (R85) -/

/-- OFF with the count cleared, before the mains and the review are heeded (R85). -/
def State.unlocked (s : State) : State := { s with
  arb := { s.arb with state := .off, valveTarget := Config.valveClosed, faultCount := 0, runSeconds := 0 }
  events := s.events ++ changeHanded s.arb.state .off }

theorem State.clearLockout_eq {s : State} (h : s.arb.state ≠ .off) :
    s.clearLockout = if s.meas.mains.state = .sag then s.unlocked.takeSag else s.unlocked.review := by
  rw [State.clearLockout, State.changePath_eq h]
  rfl

/-- A review in OFF does not look at the link port. -/
theorem State.review_setLink_of_off {s : State} (h : s.arb.state = .off) (l : LinkPort) :
    (s.setLink l).review = s.review.setLink l := by
  cases hp : s.arb.startPath with
  | some p =>
    rw [review_of_starting h hp, review_of_starting (s := s.setLink l) h hp]
    simp only [State.startCheck, apply_ite (State.setLink · l)]
    rfl
  | none =>
    rw [review_of_off h hp, review_of_off (s := s.setLink l) h hp]
    have hpath : (s.setLink l).choosePath = s.choosePath := rfl
    cases hc : s.choosePath with
    | none => rw [startChoice_of_none (.inr hc), startChoice_of_none (.inr (hpath.trans hc))]
    | some p =>
      cases hi : s.arb.inhibitRunning with
      | true => rw [startChoice_of_none (.inl hi), startChoice_of_none (s := s.setLink l) (.inl hi)]
      | false =>
        rw [startChoice_of_chosen hi hc, startChoice_of_chosen (s := s.setLink l) hi (hpath.trans hc)]
        rfl

/-- Settles O42: LATE outside LOCKOUT, and in it OFF with a review, or the SAG that stands. -/
theorem clearLockoutEndsTheLockout : Obligations.ClearLockoutEndsTheLockout := by
  intro s ht off replied
  let taken := s.setLink (s.link.taking [0x42])
  refine ⟨fun hs => ?late, fun hs => ?lockout⟩
  case late =>
    exact congrArg _ (State.serve_refused rfl ht fun l => if_neg (show (s.setLink l).arb.state ≠ _ from hs))
  case lockout =>
    have hne : taken.arb.state ≠ .off := by
      change s.arb.state ≠ _
      rw [hs]
      nofun
    have hact : clearLockout taken = (taken.clearLockout, okReply []) := if_pos hs
    have hexec {t : State} (hcleared : taken.clearLockout = t.setLink taken.link) : exec .clearLockout s = replied t := by
      refine congrArg _ ((State.serve_answered rfl ht ?_).trans ?_)
      · rw [hact, hcleared]
        rfl
      · rw [hact, hcleared]
        rfl
    have hoff : taken.unlocked = off.setLink taken.link := by
      simp only [State.unlocked, taken, State.setLink_arb, hs]
      rfl
    refine ⟨fun hm => ?normal, fun hm => ?sag⟩
    case normal =>
      have hnot : s.meas.mains.state ≠ .sag := by
        rw [hm]
        nofun
      have hcleared : taken.clearLockout = off.review.setLink taken.link := by
        rw [State.clearLockout_eq hne, if_neg (show ¬ taken.meas.mains.state = _ from hnot), hoff,
          State.review_setLink_of_off rfl]
      refine ⟨⟨_, hexec hcleared, execArbiterReview_of_head off _⟩, fun hi hp => hexec ?_⟩
      rw [hcleared, State.review_of_off (s := off) rfl hp, State.startChoice_of_none (s := off) (.inl hi)]
    case sag =>
      refine hexec ?_
      rw [State.clearLockout_eq hne, if_pos (show taken.meas.mains.state = _ from hm), hoff,
        State.takeSag_of_off (s := off.setLink taken.link) rfl]
      rfl

end Sys2Proof.Machine
end

section
/-! The drive link (R75 to R77, R84, R193): what a tick makes of the miss count, the run seconds and the next DRIVE, and what a
STATUS frame stores or halts. -/

namespace Sys2Proof.Machine

open Sys2Proof.Safety

/-! ### The bytes of a frame (R193) -/

theorem byteSum_append (bs cs : List Byte) : byteSum (bs ++ cs) = byteSum bs + byteSum cs := by
  induction bs with
  | nil => simp [byteSum]
  | cons b bs ih => rw [List.cons_append, byteSum, byteSum, ih, BitVec.add_assoc]

/-- The CHECK makes the sum 0. -/
theorem byteSum_append_checkOf (bs : List Byte) : byteSum (bs ++ [checkOf bs]) = 0 := by
  rw [byteSum_append]
  simp [byteSum, checkOf]

/-! ### The miss count and the silence (R75 to R77) -/

section Link

variable (d : DriveLink)

/-- The latest DRIVE stands without a valid STATUS (R75). -/
abbrev DriveLink.Unanswered : Prop := d.last ≠ none ∧ d.answered = false

theorem DriveLink.judgeMiss_eq : d.judgeMiss = { d with
    miss := if d.Unanswered then min 5 (d.miss + 1) else d.miss
    silent := decide (d.silent = true ∨ (d.Unanswered ∧ 5 ≤ d.miss + 1)) } := by
  have hanswered : d.last = none ∨ d.answered = true ↔ ¬ d.Unanswered := by
    rw [DriveLink.Unanswered, not_and_or, not_not, Bool.not_eq_false]
  rw [judgeMiss, if_congr hanswered rfl rfl, ite_not]
  by_cases h : d.Unanswered
  · simp only [eq_true h, if_true, true_and, Bool.decide_or, Bool.decide_eq_true]
  · simp only [eq_false h, if_false, false_and, or_false, Bool.decide_eq_true]

theorem DriveLink.askedToRun_iff : d.askedToRun = true ↔ ∃ f, d.last = some f ∧ 0 < f.speed := by
  cases h : d.last <;> simp [askedToRun, h]

theorem DriveLink.accepts_iff (seq actual code check : Byte) : d.accepts seq actual code check = true ↔
    seq + actual + code + check = 0 ∧ ∃ f, d.last = some f ∧ seq.toNat = f.seq := by
  cases h : d.last <;> simp [accepts, h]

end Link

/-! ### The tick (R75, R84) -/

section Tick

variable (s : State)

theorem execDriveLinkTick_eq : exec .driveLinkTick s
    = .next (s.setDrive s.drive.judgeMiss).judgeSilence.countRunSecond.sendDrive := rfl

variable {s} in
theorem State.judgeSilence_of_quiet
    (h : s.drive.silent = false ∨ s.drive.askedToRun = false ∨ s.arb.state.commandsRun = false) : s.judgeSilence = s := by
  unfold State.judgeSilence
  split
  · next hs =>
    rw [Bool.and_eq_true] at hs
    refine takeFault_of_stopped (h.elim (fun hn => ?_) fun h => h.resolve_left fun hn => ?_)
    · exact absurd hs.1 (by simp [hn])
    · exact absurd hs.2 (by simp [hn])
  · rfl

variable {s} in
theorem State.judgeSilence_of_silent (hs : s.drive.silent = true) (ha : s.drive.askedToRun = true) :
    s.judgeSilence = s.takeFault := if_pos (by rw [hs, ha]; rfl)

/-- The arbiter's record once a second of the tick has been counted (R84). -/
theorem State.countRunSecond_eq : s.countRunSecond = s.setArb (if 0 < s.arb.speed ∧ 0 < s.arb.faultCount then
    (if 1800 ≤ s.arb.runSeconds + 1 then { s.arb with faultCount := 0, runSeconds := 0 }
      else { s.arb with runSeconds := s.arb.runSeconds + 1 }) else s.arb) := by
  unfold State.countRunSecond
  split
  · split <;> rfl
  · rfl

theorem State.countRunSecond_arb_speed : s.countRunSecond.arb.speed = s.arb.speed := by
  rw [countRunSecond_eq, setArb_arb]
  split
  · split <;> rfl
  · rfl

variable {s} in
theorem State.countRunSecond_of_stopped (h : s.arb.speed = 0) : s.countRunSecond = s :=
  if_neg fun hn => by simp [h] at hn

end Tick

/-- Settles O44: a tick with no fault to take judges the miss, counts the second and sends the next DRIVE. -/
theorem driveTickSendsTheNextFrame : Obligations.DriveTickSendsTheNextFrame := by
  intro s missed miss silent h
  let judged := s.setDrive s.drive.judgeMiss
  have hjudged : s.drive.judgeMiss = { s.drive with miss := miss, silent := decide silent } := s.drive.judgeMiss_eq
  have hquiet : judged.judgeSilence = judged := by
    refine State.judgeSilence_of_quiet ?_
    have hasked : judged.drive.askedToRun = true ↔ ∃ f, s.drive.last = some f ∧ 0 < f.speed := by
      rw [DriveLink.askedToRun_iff, show judged.drive = _ from hjudged]
    have hsilent : judged.drive.silent = decide silent := by rw [show judged.drive = _ from hjudged]
    rw [hsilent, decide_eq_false_iff_not, ← Bool.not_eq_true judged.drive.askedToRun, hasked, ← or_assoc, ← not_and_or]
    exact h
  have hexec : exec .driveLinkTick s = .next judged.countRunSecond.sendDrive := by rw [execDriveLinkTick_eq, hquiet]
  refine ⟨_, checkOf [byteOf s.drive.seq, byteOf s.arb.speed], hexec, ?state, ?arb, ?drive,
    byteSum_append_checkOf [byteOf s.drive.seq, byteOf s.arb.speed]⟩
  case state =>
    rw [State.countRunSecond_eq]
    rfl
  case arb =>
    rw [State.countRunSecond_eq]
    rfl
  case drive =>
    rw [State.sendDrive, State.setDrive_drive, State.countRunSecond_arb_speed, State.countRunSecond_eq, State.setArb_drive,
      show judged.drive = _ from hjudged]
    rfl

/-! ### A compressor fault (R77, R79, R80) -/

/-- What a compressor fault in a path state hands on, a LOCKOUT's notice apart (R57, R79). -/
def faultHanded (old : PathState) : List Handoff :=
  [.airPathState false, .arbiterToDefrost (decide (old = .runFresh)) true, .raise .compressorFault]

theorem State.faulted_eq (s : State) : s.faulted = { s with
    arb := { s.arb with
      state := .halted .fault, stack := .path (savedState s.arb.state) :: s.arb.stack, speed := 0
      valveTarget := Config.valveClosed, inhibitRunning := true, runSeconds := 0
      faultCount := min 3 (s.arb.faultCount + 1) }
    time := (s.time.stopped.without .stage).wait .stage 600
    events := s.events ++ faultHanded s.arb.state } := by
  rw [State.faulted, List.append_assoc]
  rfl

/-- What a compressor fault makes of a state, the drive link apart: the halt or the LOCKOUT, and their deadlines. -/
def HaltedByFault (s t : State) : Prop :=
  t = { s with
    arb := { s.arb with
      state := if 2 ≤ s.arb.faultCount then .halted .lockout else .halted .fault
      stack := if 2 ≤ s.arb.faultCount then [] else .path (savedState s.arb.state) :: s.arb.stack
      speed := 0, valveTarget := 60, inhibitRunning := true, runSeconds := 0
      faultCount := min 3 (s.arb.faultCount + 1) }
    drive := t.drive, time := t.time
    events := s.events ++ faultHanded s.arb.state ++ (if 2 ≤ s.arb.faultCount then [.raise .compressorLockout] else []) } ∧
  DueAfter .inhibit 300 s t ∧ NoneOf [.speedStep, .dwellMin, .dwellMax] t ∧
  (¬ 2 ≤ s.arb.faultCount → DueAfter .stage 600 s t) ∧ (2 ≤ s.arb.faultCount → NoneOf [.stage] t) ∧
  TimeKept [.inhibit, .speedStep, .dwellMin, .dwellMax, .stage] s t

theorem haltedByFault_of_takeFault {s : State} (h : s.arb.state.commandsRun = true) (d : DriveLink) :
    HaltedByFault s (s.setDrive d).takeFault := by
  generalize ht : (s.setDrive d).takeFault = t
  rw [State.takeFault_eq (s := s.setDrive d) h] at ht
  by_cases hthird : 2 ≤ s.arb.faultCount
  · replace ht : (s.setDrive d).faulted.lockOut = t := (if_pos hthird).symm.trans ht
    have htime : t.time = ((s.time.stopped.without .stage).wait .stage 600).without .stage := by
      rw [← ht]
      rfl
    refine ⟨?_, ?_, ?_, fun hn => absurd hthird hn, fun _ => ?_, ?_⟩
    · rw [if_pos hthird, if_pos hthird, if_pos hthird, ← ht, State.lockOut_eq, State.faulted_eq]
      rfl
    · simp [DueAfter, htime, Timebase.stopped]
    · rw [noneOf_iff]
      simp [htime, Timebase.stopped]
    · rw [noneOf_iff]
      simp [htime]
    · rw [timeKept_iff_apart]
      simp [htime, Timebase.stopped]
  · replace ht : (s.setDrive d).faulted = t := (if_neg hthird).symm.trans ht
    have htime : t.time = (s.time.stopped.without .stage).wait .stage 600 := by
      rw [← ht]
      rfl
    refine ⟨?_, ?_, ?_, fun _ => ?_, fun hy => absurd hy hthird, ?_⟩
    · rw [if_neg hthird, if_neg hthird, if_neg hthird, List.append_nil, ← ht, State.faulted_eq]
      rfl
    · simp [DueAfter, htime, Timebase.stopped]
    · rw [noneOf_iff]
      simp [htime, Timebase.stopped]
    · simp [DueAfter, htime, Timebase.stopped]
    · rw [timeKept_iff_apart]
      simp [htime, Timebase.stopped]

theorem HaltedByFault.arb_speed {s t : State} (h : HaltedByFault s t) : t.arb.speed = 0 :=
  congrArg (fun u : State => u.arb.speed) h.1

theorem HaltedByFault.setDrive {s t : State} (h : HaltedByFault s t) (d : DriveLink) : HaltedByFault s (t.setDrive d) := by
  obtain ⟨hframe, hdeadlines⟩ := h
  exact ⟨congrArg (State.setDrive · d) hframe, hdeadlines⟩

/-! ### A STATUS frame (R76, R77) -/

section Status

variable {s : State} {seq actual code check : Byte}

theorem execStatusFrame_eq : exec (.statusFrame seq actual code check) s
    = .next ((s.setDrive { s.drive with rx := .waiting }).takeStatus seq actual code check) := rfl

theorem State.takeStatus_of_invalid (h : s.drive.accepts seq actual code check = false) :
    s.takeStatus seq actual code check = s := if_neg (by simp [h])

theorem State.takeStatus_of_valid (h : s.drive.accepts seq actual code check = true) :
    s.takeStatus seq actual code check = if code ≠ 0 ∧ s.drive.askedToRun = true
      then (s.setDrive (s.drive.stored actual code)).takeFault else s.setDrive (s.drive.stored actual code) := if_pos h

end Status

/-- A tick that finds the link SILENT, or makes it so, takes the fault, and its DRIVE carries speed 0 (R75, R77). -/
theorem execDriveLinkTick_of_silent {s : State} {f : SentDrive} (hrun : s.arb.state.commandsRun = true)
    (hlast : s.drive.last = some f) (hspeed : 0 < f.speed)
    (hsilent : s.drive.silent = true ∨ (s.drive.answered = false ∧ 5 ≤ s.drive.miss + 1)) :
    ∃ t, exec .driveLinkTick s = .next t ∧ HaltedByFault s t ∧ t.drive = { s.drive with
      seq := (s.drive.seq + 1) % 256, miss := if s.drive.answered then s.drive.miss else min 5 (s.drive.miss + 1)
      silent := true, last := some ⟨s.drive.seq, 0⟩, answered := false, rx := .waiting
      tx := driveFrame s.drive.seq 0 } := by
  have hmissed : s.drive.Unanswered ↔ ¬ s.drive.answered = true := by
    rw [DriveLink.Unanswered, hlast, Bool.not_eq_true]
    exact and_iff_right nofun
  have hjudged : s.drive.judgeMiss = { s.drive with
      miss := if s.drive.answered then s.drive.miss else min 5 (s.drive.miss + 1), silent := true } := by
    rw [DriveLink.judgeMiss_eq, if_congr hmissed rfl rfl, ite_not, decide_eq_true]
    rwa [hmissed, Bool.not_eq_true]
  have hasked : s.drive.judgeMiss.askedToRun = true := by
    rw [DriveLink.askedToRun_iff, hjudged]
    exact ⟨f, hlast, hspeed⟩
  have hhalted := haltedByFault_of_takeFault hrun s.drive.judgeMiss
  have hexec : exec .driveLinkTick s = .next (s.setDrive s.drive.judgeMiss).takeFault.sendDrive := by
    rw [execDriveLinkTick_eq, State.judgeSilence_of_silent (by rw [State.setDrive_drive, hjudged]) hasked,
      State.countRunSecond_of_stopped hhalted.arb_speed]
  refine ⟨_, hexec, hhalted.setDrive _, ?_⟩
  rw [State.sendDrive, State.setDrive_drive, hhalted.arb_speed, State.takeFault_drive, State.setDrive_drive, hjudged]

/-- A valid STATUS with a nonzero code takes the fault of a compressor asked to run (R77). -/
theorem execStatusFrame_of_told {s : State} {f : SentDrive} {seq actual code check : Byte}
    (hrun : s.arb.state.commandsRun = true) (hlast : s.drive.last = some f) (hspeed : 0 < f.speed)
    (hsum : seq + actual + code + check = 0) (hseq : seq.toNat = f.seq) (hcode : code ≠ 0) :
    ∃ t, exec (.statusFrame seq actual code check) s = .next t ∧ HaltedByFault s t ∧ t.drive = { s.drive with
      rx := .waiting, lastCode := code.toNat, actualSpeed := actual.toNat, miss := 0, silent := false
      answered := true } := by
  let waiting := s.setDrive { s.drive with rx := .waiting }
  have hvalid : waiting.drive.accepts seq actual code check = true :=
    (DriveLink.accepts_iff ..).2 ⟨hsum, f, hlast, hseq⟩
  have hasked : waiting.drive.askedToRun = true := (DriveLink.askedToRun_iff _).2 ⟨f, hlast, hspeed⟩
  have hexec : exec (.statusFrame seq actual code check) s
      = .next (waiting.setDrive (waiting.drive.stored actual code)).takeFault := by
    rw [execStatusFrame_eq, State.takeStatus_of_valid (s := waiting) hvalid, if_pos ⟨hcode, hasked⟩]
  exact ⟨_, hexec, haltedByFault_of_takeFault hrun _, State.takeFault_drive _⟩

/-- Settles O45: a fault found by a tick and one told by a STATUS halt the compressor alike. -/
theorem compressorFaultHalts : Obligations.CompressorFaultHalts := by
  intro s f seq actual code check c ticked told hrun hlast hspeed hcause third
  rcases hcause with hticked | htold
  · obtain ⟨rfl, hsilent⟩ := hticked
    obtain ⟨t, hexec, ⟨hframe, hinhibit, hnone, hstage, hlocked, hkept⟩, hdrive⟩ :=
      execDriveLinkTick_of_silent hrun hlast hspeed hsilent
    refine ⟨t, checkOf [byteOf s.drive.seq, 0], hexec, hframe, hinhibit, hnone, hstage, hlocked, hkept,
      fun _ => ⟨byteSum_append_checkOf [byteOf s.drive.seq, 0], hdrive⟩, fun ht => ?_⟩
    obtain ⟨hc, -⟩ := ht
    cases hc
  · obtain ⟨rfl, hsum, hseq, hcode⟩ := htold
    obtain ⟨t, hexec, ⟨hframe, hinhibit, hnone, hstage, hlocked, hkept⟩, hdrive⟩ :=
      execStatusFrame_of_told hrun hlast hspeed hsum hseq hcode
    refine ⟨t, 0, hexec, hframe, hinhibit, hnone, hstage, hlocked, hkept, fun ht => ?_, fun _ => hdrive⟩
    obtain ⟨hc, -⟩ := ht
    cases hc

/-! ### The drive receiver (R193) -/

section Receiver

variable {s : State} {b : Byte}

theorem State.driveByte_of_waiting (h : s.drive.rx = .waiting) :
    s.driveByte b = if b = 0x5A then s.setDrive { s.drive with rx := .body [] } else s := by
  simp only [State.driveByte, h]

theorem State.driveByte_of_short {got : List Byte} (h : s.drive.rx = .body got) (hlen : got.length < 3) :
    s.driveByte b = s.setDrive { s.drive with rx := .body (got ++ [b]) } := by
  unfold State.driveByte
  split
  · next hw => cases hw.symm.trans h
  · next hb =>
    cases h.symm.trans hb
    exact absurd hlen (lt_irrefl 3)
  · next hb =>
    cases h.symm.trans hb
    rfl

theorem State.driveByte_of_last {seq actual code : Byte} (h : s.drive.rx = .body [seq, actual, code]) :
    s.driveByte b = (s.setDrive { s.drive with rx := .waiting }).takeStatus seq actual code b := by
  simp only [State.driveByte, h]

end Receiver

/-- Settles O46: a STATUS by its validity, and the receiver by what it holds. -/
theorem statusFrameIsStoredOrDiscarded : Obligations.StatusFrameIsStoredOrDiscarded := by
  intro s seq actual code check valid waiting
  have hvalid : waiting.drive.accepts seq actual code check = true ↔ valid := DriveLink.accepts_iff ..
  have hexec : exec (.statusFrame seq actual code check) s = .next (waiting.takeStatus seq actual code check) :=
    execStatusFrame_eq
  have hchar (b : Byte) : exec (.driveReceiverByte (.char b)) s = .next (s.driveByte b) := rfl
  refine ⟨fun h => ?discarded, fun h hquiet => ?stored, fun h => ?waits, fun got h hlen => ?gathers, fun h => ?judges, rfl⟩
  case discarded =>
    rw [← hvalid, Bool.not_eq_true] at h
    rw [hexec, State.takeStatus_of_invalid h]
  case stored =>
    rw [hexec, State.takeStatus_of_valid (hvalid.2 h)]
    split
    · next hfault =>
      obtain ⟨hcode, hasked⟩ := hfault
      obtain ⟨f, hlast, hspeed⟩ := (DriveLink.askedToRun_iff _).1 hasked
      have hstopped : s.arb.state.commandsRun = false :=
        (hquiet.resolve_left hcode).resolve_right fun hzero => hspeed.ne' (hzero f hlast)
      exact congrArg _ (State.takeFault_of_stopped hstopped)
    · rfl
  case waits => rw [hchar, State.driveByte_of_waiting h]; rfl
  case gathers => rw [hchar, State.driveByte_of_short h hlen]; rfl
  case judges => rw [hchar, State.driveByte_of_last h, hexec]; rfl

end Sys2Proof.Machine
end

section
/-! The defrost controller in closed form: what each change of phase, and the start and the end of coil recovery, make of the
record, the deadlines and the hand-offs (R89 to R99, R102 to R104). -/

namespace Sys2Proof.Machine

open Sys2Proof.Safety

/-- What a change of phase, and a start or an end of coil recovery, hands on (R99). -/
def phaseHanded : List Handoff := [.review, .airDefrost]

theorem State.handDefrost_eq (s : State) : s.handDefrost = { s with events := s.events ++ phaseHanded } := by
  simp [State.handDefrost, State.hand, State.setEvents, phaseHanded]

theorem State.setPhase_eq (s : State) (p : Phase) : s.setPhase p = { s with
    defrost := { s.defrost with phase := p }, events := s.events ++ phaseHanded } := State.handDefrost_eq _

/-! ### PENDING and PRECHILL (R90 to R92) -/

theorem State.enterPrechill_eq (s : State) : s.enterPrechill = { s with
    defrost := { s.defrost with phase := .prechill }, time := (s.time.without .pendingLimit).wait .phase 600
    events := s.events ++ phaseHanded } := by
  rw [State.enterPrechill, State.setPhase_eq]
  rfl

/-- The phase that a defrost begins with: PENDING, left at once for PRECHILL in RUN_FREEZE (R91). -/
def firstPhase (st : PathState) : Phase := if st = .runFreeze then .prechill else .pending

/-- The deadlines as a defrost begins (R91, R92). -/
def Timebase.frosted (x : Timebase) (st : PathState) : Timebase :=
  if st = .runFreeze then ((x.wait .pendingLimit 1800).without .pendingLimit).wait .phase 600
  else x.wait .pendingLimit 1800

/-- What the begin of a defrost hands on, for one change of phase or two (R91, R99). -/
def frostHanded (st : PathState) : List Handoff := phaseHanded ++ if st = .runFreeze then phaseHanded else []

theorem State.enterPending_eq (s : State) : s.enterPending = { s with
    defrost := { s.defrost with phase := firstPhase s.arb.state }, time := s.time.frosted s.arb.state
    events := s.events ++ frostHanded s.arb.state } := by
  unfold State.enterPending firstPhase Timebase.frosted frostHanded
  rw [State.setPhase_eq]
  split
  · rw [State.enterPrechill_eq, ← List.append_assoc]
    rfl
  · rw [List.append_nil]
    rfl

theorem State.compareInterval_of_reached {s : State} (hp : s.defrost.phase = .idle)
    (h : s.defrost.interval ≤ s.defrost.accumulator) : s.compareInterval = s.enterPending := if_pos ⟨hp, h⟩

theorem State.compareInterval_of_below {s : State} (h : s.defrost.accumulator < s.defrost.interval) :
    s.compareInterval = s := if_neg fun hc => h.not_ge hc.2

/-- The state as IDLE is entered, before the comparison (R90). -/
def State.idled (s : State) : State := { s with
  defrost := { s.defrost with phase := .idle }, events := s.events ++ phaseHanded }

theorem State.enterIdle_eq (s : State) : s.enterIdle = s.idled.compareInterval := by
  rw [State.enterIdle, State.setPhase_eq]
  rfl

/-- A cancel from PENDING or PRECHILL leaves the accumulator short of the interval, so that IDLE stands (R102). -/
theorem State.giveUpDefrost_eq {s : State} (h : 21600 ≤ s.defrost.interval) : s.giveUpDefrost = { s with
    defrost := { s.defrost with phase := .idle, accumulator := s.defrost.interval - 3600 }
    time := (s.time.without .pendingLimit).without .phase, events := s.events ++ phaseHanded } := by
  have hshort (n : Nat) (hn : n < s.defrost.interval) :
      (((s.removeDeadline .pendingLimit).removeDeadline .phase).setDefrost { s.defrost with accumulator := n }).enterIdle
        = { s with
          defrost := { s.defrost with phase := .idle, accumulator := n }
          time := (s.time.without .pendingLimit).without .phase, events := s.events ++ phaseHanded } :=
    (State.enterIdle_eq _).trans (State.compareInterval_of_below hn)
  exact hshort (s.defrost.interval - 3600) (by omega)

/-! ### RELEASE and HEAT (R93, R94) -/

theorem State.coilSpared_iff (s : State) : s.coilSpared = true ↔
    s.air.valvePos ≤ 60 ∧ s.air.valveTarget ≠ 120 ∧ s.arb.valveTarget ≠ 120 := decide_eq_true_iff

theorem offFreezeEnd_iff (pos : Nat) : offFreezeEnd pos = true ↔ pos = 0 ∨ pos = 60 := decide_eq_true_iff

theorem State.valveOffCoil_iff (s : State) : s.valveOffCoil = true ↔
    s.air.valveMotion = .atRest ∧ (s.air.valvePos = 0 ∨ s.air.valvePos = 60) ∧
      s.air.valvePos ≤ 60 ∧ s.air.valveTarget ≠ 120 ∧ s.arb.valveTarget ≠ 120 := by
  simp only [State.valveOffCoil, Bool.and_eq_true, decide_eq_true_eq, offFreezeEnd_iff, State.coilSpared_iff, and_assoc]

theorem State.enterHeat_eq (s : State) : s.enterHeat = { s with
    defrost := { s.defrost with
      phase := .heat, heater := true, accumulator := 0, heatStart := s.time.uptime
      timeOnly := decide ¬ (s.channel .s4).state = .good }
    time := s.time.wait .phase (if (s.channel .s4).state = .good then 2400 else 1500)
    events := s.events ++ phaseHanded } := by
  unfold State.enterHeat
  dsimp only
  rw [State.setPhase_eq, decide_not]
  simp only [decide_eq_true_eq]
  rfl

/-- A hand-off that the entry into RELEASE leaves in flight (log entry 11). -/
def outlastsRelease : Handoff → Bool
  | .valveToDefrost _ => false
  | _ => true

/-- The state as RELEASE is entered, before the valve is looked at (R93). -/
def State.released (s : State) : State := { s with
  defrost := { s.defrost with phase := .release }, time := s.time.without .phase
  events := s.events.filter outlastsRelease ++ phaseHanded }

theorem State.enterRelease_eq (s : State) :
    s.enterRelease = if s.valveOffCoil = true then s.released.enterHeat else s.released := by
  rw [State.enterRelease, State.setPhase_eq]
  rfl

theorem State.enterRelease_of_resting {s : State} (h : s.valveOffCoil = true) :
    s.enterRelease = s.released.enterHeat := by rw [State.enterRelease_eq, if_pos h]

theorem State.enterRelease_of_waiting {s : State} (h : ¬ s.valveOffCoil = true) : s.enterRelease = s.released := by
  rw [State.enterRelease_eq, if_neg h]

/-! ### DRIP, RECOVER and IDLE (R95 to R98) -/

theorem State.endHeat_eq (s : State) (how : HeatEnd) : s.endHeat how = { s with
    defrost := { s.defrost with
      phase := .drip, heater := false
      interval := adaptInterval s.defrost.interval how s.defrost.timeOnly (s.time.uptime - s.defrost.heatStart) }
    time := (s.time.without .phase).wait .phase 300, events := s.events ++ phaseHanded } := by
  rw [State.endHeat, State.enterDrip, State.setPhase_eq]
  rfl

theorem State.enterRecover_eq (s : State) : s.enterRecover = { s with
    defrost := { s.defrost with phase := .recover }, time := s.time.wait .phase 600
    events := s.events ++ phaseHanded } := by
  rw [State.enterRecover, State.setPhase_eq]
  rfl

/-- The state as RECOVER ends, before the comparison of IDLE (R98). -/
def State.recovered (s : State) : State := { s with
  defrost := { s.defrost with phase := .idle }, time := s.time.without .phase
  events := s.events ++ [.raise .defrostDone] ++ phaseHanded }

theorem State.endRecover_eq (s : State) : s.endRecover = s.recovered.compareInterval := State.enterIdle_eq _

theorem State.endRecover_of_below {s : State} (h : s.defrost.accumulator < s.defrost.interval) :
    s.endRecover = s.recovered := s.endRecover_eq.trans (State.compareInterval_of_below h)

theorem State.endRecover_of_reached {s : State} (h : s.defrost.interval ≤ s.defrost.accumulator) :
    s.endRecover = s.recovered.enterPending := s.endRecover_eq.trans (State.compareInterval_of_reached rfl h)

theorem State.countFrost_of_heat {s : State} (h : s.defrost.phase = .heat) : s.countFrost = s := if_pos h

theorem State.countFrost_of_ne {s : State} (h : s.defrost.phase ≠ .heat) : s.countFrost
    = s.setDefrost { s.defrost with accumulator := min 999999 (s.defrost.accumulator + s.frostTerms) } := if_neg h

/-! ### Fresh-coil recovery (R103, R104) -/

theorem State.startRecovery_eq (s : State) : s.startRecovery = { s with
    defrost := { s.defrost with recovery := true }, time := s.time.wait .coilRecovery 600
    events := s.events ++ phaseHanded } := State.handDefrost_eq _

theorem State.endRecovery_of_running {s : State} (h : s.defrost.recovery = true) : s.endRecovery = { s with
    defrost := { s.defrost with recovery := false }, time := s.time.without .coilRecovery
    events := s.events ++ phaseHanded } := (if_pos h).trans (State.handDefrost_eq _)

theorem State.endRecovery_of_stopped {s : State} (h : s.defrost.recovery = false) : s.endRecovery = s :=
  if_neg (by rw [h]; nofun)

end Sys2Proof.Machine
end

section
/-! What the other blocks leave alone of the defrost controller, the notice flags, the valve and the path state: the frames
for the invariants of R87, R94 and R190. -/

namespace Sys2Proof.Machine

open Sys2Proof.Safety

/-- All of the state that the invariants of the heated coil, of the defrost record and of ATTN speak of: the path state with
its start and its valve target, the defrost record, the notice flags, and the valve. -/
def State.frostView (s : State) : (PathState × Option Path × Nat) × Defrost × NoticeUnit × Nat × Nat × Motion :=
  ((s.arb.state, s.arb.startPath, s.arb.valveTarget), s.defrost, s.notice, s.air.valvePos, s.air.valveTarget,
    s.air.valveMotion)

theorem State.frostView_congr {s t : State} (harb : t.arb = s.arb) (hdefrost : t.defrost = s.defrost)
    (hnotice : t.notice = s.notice) (hair : t.air = s.air) : t.frostView = s.frostView := by
  rw [State.frostView, harb, hdefrost, hnotice, hair]
  rfl

/-! ### The blocks and the operations on them that everything else is made of -/

section Blocks

variable (s : State)

@[simp] theorem State.setHolds_frostView (x : HoldTable) : (s.setHolds x).frostView = s.frostView := rfl
@[simp] theorem State.setMap_frostView (x : ZoneMap) : (s.setMap x).frostView = s.frostView := rfl
@[simp] theorem State.setEvents_frostView (x : List Handoff) : (s.setEvents x).frostView = s.frostView := rfl
@[simp] theorem State.hand_frostView (x : Handoff) : (s.hand x).frostView = s.frostView := rfl
@[simp] theorem State.raiseNotice_frostView (n : Notice) : (s.raiseNotice n).frostView = s.frostView := rfl
@[simp] theorem State.removeDeadline_frostView (k : DeadlineKey) : (s.removeDeadline k).frostView = s.frostView := rfl
@[simp] theorem State.setZone_frostView (z : Zone) (r : ZoneRec) : (s.setZone z r).frostView = s.frostView := rfl
@[simp] theorem State.setRx_frostView (rx : RxState) : (s.setRx rx).frostView = s.frostView := rfl
@[simp] theorem State.endStore_frostView (w : StoreWrite) : (s.endStore w).frostView = s.frostView := rfl

end Blocks

/-! ### Air handler: the duties, the damper and the fan delay -/

/-- A damper target leaves the valve alone (R161). -/
theorem aimDamper_valve (a : Air) (target : Nat) : (aimDamper a target).valvePos = a.valvePos ∧
    (aimDamper a target).valveTarget = a.valveTarget ∧ (aimDamper a target).valveMotion = a.valveMotion := by
  unfold aimDamper
  split
  · split <;> exact ⟨rfl, rfl, rfl⟩
  · exact ⟨rfl, rfl, rfl⟩

@[simp] theorem State.recomputeAirAt_frostView (s : State) (amb : Int) :
    (s.recomputeAirAt amb).frostView = s.frostView := by
  obtain ⟨hpos, htarget, hmotion⟩ :=
    aimDamper_valve { s.air with ff := ffLaw s, zf := zfLaw s, cf := cfLaw s amb } (damperLaw s)
  simp only [State.frostView, State.recomputeAirAt, State.setAir_arb, State.setAir_defrost, State.setAir_notice,
    State.setAir_air, hpos, htarget, hmotion]

@[simp] theorem State.recomputeAir_frostView (s : State) : s.recomputeAir.frostView = s.frostView :=
  s.recomputeAirAt_frostView _

@[simp] theorem State.fanDelayStep_frostView (s : State) (entersFreeze : Bool) :
    (s.fanDelayStep entersFreeze).frostView = s.frostView := by
  unfold State.fanDelayStep State.startFanDelay
  split
  · split
    · split <;> rfl
    · rfl
  · rfl

@[simp] theorem State.airS4_frostView (s : State) (r : Report) : (s.airS4 r).frostView = s.frostView := by
  unfold State.airS4
  split <;> rfl

/-! ### Door unit, measurement unit, link port -/

@[simp] theorem State.sampleDoor_frostView (s : State) (d : Door) (x : Level) :
    (s.sampleDoor d x).frostView = s.frostView := by
  unfold State.sampleDoor
  dsimp only
  split
  · cases x <;> rfl
  · rfl

@[simp] theorem State.reportToZone_frostView (s : State) (c : Channel) (z : Zone) :
    (s.reportToZone c z).frostView = s.frostView := by
  unfold State.reportToZone
  split <;> simp

@[simp] theorem State.report_frostView (s : State) (c : Channel) : (s.report c).frostView = s.frostView := by
  unfold State.report State.reportToOthers
  split <;> simp

@[simp] theorem State.completeFrame_frostView (s : State) (len : Nat) (got : List Byte) :
    (s.completeFrame len got).frostView = s.frostView := by
  unfold State.completeFrame
  split
  · rfl
  · split <;> rfl

@[simp] theorem State.lengthFrame_frostView (s : State) : s.lengthFrame.frostView = s.frostView := by
  unfold State.lengthFrame
  split <;> rfl

@[simp] theorem State.receive_frostView (s : State) (b : Byte) : (s.receive b).frostView = s.frostView := by
  unfold State.receive
  split
  · split <;> simp
  · split <;> simp
  · split <;> simp
  · rfl

/-! ### Hold table -/

@[simp] theorem State.lapse_frostView (s : State) (i : Nat) (cause : LapseCause) :
    (s.lapse i cause).frostView = s.frostView := frostView_congr (by simp) (by simp) (by simp) (by simp)

@[simp] theorem State.resolve_frostView (s : State) (z : Zone) : (s.resolve z).frostView = s.frostView := rfl

@[simp] theorem State.handChange_frostView (s : State) (z : Zone) (before : Option Governing) :
    (s.handChange z before).frostView = s.frostView := frostView_congr (by simp) (by simp) (by simp) (by simp)

theorem State.regovern_frostView (s : State) (z : Zone) {change : State → State}
    (h : (change s).frostView = s.frostView) : (s.regovern z change).frostView = s.frostView :=
  (State.handChange_frostView _ _ _).trans h

@[simp] theorem holdOpen_frostView (s : State) (zone kind : Byte) (target : Half) (halfBand priority flags : Byte)
    (minutes : Half) (floor : Byte) :
    (holdOpen zone kind target halfBand priority flags minutes floor s).1.frostView = s.frostView := by
  unfold holdOpen
  split
  · split_ifs
    iterate 3 rfl
    split
    · rfl
    · rw [State.openHold_state]
      exact s.regovern_frostView _ rfl
  · rfl

theorem State.amendPriority_frostView (s : State) (h : Hold) (mask priority : Byte) :
    (s.amendPriority h mask priority).1.frostView = s.frostView := by
  unfold State.amendPriority
  dsimp only
  split_ifs <;> rfl

theorem State.amendExpiry_frostView (s : State) (h : Hold) (mask : Byte) (minutes : Half) :
    (s.amendExpiry h mask minutes).1.frostView = s.frostView := by
  unfold State.amendExpiry
  split
  · dsimp only
    split <;> rfl
  · rfl

theorem State.amendHold_frostView (s : State) (h : Hold) (mask : Byte) (target : Half) (halfBand priority : Byte)
    (minutes : Half) (floor reach : Byte) :
    (s.amendHold h mask target halfBand priority minutes floor reach).1.frostView = s.frostView := by
  unfold State.amendHold
  dsimp only
  refine s.regovern_frostView _ ?_
  split <;> simp [State.amendPriority_frostView, State.amendExpiry_frostView]

@[simp] theorem holdAmend_frostView (s : State) (slot gen mask : Byte) (target : Half) (halfBand priority : Byte)
    (minutes : Half) (floor reach : Byte) :
    (holdAmend slot gen mask target halfBand priority minutes floor reach s).1.frostView = s.frostView := by
  unfold holdAmend
  split
  · rfl
  · split_ifs
    iterate 4 rfl
    exact s.amendHold_frostView ..

@[simp] theorem holdRetire_frostView (s : State) (slot gen : Byte) :
    (holdRetire slot gen s).1.frostView = s.frostView := by
  unfold holdRetire
  split
  · rfl
  · split
    · rfl
    · dsimp only
      exact s.regovern_frostView _ (by simp)

theorem State.lapseAtCommit_frostView (s : State) (l : List Nat) : (s.lapseAtCommit l).frostView = s.frostView := by
  induction l generalizing s with
  | nil => rfl
  | cons i is ih =>
    unfold State.lapseAtCommit
    split
    · exact ih s
    · split
      · rw [ih, State.lapse_frostView]
      · exact ih s

@[simp] theorem State.commitHolds_frostView (s : State) (r : Regime) : (s.commitHolds r).frostView = s.frostView := by
  unfold State.commitHolds State.retargetChillBase
  split <;> simp [State.lapseAtCommit_frostView]

/-! ### Zone evaluator -/

@[simp] theorem State.settleZone_frostView (s : State) (rep : Option Report) (z : Zone) (afresh second : Bool) :
    (s.settleZone rep z afresh second).frostView = s.frostView := rfl

@[simp] theorem State.handOn_frostView (s : State) (z : Zone) : (s.handOn z).frostView = s.frostView :=
  frostView_congr (by simp) (by simp) (by simp) (by simp)

@[simp] theorem State.evaluateSecond_frostView (s : State) (z : Zone) (r : Report) :
    (s.evaluateSecond z r).frostView = s.frostView := by
  obtain ⟨hframe, -⟩ := s.evaluateSecond_frame (z := z) (rep := r) rfl
  rw [hframe]
  rfl

@[simp] theorem State.evaluateHoldChange_frostView (s : State) (z : Zone) (g : Governing) :
    (s.evaluateHoldChange z g).frostView = s.frostView := by
  unfold State.evaluateHoldChange
  dsimp only
  split <;> simp

@[simp] theorem State.evaluateDoor_frostView (s : State) (z : Zone) (e : DoorEvent) :
    (s.evaluateDoor z e).frostView = s.frostView := State.handOn_frostView _ _

@[simp] theorem State.evaluateSchedule_frostView (s : State) (z : Zone) (half : BlindHalf) (due : Instant) :
    (s.evaluateSchedule z half due).frostView = s.frostView := State.handOn_frostView _ _

@[simp] theorem State.enterTransit_frostView (s : State) : s.enterTransit.frostView = s.frostView :=
  frostView_congr (by simp) (by simp) (by simp) (by simp)

@[simp] theorem State.evaluateEndOfTransit_frostView (s : State) : s.evaluateEndOfTransit.frostView = s.frostView := by
  refine frostView_congr ?_ ?_ ?_ ?_ <;> simp [State.evaluateEndOfTransit]

/-! ### Zone map -/

theorem State.commitRegime_frostView (s : State) : s.commitRegime.frostView = s.frostView := by
  unfold State.commitRegime State.commitChillHolds State.withdrawChillChange
  dsimp only
  split <;> simp

@[simp] theorem State.enterFlap_frostView (s : State) : s.enterFlap.frostView = s.frostView := by
  unfold State.enterFlap
  dsimp only
  split
  · exact State.commitRegime_frostView _
  · exact State.recomputeAir_frostView _

@[simp] theorem State.closingEnds_frostView (s : State) : s.closingEnds.frostView = s.frostView := by
  unfold State.closingEnds
  split <;> simp

@[simp] theorem State.beginRegime_frostView (s : State) (r : Regime) : (s.beginRegime r).frostView = s.frostView := by
  simp [State.beginRegime]

@[simp] theorem State.flapArrives_frostView (s : State) (dest : Path) : (s.flapArrives dest).frostView = s.frostView := by
  unfold State.flapArrives
  dsimp only
  rw [State.recomputeAir_frostView]
  split
  · exact State.commitRegime_frostView _
  · rfl

@[simp] theorem State.damperHomed_frostView (s : State) : s.damperHomed.frostView = s.frostView := by
  unfold State.damperHomed
  split
  · exact State.closingEnds_frostView _
  · rfl

@[simp] theorem regimeSet_frostView (s : State) (regime : Byte) : (regimeSet regime s).1.frostView = s.frostView := by
  unfold regimeSet
  split
  · rfl
  · split_ifs <;> simp

@[simp] theorem mapSet_frostView (s : State) (zone regime fallback : Byte) (offset : Half) :
    (mapSet zone regime fallback offset s).1.frostView = s.frostView := by
  unfold mapSet
  split
  · rfl
  · split
    · rfl
    · split
      · rfl
      · split <;> rfl

/-! ### The other requests -/

@[simp] theorem correctionSet_frostView (s : State) (slot op channel index : Byte) (value : Half) :
    (correctionSet slot op channel index value s).1.frostView = s.frostView := by
  have hwrite (i : Nat) (k : Option Correction) : (s.writeCorrection i k).1.frostView = s.frostView := by
    unfold State.writeCorrection
    dsimp only
    split <;> rfl
  unfold correctionSet
  split
  · rfl
  · split
    · exact hwrite ..
    · split
      · rfl
      · dsimp only
        split_ifs
        iterate 3 rfl
        exact hwrite ..

@[simp] theorem doorQuery_frostView (s : State) (door clear : Byte) :
    (doorQuery door clear s).1.frostView = s.frostView := by
  unfold doorQuery
  split <;> rfl

@[simp] theorem settingsStore_frostView (s : State) : (settingsStore s).1.frostView = s.frostView := by
  unfold settingsStore
  split <;> rfl

/-- A write of any item but the defrost interval. -/
theorem State.writeSetting_frostView {s t : State} {i : SettingItem} {v : Int} {clamped : Bool} (hi : i ≠ .interval)
    (hw : s.writeSetting i v = some (t, clamped)) : t.frostView = s.frostView := by
  cases i <;> cases hw
  case interval => exact absurd rfl hi
  case weight z => exact State.handChange_frostView _ z _
  all_goals rfl

/-! ### The clock and what is due -/

@[simp] theorem State.entryFallsDue_frostView (s : State) : s.entryFallsDue.frostView = s.frostView := by
  unfold State.entryFallsDue
  split
  · rfl
  · split <;> rfl

@[simp] theorem State.tickClock_frostView (s : State) : s.tickClock.frostView = s.frostView := by
  unfold State.tickClock
  split_ifs <;> rfl

@[simp] theorem State.idle_frostView (s : State) : s.idle.frostView = s.frostView := by
  unfold State.idle
  split
  · simp
  · split
    · simp
    · split <;> simp

end Sys2Proof.Machine
end

section
/-! The invariants of the heated coil (R94), of the defrost record (R87) and of ATTN (R190): what keeps them, operation by
operation of the path arbiter, the valve, the defrost controller and the notice unit. -/

namespace Sys2Proof.Machine

open Sys2Proof.Safety

/-! ### The invariant of the coil, block by block -/

/-- HEAT and DRIP, in which the refrigerant is kept off the freezer coil (R94). -/
def Phase.Heats (p : Phase) : Prop := p = .heat ∨ p = .drip

/-- The arbiter's valve target is the one that the path state asks for, and a start is in progress only in OFF (R57). -/
structure Arbiter.Aims (a : Arbiter) : Prop where
  target : a.valveTarget = valveAim a.state a.startPath
  start : a.state ≠ .off → a.startPath = none

/-- The valve is aimed at one of its rests, rests at its target, and reads what its homing gives (R57, R163, R164). -/
structure Air.ValveSound (a : Air) : Prop where
  target : a.valveTarget = 0 ∨ a.valveTarget = 60 ∨ a.valveTarget = 120
  rest : a.valveMotion = .atRest → a.valvePos = a.valveTarget
  homing : homingAgrees a.valveMotion a.valvePos = true

/-- An arbiter whose valve target keeps off the FREEZE end is not in RUN_FREEZE. -/
theorem Arbiter.Aims.not_runFreeze {a : Arbiter} (ha : a.Aims) (h : a.valveTarget ≠ 120) : a.state ≠ .runFreeze := by
  intro hs
  rw [ha.target, hs] at h
  exact h rfl

theorem coilSafe_iff (s : State) :
    CoilSafe s ↔ s.air.ValveSound ∧ s.arb.Aims ∧ (s.defrost.phase.Heats → s.coilSpared = true) := by
  rw [State.coilSpared_iff]
  constructor
  · rintro ⟨⟨htarget, haim, hstart, hrest, hhoming⟩, hoff⟩
    refine ⟨⟨htarget, hrest, hhoming⟩, ⟨haim, hstart⟩, fun hp => ?_⟩
    obtain ⟨-, harb, hair, hpos⟩ := hoff hp
    exact ⟨hpos, hair, harb⟩
  · rintro ⟨⟨htarget, hrest, hhoming⟩, haims, hspared⟩
    refine ⟨⟨htarget, haims.target, haims.start, hrest, hhoming⟩, fun hp => ?_⟩
    obtain ⟨hpos, hair, harb⟩ := hspared hp
    exact ⟨haims.not_runFreeze harb, harb, hair, hpos⟩

theorem valveAim_of_idle (st : PathState) : valveAim st none = st.valveTarget := by cases st <;> rfl

theorem PathState.valveTarget_eq_iff (st : PathState) : st.valveTarget = 120 ↔ st = .runFreeze := by
  cases st <;> simp [PathState.valveTarget, Config.valveFreshEnd, Config.valveFreezeEnd, Config.valveClosed]

theorem valveAim_rests (st : PathState) (p : Option Path) :
    valveAim st p = 0 ∨ valveAim st p = 60 ∨ valveAim st p = 120 := by
  unfold valveAim
  split <;> simp

/-! ### What keeps the invariants -/

/-- The invariants of the coil, of the defrost record and of ATTN hold in `t` where they hold in `s`. -/
structure State.KeepsFrost (s t : State) : Prop where
  coil : CoilSafe s → CoilSafe t
  heater : HeaterSafe s → HeaterSafe t
  ranges : DefrostSafe s → DefrostSafe t
  attn : AttnSafe s → AttnSafe t

namespace State.KeepsFrost

variable {s t u : State}

theorem refl (s : State) : s.KeepsFrost s := ⟨id, id, id, id⟩

theorem trans (h : s.KeepsFrost t) (h' : t.KeepsFrost u) : s.KeepsFrost u :=
  ⟨h'.coil ∘ h.coil, h'.heater ∘ h.heater, h'.ranges ∘ h.ranges, h'.attn ∘ h.attn⟩

theorem of_view (h : t.frostView = s.frostView) : s.KeepsFrost t := by
  simp only [frostView, Prod.mk.injEq] at h
  obtain ⟨⟨hstate, hstart, htarget⟩, hdefrost, hnotice, hpos, hair, hmotion⟩ := h
  refine ⟨fun hs => ?_, fun hs => ?_, fun hs => ?_, fun hs => ?_⟩
  · rwa [CoilSafe, ValveSafe, OffCoil, hstate, hstart, htarget, hdefrost, hpos, hair, hmotion]
  · rwa [HeaterSafe, hdefrost]
  · rwa [DefrostSafe, hdefrost]
  · rwa [AttnSafe, hnotice]

/-- A change that the invariants do not see, before the one that keeps them. -/
theorem after (h : t.KeepsFrost u) (hview : t.frostView = s.frostView) : s.KeepsFrost u := (of_view hview).trans h

/-- A change of the arbiter's record alone, of what the invariants speak of. -/
theorem of_arbiter (hdefrost : t.defrost = s.defrost) (hnotice : t.notice = s.notice) (hair : t.air = s.air)
    (haims : s.arb.Aims → t.arb.Aims)
    (hspared : s.arb.Aims → s.defrost.phase.Heats → s.arb.valveTarget ≠ 120 → t.arb.valveTarget ≠ 120) :
    s.KeepsFrost t := by
  refine ⟨fun hs => ?_, fun hs => by rwa [HeaterSafe, hdefrost], fun hs => by rwa [DefrostSafe, hdefrost],
    fun hs => by rwa [AttnSafe, hnotice]⟩
  rw [coilSafe_iff] at hs ⊢
  obtain ⟨hvalve, ha, hcoil⟩ := hs
  refine ⟨hair ▸ hvalve, haims ha, fun hp => ?_⟩
  rw [hdefrost] at hp
  obtain ⟨hpos, hrest, harb⟩ := s.coilSpared_iff.1 (hcoil hp)
  rw [coilSpared_iff, hair]
  exact ⟨hpos, hrest, hspared ha hp harb⟩

/-- A path state entered with its own valve target and with no start in progress, which is not RUN_FREEZE in HEAT or DRIP. -/
theorem of_entered (hdefrost : t.defrost = s.defrost) (hnotice : t.notice = s.notice) (hair : t.air = s.air)
    (htarget : t.arb.valveTarget = t.arb.state.valveTarget) (hstart : s.arb.Aims → t.arb.startPath = none)
    (hoff : s.defrost.phase.Heats → t.arb.state ≠ .runFreeze) : s.KeepsFrost t := by
  refine of_arbiter hdefrost hnotice hair (fun ha => ⟨?_, fun _ => hstart ha⟩) fun _ hp _ => ?_
  · rw [htarget, hstart ha, valveAim_of_idle]
  · rw [htarget, Ne, PathState.valveTarget_eq_iff]
    exact hoff hp

/-- A change of the defrost record alone, of what the invariants speak of. -/
theorem of_defrost (harb : t.arb = s.arb) (hnotice : t.notice = s.notice) (hair : t.air = s.air)
    (hcoil : t.defrost.phase.Heats → s.defrost.phase.Heats ∨ s.coilSpared = true)
    (hheater : HeaterSafe s → HeaterSafe t) (hranges : DefrostSafe s → DefrostSafe t) : s.KeepsFrost t := by
  refine ⟨fun hs => ?_, hheater, hranges, fun hs => by rwa [AttnSafe, hnotice]⟩
  rw [coilSafe_iff] at hs ⊢
  obtain ⟨hvalve, ha, hspared⟩ := hs
  refine ⟨hair ▸ hvalve, harb ▸ ha, fun hp => ?_⟩
  rw [coilSpared, hair, harb]
  exact (hcoil hp).elim hspared id

/-- A change of the valve alone, of what the invariants speak of. -/
theorem of_valve (harb : t.arb = s.arb) (hdefrost : t.defrost = s.defrost) (hnotice : t.notice = s.notice)
    (hsound : s.arb.Aims → s.air.ValveSound → t.air.ValveSound)
    (hspared : s.air.ValveSound → s.coilSpared = true → t.air.valvePos ≤ 60 ∧ t.air.valveTarget ≠ 120) :
    s.KeepsFrost t := by
  refine ⟨fun hs => ?_, fun hs => by rwa [HeaterSafe, hdefrost], fun hs => by rwa [DefrostSafe, hdefrost],
    fun hs => by rwa [AttnSafe, hnotice]⟩
  rw [coilSafe_iff] at hs ⊢
  obtain ⟨hvalve, ha, hcoil⟩ := hs
  refine ⟨hsound ha hvalve, harb ▸ ha, fun hp => ?_⟩
  have hbefore := hcoil (hdefrost ▸ hp)
  obtain ⟨hpos, htarget⟩ := hspared hvalve hbefore
  obtain ⟨-, -, harb'⟩ := s.coilSpared_iff.1 hbefore
  rw [coilSpared_iff, harb]
  exact ⟨hpos, htarget, harb'⟩

/-- A judgement of the notice flags anew (R190). -/
theorem of_judged {n : NoticeUnit} : s.KeepsFrost (s.setNotice n.judged) :=
  ⟨id, id, id, fun _ => decide_eq_true_iff⟩

end State.KeepsFrost

open State (KeepsFrost)

/-! ### Path arbiter: speed, and the changes of path state (R57, R60 to R71) -/

section Changes

variable {s : State}

theorem State.retarget_frostView (s : State) : s.retarget.frostView = s.frostView := by
  unfold State.retarget
  split <;> rfl

theorem State.slewSpeed_frostView (s : State) : s.slewSpeed.frostView = s.frostView := by
  unfold State.slewSpeed
  split <;> rfl

/-- In HEAT and DRIP the freezer path is not available (R58). -/
theorem State.not_heats_of_available (h : s.available .freeze = true) : ¬ s.defrost.phase.Heats := by
  rintro (hp | hp) <;> simp [State.available, hp] at h

theorem State.available_of_wanted {p : Path} (h : s.wanted p = true) : s.available p = true := ((s.wanted_iff p).1 h).2

theorem runState_ne_runFreeze {p : Path} (h : s.available p = true) (hp : s.defrost.phase.Heats) :
    runState p ≠ .runFreeze := by
  cases p with
  | fresh => nofun
  | freeze => exact absurd hp (State.not_heats_of_available h)

theorem State.runOn_keepsFrost {p : Path} (hoff : s.arb.state ≠ .off) (hp : s.arb.state ≠ runState p)
    (hspared : s.defrost.phase.Heats → runState p ≠ .runFreeze) : s.KeepsFrost (s.runOn p) := by
  rw [State.runOn_eq hp]
  exact .of_entered rfl rfl rfl (runState_valveTarget p).symm (fun ha => ha.start hoff) hspared

theorem State.enterPumpdown_keepsFrost (hoff : s.arb.state ≠ .off) (hp : s.arb.state ≠ .pumpdown) :
    s.KeepsFrost s.enterPumpdown := by
  rw [State.enterPumpdown_eq hp]
  exact .of_entered rfl rfl rfl rfl (fun ha => ha.start hoff) nofun

theorem State.stopToOff_keepsFrost (hoff : s.arb.state ≠ .off) : s.KeepsFrost s.stopToOff := by
  rw [State.stopToOff_eq hoff]
  exact .of_entered rfl rfl rfl rfl (fun ha => ha.start hoff) nofun

theorem State.completeStart_keepsFrost {p : Path} (hoff : s.arb.state = .off) (hp : s.available p = true) :
    s.KeepsFrost (s.completeStart p) := by
  rw [State.completeStart_eq (by rw [hoff]; cases p <;> nofun)]
  exact .of_entered rfl rfl rfl (runState_valveTarget p).symm (fun _ => rfl) (runState_ne_runFreeze hp)

/-- A start begun in OFF aims the valve at its path's end, which is available (R63). -/
theorem State.beginStart_keepsFrost {p : Path} (hoff : s.arb.state = .off) (hp : s.available p = true) :
    s.KeepsFrost (s.beginStart p) := by
  rw [State.beginStart_eq]
  refine .of_arbiter rfl rfl rfl (fun _ => ⟨?_, fun h => absurd hoff h⟩) fun _ hheats _ => ?_
  · show valveEnd p = valveAim s.arb.state (some p)
    rw [hoff]
    cases p <;> rfl
  · rw [← runState_valveTarget, Ne, PathState.valveTarget_eq_iff]
    exact runState_ne_runFreeze hp hheats

theorem State.abandonStart_keepsFrost (hoff : s.arb.state = .off) : s.KeepsFrost s.abandonStart := by
  rw [State.abandonStart_eq]
  refine .of_entered rfl rfl rfl ?_ (fun _ => rfl) fun _ => ?_
  · show Config.valveClosed = s.arb.state.valveTarget
    rw [hoff]
    rfl
  · show s.arb.state ≠ _
    rw [hoff]
    nofun

/-- The start choice names a path that is urgent and available (R63). -/
theorem State.wanted_of_choosePath {p : Path} (h : s.choosePath = some p) : s.wanted p = true := by
  unfold State.choosePath at h
  split at h
  · cases h; assumption
  · cases h; assumption
  · split at h <;> cases h <;> assumption
  · cases h; assumption
  · cases h; assumption
  · cases h

theorem State.startChoice_keepsFrost (hoff : s.arb.state = .off) : s.KeepsFrost s.startChoice := by
  unfold State.startChoice
  split
  · exact .refl s
  · split
    · next p hp => exact State.beginStart_keepsFrost hoff (State.available_of_wanted (State.wanted_of_choosePath hp))
    · exact .refl s

theorem State.startCheck_keepsFrost (hoff : s.arb.state = .off) (p : Path) : s.KeepsFrost (s.startCheck p) := by
  unfold State.startCheck
  split
  · exact .refl s
  · exact State.abandonStart_keepsFrost hoff

theorem State.leave_keepsFrost {p : Path} (h : s.arb.state = runState p) (toOther : Bool) :
    s.KeepsFrost (s.leave p toOther) := by
  have hoff : s.arb.state ≠ .off := by rw [h]; cases p <;> nofun
  cases p with
  | fresh => exact State.enterPumpdown_keepsFrost hoff (by rw [h]; nofun)
  | freeze =>
    cases toOther with
    | true => exact State.runOn_keepsFrost hoff (by rw [h]; nofun) fun _ => by nofun
    | false => exact State.stopToOff_keepsFrost hoff

theorem State.reviewRun_keepsFrost {p : Path} (h : s.arb.state = runState p) : s.KeepsFrost (s.reviewRun p) := by
  unfold State.reviewRun
  split
  · exact State.leave_keepsFrost h _
  · split
    · exact .of_view s.retarget_frostView
    · exact State.leave_keepsFrost h _
    · exact State.leave_keepsFrost h _

/-- A review keeps the invariants in every path state (R60). -/
theorem State.review_keepsFrost (s : State) : s.KeepsFrost s.review := by
  unfold State.review
  split
  · next hoff =>
    split
    · exact State.startChoice_keepsFrost hoff
    · exact State.startCheck_keepsFrost hoff _
  · next h => exact State.reviewRun_keepsFrost (p := .fresh) h
  · next h => exact State.reviewRun_keepsFrost (p := .freeze) h
  · exact .refl s
  · exact .refl s

theorem State.valveArrives_keepsFrost (s : State) (pos : Nat) : s.KeepsFrost (s.valveArrives pos) := by
  unfold State.valveArrives
  split
  · next hoff _ =>
    split
    · next h => exact State.completeStart_keepsFrost hoff h.2
    · exact s.review_keepsFrost
  · exact s.review_keepsFrost

theorem State.endPumpdown_keepsFrost (h : s.arb.state = .pumpdown) : s.KeepsFrost s.endPumpdown := by
  unfold State.endPumpdown
  split
  · next hw =>
    exact State.runOn_keepsFrost (by rw [h]; nofun) (by rw [h]; nofun)
      (runState_ne_runFreeze (State.available_of_wanted hw))
  · exact State.stopToOff_keepsFrost (by rw [h]; nofun)

end Changes

/-! ### Path arbiter: halts and their ends (R78 to R85) -/

section Halts

variable {s : State}

theorem PathState.ne_off_of_commandsRun {st : PathState} (h : st.commandsRun = true) : st ≠ .off := by
  rintro rfl
  cases h

theorem State.takeFault_keepsFrost (s : State) : s.KeepsFrost s.takeFault := by
  cases h : s.arb.state.commandsRun with
  | false => rw [State.takeFault_of_stopped h]; exact .refl s
  | true =>
    have hstart (ha : s.arb.Aims) : s.arb.startPath = none := ha.start (PathState.ne_off_of_commandsRun h)
    rw [State.takeFault_eq h]
    split
    · exact .of_entered rfl rfl rfl rfl hstart nofun
    · exact .of_entered rfl rfl rfl rfl hstart nofun

/-- A declared SAG leaves a halt, with the valve closed and no start in progress (R81). -/
theorem State.takeSag_keepsFrost (s : State) : s.KeepsFrost s.takeSag := by
  have hrun (h : s.arb.state.commandsRun = true) : s.KeepsFrost s.takeSag := by
    rw [State.takeSag_of_commandsRun h]
    exact .of_entered rfl rfl rfl rfl (fun ha => ha.start (PathState.ne_off_of_commandsRun h)) nofun
  cases h : s.arb.state with
  | off =>
    rw [State.takeSag_of_off h]
    exact .of_entered rfl rfl rfl rfl (fun _ => rfl) nofun
  | runFresh => exact hrun (by rw [h]; rfl)
  | runFreeze => exact hrun (by rw [h]; rfl)
  | pumpdown => exact hrun (by rw [h]; rfl)
  | halted cause =>
    cases cause with
    | lockout => rw [State.takeSag_of_lockout h]; exact .refl s
    | sag => rw [State.takeSag_of_sag h]; exact .of_view rfl
    | fault =>
      rw [State.takeSag_of_fault h]
      exact .of_entered rfl rfl rfl rfl (fun ha => ha.start (by rw [h]; nofun)) nofun

theorem State.takeNormal_frostView (s : State) : s.takeNormal.frostView = s.frostView := by
  unfold State.takeNormal
  split <;> rfl

theorem State.restore_keepsFrost (hoff : s.arb.state ≠ .off) : s.KeepsFrost s.restore := by
  rw [State.restore_eq hoff]
  exact (KeepsFrost.of_entered (s := s) (t := s.restored) rfl rfl rfl rfl (fun _ => rfl) nofun).trans
    (State.review_keepsFrost _)

theorem State.recover_keepsFrost (h : s.arb.state = .halted .sag) : s.KeepsFrost s.recover := by
  have hoff : s.arb.state ≠ .off := by rw [h]; nofun
  cases hl : s.arb.stack with
  | nil => simpa only [State.recover, hl] using State.restore_keepsFrost hoff
  | cons x rest =>
    cases x with
    | path l => simpa only [State.recover, hl] using State.restore_keepsFrost hoff
    | holdoff n =>
      rw [State.recover_of_holdoff hl h]
      exact .of_entered rfl rfl rfl rfl (fun ha => ha.start hoff) nofun

theorem State.clearLockout_keepsFrost (h : s.arb.state = .halted .lockout) : s.KeepsFrost s.clearLockout := by
  have hoff : s.arb.state ≠ .off := by rw [h]; nofun
  have hunlocked : s.KeepsFrost s.unlocked := .of_entered rfl rfl rfl rfl (fun ha => ha.start hoff) nofun
  rw [State.clearLockout_eq hoff]
  split
  · exact hunlocked.trans (State.takeSag_keepsFrost _)
  · exact hunlocked.trans (State.review_keepsFrost _)

end Halts

/-! ### Drive link (R76, R77, R84) -/

section Drive

variable (s : State)

theorem State.judgeSilence_keepsFrost : s.KeepsFrost s.judgeSilence := by
  unfold State.judgeSilence
  split
  · exact s.takeFault_keepsFrost
  · exact .refl s

theorem State.countRunSecond_frostView : s.countRunSecond.frostView = s.frostView := by
  unfold State.countRunSecond
  split
  · split <;> rfl
  · rfl

theorem State.takeStatus_keepsFrost (seq actual code check : Byte) :
    s.KeepsFrost (s.takeStatus seq actual code check) := by
  unfold State.takeStatus
  split
  · dsimp only
    split
    · exact (State.takeFault_keepsFrost _).after rfl
    · exact .of_view rfl
  · exact .refl s

theorem State.driveByte_keepsFrost (b : Byte) : s.KeepsFrost (s.driveByte b) := by
  unfold State.driveByte
  split
  · split
    · exact .of_view rfl
    · exact .refl s
  · exact (State.takeStatus_keepsFrost ..).after rfl
  · exact .of_view rfl

end Drive

/-! ### The valve (R163, R164) -/

section Valve

variable {s : State}

theorem homingAgrees_iff {m : Motion} {pos : Nat} (h : ∀ n, m ≠ .homing n) :
    homingAgrees m pos = true ↔ pos ≤ 120 := by
  cases m with
  | homing n => exact absurd rfl (h n)
  | _ => exact decide_eq_true_iff

theorem homingAgrees_homing {n pos : Nat} : homingAgrees (.homing n) pos = true ↔ n ≤ 200 ∧ pos = n - 140 :=
  decide_eq_true_iff

/-- The valve takes the target that the arbiter aims at (R60, R163). -/
theorem State.takeValve_keepsFrost (s : State) : s.KeepsFrost s.takeValve := by
  have htarget (ha : s.arb.Aims) : s.arb.valveTarget = 0 ∨ s.arb.valveTarget = 60 ∨ s.arb.valveTarget = 120 := by
    rw [ha.target]
    exact valveAim_rests _ _
  have hspared (h : s.coilSpared = true) : s.air.valvePos ≤ 60 ∧ s.arb.valveTarget ≠ 120 := by
    obtain ⟨hpos, -, harb⟩ := s.coilSpared_iff.1 h
    exact ⟨hpos, harb⟩
  by_cases hrest : s.air.valveMotion = .atRest
  · by_cases hpos : s.air.valvePos = s.arb.valveTarget
    · rw [State.takeValve_of_there hrest hpos]
      exact .of_valve rfl rfl rfl (fun ha hv => ⟨htarget ha, fun _ => hpos, hv.homing⟩) fun _ => hspared
    · rw [State.takeValve_of_elsewhere hrest hpos]
      exact .of_valve rfl rfl rfl (fun ha hv => ⟨htarget ha, nofun, by simpa [hrest, homingAgrees] using hv.homing⟩)
        fun _ => hspared
  · rw [State.takeValve_of_busy hrest]
    exact .of_valve rfl rfl rfl (fun ha hv => ⟨htarget ha, fun h => absurd h hrest, hv.homing⟩) fun _ => hspared

theorem State.airTake_keepsFrost (s : State) (w : AirWork) : s.KeepsFrost (s.airTake w) := by
  cases w with
  | none => exact .of_view s.recomputeAir_frostView
  | pathState b =>
    refine .trans ?_ (.of_view (State.recomputeAir_frostView _))
    exact (State.takeValve_keepsFrost _).after (State.fanDelayStep_frostView _ b)
  | s4 r => exact .of_view ((State.recomputeAir_frostView _).trans (s.airS4_frostView r))
  | s5 r => exact .of_view (s.recomputeAirAt_frostView _)

theorem stepToward_le {pos target bound : Nat} (hpos : pos ≤ bound) (htarget : target ≤ bound) :
    stepToward pos target ≤ bound := by
  unfold stepToward
  split
  · omega
  · split <;> omega

/-- A step of a moving valve keeps it between the ends, and off the FREEZE end where it is aimed off it (R163). -/
theorem State.stepValve_keepsFrost (h : s.air.valveMotion = .moving) :
    s.KeepsFrost (s.setAir { s.air with valvePos := stepToward s.air.valvePos s.air.valveTarget }) := by
  refine .of_valve rfl rfl rfl (fun _ hv => ⟨hv.target, fun hr => ?_, ?_⟩) fun hv hc => ?_
  · cases h.symm.trans hr
  · have hpos := hv.homing
    have htarget := hv.target
    simp only [setAir_air, h] at hpos ⊢
    rw [homingAgrees_iff (m := .moving) nofun] at hpos ⊢
    exact stepToward_le hpos (by omega)
  · obtain ⟨hpos, htarget, -⟩ := s.coilSpared_iff.1 hc
    have hrests := hv.target
    exact ⟨stepToward_le hpos (by omega), htarget⟩

/-- A homing step moves the count and the position together (R164). -/
theorem State.homeValve_keepsFrost {n : Nat} (hn : n < Config.valveHomingSteps) :
    s.KeepsFrost (s.setAir { s.air with
      valveMotion := .homing (n + 1), valvePos := n + 1 - Config.valveHomingToStop }) := by
  have hn' : n < 200 := hn
  have hstep (pos : Nat) (hpos : pos = n + 1 - 140) :
      s.KeepsFrost (s.setAir { s.air with valveMotion := .homing (n + 1), valvePos := pos }) :=
    .of_valve rfl rfl rfl (fun _ hv => ⟨hv.target, nofun, homingAgrees_homing.2 ⟨hn', hpos⟩⟩) fun _ hc =>
      ⟨by show pos ≤ 60; omega, (s.coilSpared_iff.1 hc).2.1⟩
  exact hstep _ rfl

theorem State.valveArrival_keepsFrost (h : s.air.valveMotion = .moving) (hpos : s.air.valvePos = s.air.valveTarget) :
    s.KeepsFrost (s.setAir { s.air with valveMotion := .atRest }).reportValve := by
  refine .of_valve rfl rfl rfl (fun _ hv => ⟨hv.target, fun _ => hpos, ?_⟩) fun _ hc => ?_
  · simpa [h, homingAgrees] using hv.homing
  · obtain ⟨hle, htarget, -⟩ := s.coilSpared_iff.1 hc
    exact ⟨hle, htarget⟩

theorem State.valveHomed_keepsFrost (s : State) : s.KeepsFrost s.valveHomed := by
  have hclosed (m : Motion) (hm : ∀ n, m ≠ .homing n) (hrest : m = .atRest → Config.valveClosed = s.air.valveTarget) :
      s.KeepsFrost (s.setAir { s.air with valvePos := Config.valveClosed, valveMotion := m }) := by
    refine .of_valve rfl rfl rfl (fun _ hv => ⟨hv.target, hrest, (homingAgrees_iff hm).2 ?_⟩) fun _ hc =>
      ⟨le_rfl, ?_⟩
    · show 60 ≤ 120
      norm_num
    · exact (s.coilSpared_iff.1 hc).2.1
  unfold State.valveHomed
  split
  · next h => exact (hclosed .atRest nofun fun _ => h.symm).trans (.of_view rfl)
  · exact hclosed .moving nofun nofun

end Valve

/-! ### Defrost controller (R89 to R104) -/

section Defrost

variable {s : State}

/-- A change of phase between phases that are not HEAT, the rest of the record standing as it is. -/
theorem State.phase_keepsFrost {t : State} {p : Phase} (hp : s.defrost.phase ≠ .heat) (hp' : p ≠ .heat)
    (hdrip : p = .drip → s.defrost.phase = .drip) (hdefrost : t.defrost = { s.defrost with phase := p })
    (harb : t.arb = s.arb) (hnotice : t.notice = s.notice) (hair : t.air = s.air) : s.KeepsFrost t := by
  refine .of_defrost harb hnotice hair (fun h => .inl (.inr (hdrip ?_))) (fun hs => ?_) fun hs => ?_
  · rw [hdefrost] at h
    exact h.resolve_left hp'
  · rw [HeaterSafe, hdefrost]
    exact hs.trans (iff_of_false hp hp')
  · rw [DefrostSafe, hdefrost]
    exact hs

theorem State.enterPrechill_keepsFrost (hp : s.defrost.phase ≠ .heat) : s.KeepsFrost s.enterPrechill :=
  State.phase_keepsFrost (p := .prechill) hp nofun nofun (congrArg State.defrost s.enterPrechill_eq) (by simp)
    (by simp) (by simp)

theorem State.enterPending_keepsFrost (hp : s.defrost.phase ≠ .heat) : s.KeepsFrost s.enterPending := by
  refine State.phase_keepsFrost (p := firstPhase s.arb.state) hp ?_ ?_ (congrArg State.defrost s.enterPending_eq)
    (by simp) (by simp) (by simp) <;>
    unfold firstPhase <;> split <;> nofun

theorem State.compareInterval_keepsFrost (s : State) : s.KeepsFrost s.compareInterval := by
  unfold State.compareInterval
  split
  · next h => exact State.enterPending_keepsFrost (by rw [h.1]; nofun)
  · exact .refl s

theorem State.enterIdle_keepsFrost (hp : s.defrost.phase ≠ .heat) : s.KeepsFrost s.enterIdle := by
  rw [State.enterIdle_eq]
  exact (State.phase_keepsFrost (s := s) (t := s.idled) (p := .idle) hp nofun nofun rfl rfl rfl rfl).trans
    (State.compareInterval_keepsFrost _)

theorem State.endRecover_keepsFrost (hp : s.defrost.phase = .recover) : s.KeepsFrost s.endRecover :=
  (State.enterIdle_keepsFrost (by
    show s.defrost.phase ≠ _
    rw [hp]
    nofun)).after rfl

/-- A change of the accumulator within its range, and of flags that no invariant reads. -/
theorem State.setDefrost_keepsFrost {d : Defrost} (hphase : d.phase = s.defrost.phase)
    (hheater : d.heater = s.defrost.heater) (hinterval : d.interval = s.defrost.interval)
    (hacc : DefrostSafe s → d.accumulator ≤ 999999) : s.KeepsFrost (s.setDefrost d) := by
  refine .of_defrost rfl rfl rfl (fun h => .inl (hphase ▸ h)) (fun hs => ?_) fun hs => ?_
  · rw [HeaterSafe, setDefrost_defrost, hphase, hheater]
    exact hs
  · obtain ⟨-, hrange⟩ := id hs
    rw [DefrostSafe, setDefrost_defrost, hinterval]
    exact ⟨hacc hs, hrange⟩

theorem State.giveUpDefrost_keepsFrost (hp : s.defrost.phase ≠ .heat) : s.KeepsFrost s.giveUpDefrost := by
  have hshort (n : Nat) (hn : DefrostSafe s → n ≤ 999999) : s.KeepsFrost
      (((s.removeDeadline .pendingLimit).removeDeadline .phase).setDefrost
        { s.defrost with accumulator := n }).enterIdle := by
    refine .trans ?_ (State.enterIdle_keepsFrost (by simpa using hp))
    exact .after (t := (s.removeDeadline .pendingLimit).removeDeadline .phase)
      (State.setDefrost_keepsFrost rfl rfl rfl hn) rfl
  refine hshort (s.defrost.interval - 3600) ?_
  rintro ⟨-, -, hmax⟩
  omega

/-- HEAT is entered only with the coil spared (R94). -/
theorem State.enterHeat_keepsFrost (h : s.coilSpared = true) : s.KeepsFrost s.enterHeat := by
  rw [State.enterHeat_eq]
  exact .of_defrost rfl rfl rfl (fun _ => .inr h) (fun _ => iff_of_true rfl rfl) fun ⟨_, hrange⟩ =>
    ⟨Nat.zero_le _, hrange⟩

theorem State.enterRelease_keepsFrost (hp : s.defrost.phase ≠ .heat) : s.KeepsFrost s.enterRelease := by
  have hreleased : s.KeepsFrost s.released :=
    State.phase_keepsFrost (p := .release) hp nofun nofun rfl rfl rfl rfl
  rw [State.enterRelease_eq]
  split
  · next h =>
    obtain ⟨-, -, hspared⟩ := s.valveOffCoil_iff.1 h
    exact hreleased.trans (State.enterHeat_keepsFrost (s.coilSpared_iff.2 hspared))
  · exact hreleased

theorem adaptInterval_range {interval : Nat} (h : 21600 ≤ interval ∧ interval ≤ 259200) (how : HeatEnd)
    (timeOnly : Bool) (secs : Nat) :
    21600 ≤ adaptInterval interval how timeOnly secs ∧ adaptInterval interval how timeOnly secs ≤ 259200 := by
  unfold adaptInterval
  split
  · split
    · exact clampNat_bounds (by norm_num) _
    · exact h
  · exact clampNat_bounds (by norm_num) _
  · exact h

theorem State.endHeat_keepsFrost (hp : s.defrost.phase = .heat) (how : HeatEnd) : s.KeepsFrost (s.endHeat how) := by
  rw [State.endHeat_eq]
  exact .of_defrost rfl rfl rfl (fun _ => .inl (.inl hp)) (fun _ => iff_of_false Bool.false_ne_true nofun)
    fun ⟨hacc, hrange⟩ => ⟨hacc, adaptInterval_range hrange ..⟩

theorem State.enterRecover_keepsFrost (hp : s.defrost.phase = .drip) : s.KeepsFrost s.enterRecover :=
  State.phase_keepsFrost (p := .recover) (by rw [hp]; nofun) nofun nofun (congrArg State.defrost s.enterRecover_eq)
    (by simp) (by simp) (by simp)

theorem State.countFrost_keepsFrost (s : State) : s.KeepsFrost s.countFrost := by
  unfold State.countFrost
  split
  · exact .refl s
  · exact State.setDefrost_keepsFrost rfl rfl rfl fun _ => min_le_left ..

theorem State.countFrost_phase (s : State) : s.countFrost.defrost.phase = s.defrost.phase := by
  unfold State.countFrost
  split <;> rfl

theorem State.heatTest_keepsFrost (hp : s.defrost.phase = .heat) (r : Report) : s.KeepsFrost (s.heatTest r) := by
  unfold State.heatTest
  split
  · exact State.setDefrost_keepsFrost rfl rfl rfl fun ⟨hacc, _⟩ => hacc
  · split
    · exact State.endHeat_keepsFrost hp _
    · exact .refl s

theorem State.takeS4_keepsFrost (s : State) (r : Report) : s.KeepsFrost (s.takeS4 r) := by
  refine s.countFrost_keepsFrost.trans ?_
  unfold State.takeS4
  dsimp only
  split
  · exact State.compareInterval_keepsFrost _
  · next hp => exact State.heatTest_keepsFrost hp r
  · next hp =>
    split
    · exact State.endRecover_keepsFrost hp
    · exact .refl _
  · exact .refl _

theorem State.startRecovery_keepsFrost (s : State) : s.KeepsFrost s.startRecovery := by
  rw [State.startRecovery_eq]
  exact .of_defrost rfl rfl rfl .inl id id

theorem State.endRecovery_keepsFrost (s : State) : s.KeepsFrost s.endRecovery := by
  cases h : s.defrost.recovery with
  | false => rw [State.endRecovery_of_stopped h]; exact .refl s
  | true =>
    rw [State.endRecovery_of_running h]
    exact .of_defrost rfl rfl rfl .inl id id

theorem State.takePhaseChange_keepsFrost (s : State) (halted : Bool) : s.KeepsFrost (s.takePhaseChange halted) := by
  unfold State.takePhaseChange
  split
  · next hp =>
    split
    · exact State.enterPrechill_keepsFrost (by rw [hp]; nofun)
    · exact .refl s
  · next hp =>
    split
    · exact State.enterRelease_keepsFrost (by rw [hp]; nofun)
    · exact .refl s
  · exact .refl s

theorem defrostNow_keepsFrost (s : State) : s.KeepsFrost (defrostNow s).1 := by
  unfold defrostNow
  split
  · next hp => exact State.enterPending_keepsFrost (by rw [hp]; nofun)
  · next hp =>
    refine (State.enterPending_keepsFrost ?_).after rfl
    show s.defrost.phase ≠ _
    rw [hp]
    nofun
  · exact .refl s
  · exact .refl s

theorem defrostCancel_keepsFrost (s : State) : s.KeepsFrost (defrostCancel s).1 := by
  unfold defrostCancel
  split
  · next hp => exact State.giveUpDefrost_keepsFrost (by rw [hp]; nofun)
  · next hp => exact State.giveUpDefrost_keepsFrost (by rw [hp]; nofun)
  · next hp => exact State.endHeat_keepsFrost hp _
  · exact .refl s

/-- A write of the defrost interval is brought into its range (R195). -/
theorem State.writeInterval_keepsFrost (s : State) (v : Int) :
    s.KeepsFrost (s.setDefrost { s.defrost with interval := (clampSetting 21600 259200 v).val }).compareInterval := by
  refine .trans ?_ (State.compareInterval_keepsFrost _)
  exact .of_defrost rfl rfl rfl .inl id fun ⟨hacc, _⟩ => ⟨hacc, clampSetting_range (by norm_num) v⟩

theorem settingsWrite_keepsFrost (s : State) (item : Byte) (value : Quad) :
    s.KeepsFrost (settingsWrite item value s).1 := by
  unfold settingsWrite
  split
  · exact .refl s
  · next i _ =>
    split
    · exact .refl s
    · next t clamped hw =>
      by_cases hi : i = .interval
      · subst hi
        cases hw
        exact s.writeInterval_keepsFrost _
      · exact .of_view (State.writeSetting_frostView hi hw)

end Defrost

/-! ### Start-up (R86, R87, R165, R190) -/

theorem loadContents_interval_range (image : Option ImageContents) :
    21600 ≤ (loadContents image).settings.interval ∧ (loadContents image).settings.interval ≤ 259200 := by
  cases image with
  | none => simp [loadContents, Config.factoryContents, Config.factorySettings]
  | some c =>
    simp only [loadContents, settingsInRange, clampCount]
    exact clampSetting_range (by norm_num) _

/-- Start-up leaves IDLE with the heater off, the valve homing toward CLOSED, and no notice pending. -/
theorem State.startUp_keepsFrost (s : State) (straps : Straps) (lockout : Bool) (faults : Nat) :
    s.KeepsFrost (s.startUp straps lockout faults) := by
  refine ⟨fun _ => (coilSafe_iff _).2 ⟨⟨.inr (.inl rfl), nofun, rfl⟩, ⟨?_, fun _ => rfl⟩, ?_⟩,
    fun _ => iff_of_false Bool.false_ne_true nofun,
    fun _ => ⟨Nat.zero_le _, loadContents_interval_range _⟩, fun _ => ?_⟩
  · cases lockout <;> rfl
  · rintro (h | h) <;> cases h
  · exact iff_of_false Bool.false_ne_true (by show ¬ (0#11 &&& 0x7FF#11 ≠ 0#11); decide)

end Sys2Proof.Machine
end

section
/-! O53 and O54: every command, and every step, keeps refrigerant off a heated coil, the heater to HEAT, the defrost record
in range and ATTN as the flags say. -/

namespace Sys2Proof.Machine

open Sys2Proof.Safety
open State (KeepsFrost)

/-! ### The taking of what is in flight -/

section Taking

variable {s : State}

theorem State.takeEvent_keepsFrost {α : Type} {p : Handoff → Option α} {f : α → State → State}
    (hf : ∀ a (s1 : State), s1.KeepsFrost (f a s1)) : s.KeepsFrost (s.takeEvent p f) := by
  unfold State.takeEvent
  split
  · exact .refl s
  · exact (hf _ _).after rfl

/-- A delivery changes the timebase first, and may rely on all the rest. -/
theorem State.deliver_keepsFrost {k : DeadlineKey} {f : Instant → State → State}
    (hf : ∀ due (x : Timebase), (s.setTime x).KeepsFrost (f due (s.setTime x))) : s.KeepsFrost (s.deliver k f) := by
  obtain he | ⟨d, -, -, he⟩ := s.deliver_cases k f
  · rw [he]
    exact .refl s
  · rw [he]
    exact (hf d.due (s.time.delivered k)).after rfl

theorem State.serve_keepsFrost {code : List Byte} {act : State → State × Reply}
    (hact : ∀ s1 : State, s1.KeepsFrost (act s1).1) : s.KeepsFrost (s.serve code act) := by
  have hlink (l : LinkPort) : s.KeepsFrost (s.setLink l) := .of_view rfl
  have hreply (t : State) (r : Reply) : t.KeepsFrost (t.formReply r) := .of_view rfl
  unfold State.serve
  split
  · exact ((hlink _).trans (hact _)).trans (hreply _ _)
  · split
    · exact ((hlink _).trans (hact _)).trans (hreply _ _)
    · exact hlink _

/-- A request whose answer leaves alone what the invariants speak of. -/
theorem State.serve_keepsFrost_of_view {code : List Byte} {act : State → State × Reply}
    (hact : ∀ s1 : State, (act s1).1.frostView = s1.frostView) : s.KeepsFrost (s.serve code act) :=
  serve_keepsFrost fun s1 => .of_view (hact s1)

theorem State.takeEvent_keepsFrost_of_view {α : Type} {p : Handoff → Option α} {f : α → State → State}
    (hf : ∀ a (s1 : State), (f a s1).frostView = s1.frostView) : s.KeepsFrost (s.takeEvent p f) :=
  takeEvent_keepsFrost fun a s1 => .of_view (hf a s1)

theorem State.deliver_keepsFrost_of_view {k : DeadlineKey} {f : Instant → State → State}
    (hf : ∀ due (s1 : State), (f due s1).frostView = s1.frostView) : s.KeepsFrost (s.deliver k f) :=
  deliver_keepsFrost fun due x => .of_view (hf due (s.setTime x))

end Taking

/-! ### Every command -/

/-- Where the outcome is a next state, the invariants of R87, R94 and R190 hold there if they hold in `s`. -/
def State.FrostKept (s : State) (o : Host.Outcome State Fault Refusal) : Prop := ∀ t, o = .next t → s.KeepsFrost t

theorem State.FrostKept.next {s t : State} (ht : s.KeepsFrost t) : s.FrostKept (.next t) :=
  fun _ he => by cases he; exact ht

section Commands

variable (s : State)

/-! #### Start-up, requests and the link port -/

theorem execUptimeWrapRestart_frostKept (straps : Straps) : s.FrostKept (execUptimeWrapRestart straps s) := by
  refine .next ?_
  split
  · exact s.startUp_keepsFrost ..
  · exact .refl s

theorem execReplySent_frostKept (straps : Straps) : s.FrostKept (execReplySent straps s) := by
  refine .next ?_
  split
  · split
    · exact s.startUp_keepsFrost ..
    · exact .of_view rfl
  · exact .refl s

theorem clearLockout_keepsFrost : s.KeepsFrost (clearLockout s).1 := by
  unfold clearLockout
  split
  · next h => exact State.clearLockout_keepsFrost h
  · exact .refl s

theorem noticeNext_keepsFrost : s.KeepsFrost (noticeNext s).1 := by
  unfold noticeNext
  split
  · exact .refl s
  · exact .of_judged

theorem execStoreWriteEnd_frostKept : s.FrostKept (execStoreWriteEnd s) := by
  refine .next (.of_view ?_)
  split <;> rfl

theorem execFrameRefused_frostKept (why : FrameRefusal) : s.FrostKept (execFrameRefused why s) := by
  refine .next (.of_view ?_)
  cases why <;> split <;> rfl

theorem execOverrun_frostKept : s.FrostKept (execOverrun s) := by
  refine .next (.of_view ?_)
  split <;> rfl

theorem execFramingError_frostKept : s.FrostKept (execFramingError s) := by
  refine .next (.of_view ?_)
  split <;> rfl

theorem execReplyStart_frostKept : s.FrostKept (execReplyStart s) := by
  refine .next (.of_view ?_)
  split <;> rfl

/-! #### Holds, channels, zones and doors -/

theorem execHoldExpiry_frostKept (slot : Nat) : s.FrostKept (execHoldExpiry slot s) := by
  refine .next (State.deliver_keepsFrost_of_view fun due s1 => ?_)
  split
  · rfl
  · exact s1.regovern_frostView _ (State.lapse_frostView ..)

theorem execChannelConversion_frostKept (c : Channel) (count : Nat) :
    s.FrostKept (execChannelConversion c count s) := by
  refine .next (.of_view ?_)
  rw [State.report_frostView]
  split <;> rfl

theorem execBlindHalf_frostKept (z : Zone) : s.FrostKept (execBlindHalf z s) := by
  refine .next (State.deliver_keepsFrost_of_view fun due s1 => ?_)
  split
  · exact s1.evaluateSchedule_frostView ..
  · rfl

theorem execDoorAjar_frostKept (d : Door) : s.FrostKept (execDoorAjar d s) := by
  refine .next (State.deliver_keepsFrost_of_view fun due s1 => ?_)
  split <;> rfl

theorem execDoorChangeEvaluation_frostKept (d : Door) : s.FrostKept (execDoorChangeEvaluation d s) := by
  refine .next (State.takeEvent_keepsFrost_of_view fun e s1 => ?_)
  split
  · exact s1.evaluateDoor_frostView ..
  · rfl

/-! #### Air handler -/

theorem execFanDelay_frostKept : s.FrostKept (execFanDelay s) := by
  refine .next (State.deliver_keepsFrost_of_view fun due s1 => ?_)
  rw [State.recomputeAir_frostView]
  split <;> rfl

theorem execDamperArrival_frostKept : s.FrostKept (execDamperArrival s) := by
  refine .next (.of_view ?_)
  split
  · exact State.closingEnds_frostView _
  · rfl

theorem execFlapArrival_frostKept : s.FrostKept (execFlapArrival s) := by
  refine .next (.of_view ?_)
  split <;> simp

theorem execDamperStep_frostKept : s.FrostKept (execDamperStep s) := by
  refine .next (.of_view ?_)
  split
  · rfl
  · rfl
  · split <;> rfl

theorem execValveStep_frostKept : s.FrostKept (execValveStep s) := by
  refine .next ?_
  split
  · exact .refl s
  · next h => exact State.stepValve_keepsFrost h
  · split
    · next hn => exact State.homeValve_keepsFrost hn
    · exact .refl s

theorem execValveArrival_frostKept : s.FrostKept (execValveArrival s) := by
  refine .next ?_
  split
  · next h => exact State.valveArrival_keepsFrost h.1 h.2
  · exact .refl s

theorem execHomingEnd_frostKept (m : HomingMotor) : s.FrostKept (execHomingEnd m s) := by
  refine .next ?_
  split
  · split
    · exact s.valveHomed_keepsFrost
    · exact .refl s
  · split
    · exact .of_view s.damperHomed_frostView
    · exact .refl s
  · exact .refl s

/-! #### Path arbiter, drive link and mains -/

theorem State.reviewAfter_keepsFrost {s t : State} (h : t.frostView = s.frostView) : s.KeepsFrost t.review :=
  (KeepsFrost.of_view h).trans t.review_keepsFrost

theorem execPumpdownStage_frostKept : s.FrostKept (execPumpdownStage s) := by
  refine .next ?_
  split
  · next h => exact State.deliver_keepsFrost fun _ _ => State.endPumpdown_keepsFrost h
  · exact .refl s

theorem execHoldoffStage_frostKept : s.FrostKept (execHoldoffStage s) := by
  refine .next ?_
  split
  · next h =>
    refine State.deliver_keepsFrost fun _ _ => State.restore_keepsFrost ?_
    rw [State.setTime_arb, h]
    nofun
  · exact .refl s

theorem execRecoveryStage_frostKept : s.FrostKept (execRecoveryStage s) := by
  refine .next ?_
  split
  · next h => exact State.deliver_keepsFrost fun _ _ => State.recover_keepsFrost h
  · exact .refl s

theorem execSpeedStep_frostKept : s.FrostKept (execSpeedStep s) :=
  .next <| State.deliver_keepsFrost fun _ _ => State.reviewAfter_keepsFrost <|
    (State.slewSpeed_frostView _).trans <| (State.retarget_frostView _).trans rfl

theorem execDriveLinkTick_frostKept : s.FrostKept (execDriveLinkTick s) := by
  have hsend (t : State) : t.KeepsFrost t.sendDrive := .of_view rfl
  refine .next (.trans (.trans ?_ (.of_view (State.countRunSecond_frostView _))) (hsend _))
  exact (State.judgeSilence_keepsFrost _).after rfl

theorem execDriveReceiverByte_frostKept (c : DriveChar) : s.FrostKept (execDriveReceiverByte c s) := by
  refine .next ?_
  split
  · exact s.driveByte_keepsFrost _
  · exact .of_view rfl

theorem execMainsSample_frostKept (count : Nat) : s.FrostKept (execMainsSample count s) := by
  refine .next (.of_view ?_)
  split <;> rfl

theorem execArbiterSag_frostKept : s.FrostKept (execArbiterSag s) := by
  refine .next ?_
  split
  · exact (State.takeSag_keepsFrost _).after rfl
  · exact .refl s

theorem execArbiterNormal_frostKept : s.FrostKept (execArbiterNormal s) := by
  refine .next (.of_view ?_)
  split
  · exact State.takeNormal_frostView _
  · rfl

/-! #### Defrost controller -/

/-- HEAT begins in RELEASE only with the coil spared (R93, R94). -/
theorem execReleaseEnd_frostKept : s.FrostKept (execReleaseEnd s) := by
  refine .next (State.takeEvent_keepsFrost fun pos s1 => ?_)
  split
  · next h => exact State.enterHeat_keepsFrost h.2.2
  · exact .refl s1

theorem execArbiterChangeToDefrost_frostKept : s.FrostKept (execArbiterChangeToDefrost s) := by
  refine .next (State.takeEvent_keepsFrost fun c s1 => .trans ?_ (State.takePhaseChange_keepsFrost _ _))
  split
  · exact s1.startRecovery_keepsFrost
  · exact .refl s1

theorem execPendingLimit_frostKept : s.FrostKept (execPendingLimit s) := by
  refine .next (State.deliver_keepsFrost fun _ x => ?_)
  split
  · next h =>
    refine State.enterRelease_keepsFrost ?_
    rw [h]
    nofun
  · exact .refl _

/-- The expiries of PHASE are delivered in the phase that they end. -/
theorem State.phaseExpiry_frostKept (p : Phase) {f : Instant → State → State}
    (hf : ∀ due (s1 : State), s1.defrost.phase = p → s1.KeepsFrost (f due s1)) :
    s.FrostKept (.next (if s.defrost.phase = p then s.deliver .phase f else s)) := by
  refine .next ?_
  split
  · next h => exact deliver_keepsFrost fun due x => hf due _ h
  · exact .refl s

theorem execCoilS3Report_frostKept : s.FrostKept (execCoilS3Report s) := by
  refine .next (State.takeEvent_keepsFrost fun e s1 => ?_)
  split
  · exact s1.endRecovery_keepsFrost
  · exact .refl s1

theorem execCoilRecoveryCutShort_frostKept : s.FrostKept (execCoilRecoveryCutShort s) := by
  refine .next (State.takeEvent_keepsFrost fun e s1 => ?_)
  split
  · exact s1.endRecovery_keepsFrost
  · exact .refl s1

/-- Every command keeps the invariants. -/
theorem exec_frostKept (c : Instr) : s.FrostKept (exec c s) := by
  have read {code : List Byte} {act : State → State × Reply} (h : ∀ s1, (act s1).1 = s1) :
      s.KeepsFrost (s.serve code act) := State.serve_keepsFrost_of_view fun s1 => by rw [h s1]
  cases c with
  | powerOnReset straps => exact .next (s.startUp_keepsFrost ..)
  | uptimeWrapRestart straps => exact execUptimeWrapRestart_frostKept s _
  | ident => exact .next (read fun _ => rfl)
  | systemQuery => exact .next (read fun _ => rfl)
  | restart => exact .next (State.serve_keepsFrost_of_view fun _ => rfl)
  | holdOpen zone kind target halfBand priority flags minutes floor =>
    exact .next (State.serve_keepsFrost_of_view fun _ => holdOpen_frostView ..)
  | holdAmend slot gen mask target halfBand priority minutes floor reach =>
    exact .next (State.serve_keepsFrost_of_view fun _ => holdAmend_frostView ..)
  | holdRetire slot gen => exact .next (State.serve_keepsFrost_of_view fun _ => holdRetire_frostView ..)
  | holdQuery slot gen => exact .next (read (holdQuery_fst _ _))
  | holdList zone => exact .next (read (holdList_fst _))
  | zoneQuery zone => exact .next (read (zoneQuery_fst _))
  | regimeSet regime => exact .next (State.serve_keepsFrost_of_view fun _ => regimeSet_frostView ..)
  | mapSet zone regime fallback offset => exact .next (State.serve_keepsFrost_of_view fun _ => mapSet_frostView ..)
  | sensorQuery channel => exact .next (read (sensorQuery_fst _))
  | correctionSet slot op channel index value =>
    exact .next (State.serve_keepsFrost_of_view fun _ => correctionSet_frostView ..)
  | doorQuery door clear => exact .next (State.serve_keepsFrost_of_view fun _ => doorQuery_frostView ..)
  | defrostNow => exact .next (State.serve_keepsFrost defrostNow_keepsFrost)
  | defrostCancel => exact .next (State.serve_keepsFrost defrostCancel_keepsFrost)
  | clearLockout => exact .next (State.serve_keepsFrost clearLockout_keepsFrost)
  | noticeNext => exact .next (State.serve_keepsFrost noticeNext_keepsFrost)
  | noticeEnable mask => exact .next (State.serve_keepsFrost fun _ => .of_judged)
  | settingsWrite item value => exact .next (State.serve_keepsFrost fun s1 => settingsWrite_keepsFrost s1 _ _)
  | settingsRead item => exact .next (read (settingsRead_fst _))
  | settingsStore => exact .next (State.serve_keepsFrost_of_view settingsStore_frostView)
  | storeWriteEnd => exact execStoreWriteEnd_frostKept s
  | frameRefused why => exact execFrameRefused_frostKept s _
  | overrun => exact execOverrun_frostKept s
  | framingError => exact execFramingError_frostKept s
  | byteGapTimeout => exact .next (.of_view rfl)
  | replyStart => exact execReplyStart_frostKept s
  | replySent straps => exact execReplySent_frostKept s _
  | holdExpiry slot => exact execHoldExpiry_frostKept s _
  | holdChangeEvaluation z =>
    exact .next (State.takeEvent_keepsFrost_of_view fun g s1 => s1.evaluateHoldChange_frostView z g)
  | channelConversion c count => exact execChannelConversion_frostKept s _ _
  | oneSecondEvaluation z => exact .next (State.takeEvent_keepsFrost_of_view fun r s1 => s1.evaluateSecond_frostView z r)
  | blindHalf z => exact execBlindHalf_frostKept s _
  | doorSample d a b c => exact .next (.of_view (s.sampleDoor_frostView ..))
  | doorAjar d => exact execDoorAjar_frostKept s _
  | doorChangeEvaluation d => exact execDoorChangeEvaluation_frostKept s _
  | airRecompute k => exact .next (State.takeEvent_keepsFrost fun w s1 => s1.airTake_keepsFrost w)
  | fanDelay => exact execFanDelay_frostKept s
  | damperArrival => exact execDamperArrival_frostKept s
  | flapArrival => exact execFlapArrival_frostKept s
  | homingEnd m => exact execHomingEnd_frostKept s _
  | valveArrival => exact execValveArrival_frostKept s
  | startCompletion => exact .next (State.takeEvent_keepsFrost fun pos s1 => s1.valveArrives_keepsFrost pos)
  | releaseEnd => exact execReleaseEnd_frostKept s
  | arbiterReview => exact .next (State.takeEvent_keepsFrost fun _ s1 => s1.review_keepsFrost)
  | pumpdownStage => exact execPumpdownStage_frostKept s
  | holdoffStage => exact execHoldoffStage_frostKept s
  | recoveryStage => exact execRecoveryStage_frostKept s
  | inhibit => exact .next (State.deliver_keepsFrost fun _ _ => State.reviewAfter_keepsFrost rfl)
  | dwellMin => exact .next (State.deliver_keepsFrost fun _ _ => State.reviewAfter_keepsFrost rfl)
  | dwellMax => exact .next (State.deliver_keepsFrost fun _ _ => State.reviewAfter_keepsFrost rfl)
  | speedStep => exact execSpeedStep_frostKept s
  | driveLinkTick => exact execDriveLinkTick_frostKept s
  | statusFrame seq actual code check => exact .next ((State.takeStatus_keepsFrost ..).after rfl)
  | mainsSample count => exact execMainsSample_frostKept s _
  | arbiterSag => exact execArbiterSag_frostKept s
  | arbiterNormal => exact execArbiterNormal_frostKept s
  | arbiterChangeToDefrost => exact execArbiterChangeToDefrost_frostKept s
  | defrostS4Report => exact .next (State.takeEvent_keepsFrost fun r s1 => s1.takeS4_keepsFrost r)
  | pendingLimit => exact execPendingLimit_frostKept s
  | prechillPhaseExpiry =>
    exact s.phaseExpiry_frostKept .prechill fun _ _ h => State.enterRelease_keepsFrost (by rw [h]; nofun)
  | heatPhaseExpiry => exact s.phaseExpiry_frostKept .heat fun _ _ h => State.endHeat_keepsFrost h _
  | dripPhaseExpiry => exact s.phaseExpiry_frostKept .drip fun _ _ h => State.enterRecover_keepsFrost h
  | recoverPhaseExpiry => exact s.phaseExpiry_frostKept .recover fun _ _ h => State.endRecover_keepsFrost h
  | coilS3Report => exact execCoilS3Report_frostKept s
  | coilRecovery => exact .next (State.deliver_keepsFrost fun _ x => State.endRecovery_keepsFrost _)
  | coilRecoveryCutShort => exact execCoilRecoveryCutShort_frostKept s
  | deadlineFallsDue => exact .next (.of_view s.entryFallsDue_frostView)
  | noticeRaise n => exact .next (State.takeEvent_keepsFrost fun _ _ => .of_judged)
  | characterReceived b => exact .next (.of_view (s.receive_frostView b))
  | driveReceiverByte c => exact execDriveReceiverByte_frostKept s _
  | damperStep => exact execDamperStep_frostKept s
  | valveStep => exact execValveStep_frostKept s
  | pwmPeriodBoundary => exact .next (.of_view rfl)

end Commands

/-- A step runs one command or moves the clock, and each keeps the invariants. -/
theorem step_keepsFrost {s t : State} (hstep : step s = .next t) : s.KeepsFrost t := by
  unfold step at hstep
  split at hstep
  · cases hstep
    exact .of_view s.idle_frostView
  · next c rest _ => exact (exec_frostKept (s.setPending rest) c t hstep).after rfl

/-- Settles O53: the invariant says of the valve and of the arbiter's target what R94 rests on, and every step keeps it. -/
theorem everyStepKeepsRefrigerantOffAHeatedCoil : Obligations.EveryStepKeepsRefrigerantOffAHeatedCoil :=
  fun _ _ hs hstep => (step_keepsFrost hstep).coil hs

/-- Settles O54: each step lemma of the defrost record and of the notice flags is one part of `step_keepsFrost`. -/
theorem everyStepKeepsHeaterRangesAndAttn : Obligations.EveryStepKeepsHeaterRangesAndAttn :=
  fun _ _ hstep =>
    have hkept := step_keepsFrost hstep
    ⟨hkept.heater, hkept.ranges, hkept.attn⟩

end Sys2Proof.Machine
end

section
/-! Fresh-coil recovery (R104): its three ends. -/

namespace Sys2Proof.Machine

open Sys2Proof.Safety

theorem Timebase.delivered_without (x : Timebase) (k : DeadlineKey) : (x.delivered k).without k = x.without k := by
  simp [Timebase.without, Timebase.delivered]

/-- Settles O52: each of the three ends applies `endRecovery` under its own condition. -/
theorem coilRecoveryEndsInThreeWays : Obligations.CoilRecoveryEndsInThreeWays := by
  intro s rest gone kept
  have hended (hrun : s.defrost.recovery = true) : kept.endRecovery = gone rest :=
    State.endRecovery_of_running (s := kept) hrun
  have hstays (hstopped : s.defrost.recovery = false) : kept.endRecovery = kept :=
    State.endRecovery_of_stopped (s := kept) hstopped
  refine ⟨fun r htaken => ?report, fun u htaken => ?urgency, fun due hd => ?delivery⟩
  case report =>
    have hexec : exec .coilS3Report s = .next (if r.state = .good ∧ 10 ≤ r.f then kept.endRecovery else kept) :=
      congrArg _ (State.takeEvent_of_some _ htaken)
    rw [hexec]
    refine ⟨fun hrun hgood hwarm => by rw [if_pos ⟨hgood, hwarm⟩, hended hrun], ?_⟩
    rintro (hstopped | hbad | hcold)
    · rw [hstays hstopped, ite_self]
    · rw [if_neg fun h => hbad h.1]
    · rw [if_neg fun h => hcold.not_ge h.2]
  case urgency =>
    have hexec : exec .coilRecoveryCutShort s = .next (if 1500 ≤ u then kept.endRecovery else kept) :=
      congrArg _ (State.takeEvent_of_some _ htaken)
    rw [hexec]
    refine ⟨fun hrun hurgent => by rw [if_pos hurgent, hended hrun], ?_⟩
    rintro (hstopped | hlow)
    · rw [hstays hstopped, ite_self]
    · rw [if_neg hlow.not_ge]
  case delivery =>
    let taken := expired s .coilRecovery
    have hexec : exec .coilRecovery s = .next taken.endRecovery := congrArg _ (State.deliver_of_delivers hd _)
    have htime : taken.time.without .coilRecovery = s.time.without .coilRecovery := Timebase.delivered_without ..
    rw [hexec]
    refine ⟨fun hrun => ?_, fun hstopped => ?_⟩
    · rw [State.endRecovery_of_running (s := taken) hrun, htime]
      rfl
    · rw [State.endRecovery_of_stopped (s := taken) hstopped]

end Sys2Proof.Machine
end

section
/-! The deadlines of a defrost that begins (R91, R92), and the expiries of PHASE that end HEAT, DRIP and RECOVER (R95 to
R99). -/

namespace Sys2Proof.Machine

open Sys2Proof.Safety

/-! ### The begin of a defrost: what it hands on, and its deadlines -/

theorem append_frostHanded (es : List Handoff) (st : PathState) :
    es ++ frostHanded st = es ++ phaseHanded ++ if st = .runFreeze then phaseHanded else [] :=
  (List.append_assoc ..).symm

theorem State.recovered_events (s : State) :
    s.recovered.events = s.events ++ .raise .defrostDone :: phaseHanded := by simp [State.recovered]

section Begins

variable {s u : State}

theorem Timebase.frosted_of_runs (x : Timebase) {st : PathState} (h : st = .runFreeze) :
    x.frosted st = ((x.wait .pendingLimit 1800).without .pendingLimit).wait .phase 600 := if_pos h

theorem Timebase.frosted_of_rests (x : Timebase) {st : PathState} (h : st ≠ .runFreeze) :
    x.frosted st = x.wait .pendingLimit 1800 := if_neg h

theorem Timebase.frosted_apart (x : Timebase) (st : PathState) :
    (x.frosted st).apart [.pendingLimit, .phase] = x.apart [.pendingLimit, .phase] := by
  unfold Timebase.frosted
  split <;> simp

theorem State.enterPending_time (harb : u.arb = s.arb) : u.enterPending.time = u.time.frosted s.arb.state := by
  rw [State.enterPending_eq, harb]

/-- PENDING_LIMIT is due 1800 s after PENDING begins, and is gone for PHASE 600 s on where PRECHILL begins at once. -/
theorem State.enterPending_deadlines (hkept : TimeKept [.pendingLimit, .phase] s u) (harb : u.arb = s.arb) :
    (¬ s.arb.state = .runFreeze → DueAfter .pendingLimit 1800 s u.enterPending) ∧
      (s.arb.state = .runFreeze → DueAfter .phase 600 s u.enterPending ∧ NoneOf [.pendingLimit] u.enterPending) ∧
      TimeKept [.pendingLimit, .phase] s u.enterPending := by
  have htime := State.enterPending_time harb
  obtain ⟨huptime, hms, -⟩ := id hkept
  refine ⟨fun hrests => ?_, fun hruns => ?_, ?_⟩
  · rw [u.time.frosted_of_rests hrests] at htime
    simp [DueAfter, htime, huptime, hms]
  · rw [u.time.frosted_of_runs hruns] at htime
    rw [noneOf_iff, htime]
    simp [DueAfter, htime, huptime, hms]
  · rw [timeKept_iff_apart, htime, Timebase.frosted_apart]
    exact (timeKept_iff_apart _ s u).1 hkept

theorem State.enterPending_noneOf_phase (hgone : u.time.Lacks .phase) (harb : u.arb = s.arb)
    (hrests : ¬ s.arb.state = .runFreeze) : NoneOf [.phase] u.enterPending := by
  rw [noneOf_iff, State.enterPending_time harb, u.time.frosted_of_rests hrests]
  simp [hgone]

end Begins

/-! ### The expiries of PHASE -/

theorem adaptInterval_expiry (interval : Nat) (timeOnly : Bool) (secs : Nat) :
    adaptInterval interval .expiry timeOnly secs
      = if timeOnly then interval else clampNat 21600 259200 (interval / 2) := by cases timeOnly <;> rfl

section Expiry

variable {s : State} {due : Instant}

theorem execHeatPhaseExpiry_of_delivers (hd : Delivers s .phase due) (hp : s.defrost.phase = .heat) :
    exec .heatPhaseExpiry s = .next ((expired s .phase).endHeat .expiry) :=
  congrArg _ ((if_pos hp).trans (State.deliver_of_delivers hd _))

theorem execDripPhaseExpiry_of_delivers (hd : Delivers s .phase due) (hp : s.defrost.phase = .drip) :
    exec .dripPhaseExpiry s = .next (expired s .phase).enterRecover :=
  congrArg _ ((if_pos hp).trans (State.deliver_of_delivers hd _))

theorem execRecoverPhaseExpiry_of_delivers (hd : Delivers s .phase due) (hp : s.defrost.phase = .recover) :
    exec .recoverPhaseExpiry s = .next (expired s .phase).endRecover :=
  congrArg _ ((if_pos hp).trans (State.deliver_of_delivers hd _))

end Expiry

/-- Settles O51: HEAT, DRIP and RECOVER each end by their own change of phase; the comparison of IDLE follows RECOVER. -/
theorem phaseExpiryEndsThePhase : Obligations.PhaseExpiryEndsThePhase := by
  intro s due hd framed changed runs begins
  refine ⟨fun hp => ?heat, fun hp => ?drip, fun hp => ?recover⟩
  case heat =>
    have hexec := execHeatPhaseExpiry_of_delivers hd hp
    rw [State.endHeat_eq, adaptInterval_expiry] at hexec
    refine ⟨_, hexec, ?_, ?_, ?_, ?_⟩
    · simp [DueAfter, expired_eq]
    · rw [List.append_nil]
      rfl
    · simp [expired_eq]
    · rw [timeKept_iff_apart]
      simp [expired_eq]
  case drip =>
    have hexec := execDripPhaseExpiry_of_delivers hd hp
    rw [State.enterRecover_eq] at hexec
    refine ⟨_, hexec, ?_, ?_, ?_, ?_⟩
    · simp [DueAfter, expired_eq]
    · rw [List.append_nil]
      rfl
    · simp [expired_eq]
    · rw [timeKept_iff_apart]
      simp [expired_eq]
  case recover =>
    let taken := expired s .phase
    refine ⟨_, execRecoverPhaseExpiry_of_delivers hd hp, fun hbelow => ?below, fun hreached => ?reached⟩
    case below =>
      rw [State.endRecover_of_below (s := taken) hbelow]
      refine ⟨rfl, ?_, ?_⟩
      · simp [State.recovered]
      · rw [timeKept_iff_apart]
        simp [State.recovered, taken, expired_eq]
    case reached =>
      have hkept : TimeKept [.pendingLimit, .phase] s taken.recovered := by
        rw [timeKept_iff_apart]
        simp [State.recovered, taken, expired_eq]
      obtain ⟨hpending, hprechill, hend⟩ := State.enterPending_deadlines hkept rfl
      rw [State.endRecover_of_reached (s := taken) hreached]
      refine ⟨?_, fun hrests => ⟨hpending hrests, State.enterPending_noneOf_phase ?_ rfl hrests⟩, hprechill, hend⟩
      · rw [State.enterPending_eq, append_frostHanded, State.recovered_events]
        rfl
      · simp [State.recovered]

end Sys2Proof.Machine
end

section
/-! The S4 report in each phase (R89 to R91, R95 to R98), and the requests of the defrost controller (R101, R102). -/

namespace Sys2Proof.Machine

open Sys2Proof.Safety

/-! ### The S4 report by phase (R89) -/

section Reported

variable {s : State} {r : Report}

theorem State.takeS4_of_idle (hp : s.defrost.phase = .idle) : s.takeS4 r = s.countFrost.compareInterval := by
  simp only [State.takeS4, State.countFrost_phase, hp]

theorem State.takeS4_of_heat (hp : s.defrost.phase = .heat) : s.takeS4 r = s.heatTest r := by
  simp only [State.takeS4, State.countFrost_phase, hp]
  rw [State.countFrost_of_heat hp]

theorem State.takeS4_of_recover (hp : s.defrost.phase = .recover) :
    s.takeS4 r = if r.state = .good ∧ r.f ≤ -50 then s.countFrost.endRecover else s.countFrost := by
  simp only [State.takeS4, State.countFrost_phase, hp]

theorem State.takeS4_of_other (hidle : s.defrost.phase ≠ .idle) (hheat : s.defrost.phase ≠ .heat)
    (hrecover : s.defrost.phase ≠ .recover) : s.takeS4 r = s.countFrost := by
  unfold State.takeS4
  dsimp only
  split
  · next h => exact absurd (s.countFrost_phase ▸ h) hidle
  · next h => exact absurd (s.countFrost_phase ▸ h) hheat
  · next h => exact absurd (s.countFrost_phase ▸ h) hrecover
  · rfl

theorem State.heatTest_of_untrusted (h : r.state ≠ .good) :
    s.heatTest r = s.setDefrost { s.defrost with timeOnly := true } := if_pos h

theorem State.heatTest_of_cold (hgood : r.state = .good) (h : s.defrost.timeOnly = true ∨ r.f < 80) :
    s.heatTest r = s := by
  rw [State.heatTest, if_neg (not_not.2 hgood), if_neg]
  rintro ⟨htimed, hwarm⟩
  rcases h with honly | hcold
  · rw [honly] at htimed
    cases htimed
  · omega

theorem State.heatTest_of_warm (hgood : r.state = .good) (htimed : s.defrost.timeOnly = false) (hwarm : 80 ≤ r.f) :
    s.heatTest r = s.endHeat .termination := by
  rw [State.heatTest, if_neg (not_not.2 hgood), if_pos ⟨htimed, hwarm⟩]

theorem execDefrostS4Report_of_taken {rest : List Handoff} (h : takeFirst s4ReportOf s.events = some (r, rest)) :
    exec .defrostS4Report s = .next ((s.setEvents rest).takeS4 r) := congrArg _ (State.takeEvent_of_some _ h)

end Reported

/-- Settles O48: the count comes first, in every phase but HEAT, and the test of the phase reads what it has made. -/
theorem s4ReportCountsFrostAndTests : Obligations.S4ReportCountsFrostAndTests := by
  intro s r rest htaken changed runs terms acc counted
  let quiet := s.setEvents rest
  have hexec : exec .defrostS4Report s = .next (quiet.takeS4 r) := execDefrostS4Report_of_taken htaken
  have hcounted (hp : s.defrost.phase ≠ .heat) : quiet.countFrost = counted := by
    have hterms : quiet.frostTerms = terms := by
      simp only [State.frostTerms, DoorRec.isOpen, decide_eq_true_eq]
      rfl
    rw [State.countFrost_of_ne (s := quiet) hp, hterms]
    rfl
  rw [hexec]
  refine ⟨fun hheat hrecover hbelow => ?counts, fun hp hreached => ?begins, fun hp => ?heat, fun hp => ?recover⟩
  case counts =>
    by_cases hidle : s.defrost.phase = .idle
    · rw [State.takeS4_of_idle (s := quiet) hidle, hcounted hheat,
        State.compareInterval_of_below (s := counted) (hbelow hidle)]
    · rw [State.takeS4_of_other (s := quiet) hidle hheat hrecover, hcounted hheat]
  case begins =>
    rw [State.takeS4_of_idle (s := quiet) hp, hcounted (by rw [hp]; nofun),
      State.compareInterval_of_reached (s := counted) hp hreached]
    refine ⟨_, rfl, ?_, State.enterPending_deadlines (timeKept_of_eq _ rfl) rfl⟩
    rw [State.enterPending_eq, append_frostHanded]
    rfl
  case heat =>
    rw [State.takeS4_of_heat (s := quiet) hp]
    refine ⟨fun hbad => ?_, fun hgood hnone => ?_, fun hgood htimed hwarm => ?_⟩
    · rw [State.heatTest_of_untrusted hbad]
      rfl
    · rw [State.heatTest_of_cold (s := quiet) hgood hnone]
      rfl
    · rw [State.heatTest_of_warm (s := quiet) hgood htimed hwarm, State.endHeat_eq]
      refine ⟨_, rfl, ?_, ?_, ?_⟩
      · rw [show quiet.defrost.timeOnly = _ from htimed]
        rfl
      · simp [DueAfter, quiet]
      · rw [timeKept_iff_apart]
        simp [quiet]
  case recover =>
    rw [State.takeS4_of_recover (s := quiet) hp, hcounted (by rw [hp]; nofun)]
    refine ⟨fun hnone => ?_, fun hgood hcold hbelow => ?_, fun hgood hcold hreached => ?_⟩
    · rw [if_neg]
      rintro ⟨hgood, hcold⟩
      exact hnone.elim (absurd hgood) hcold.not_gt
    · rw [if_pos ⟨hgood, hcold⟩, State.endRecover_of_below (s := counted) hbelow]
      refine ⟨_, rfl, ?_, ?_, ?_⟩
      · simp [State.recovered, counted, phaseHanded, changed]
      · rw [noneOf_iff]
        simp [State.recovered]
      · rw [timeKept_iff_apart]
        simp [State.recovered, counted]
    · have hkept : TimeKept [.pendingLimit, .phase] s counted.recovered := by
        rw [timeKept_iff_apart]
        simp [State.recovered, counted]
      obtain ⟨hpending, hprechill, hend⟩ := State.enterPending_deadlines hkept rfl
      rw [if_pos ⟨hgood, hcold⟩, State.endRecover_of_reached (s := counted) hreached]
      refine ⟨_, rfl, ?_, fun hrests => ⟨hpending hrests, State.enterPending_noneOf_phase ?_ rfl hrests⟩, hprechill,
        hend⟩
      · rw [State.enterPending_eq, append_frostHanded, State.recovered_events]
        rfl
      · simp [State.recovered]

/-! ### DEFROST NOW (R101) -/

section Now

variable {s : State}

theorem defrostNow_of_idle (hp : s.defrost.phase = .idle) : defrostNow s = (s.enterPending, okReply []) := by
  simp only [defrostNow, hp]

theorem defrostNow_of_recover (hp : s.defrost.phase = .recover) :
    defrostNow s = (((s.removeDeadline .phase).raiseNotice .defrostDone).enterPending, okReply []) := by
  simp only [defrostNow, hp]

theorem defrostNow_of_pending (hp : s.defrost.phase = .pending) : defrostNow s = (s, okReply []) := by
  simp only [defrostNow, hp]

theorem defrostNow_of_busy (hp : s.defrost.phase = .prechill ∨ s.defrost.phase = .release ∨ s.defrost.phase = .heat ∨
    s.defrost.phase = .drip) : defrostNow s = (s, refuse .busy) := by
  rcases hp with hp | hp | hp | hp <;> simp only [defrostNow, hp]

end Now

/-! ### DEFROST CANCEL (R102) -/

section Cancel

variable {s : State}

theorem defrostCancel_of_waiting (hp : s.defrost.phase = .pending ∨ s.defrost.phase = .prechill) :
    defrostCancel s = (s.giveUpDefrost, okReply []) := by
  rcases hp with hp | hp <;> simp only [defrostCancel, hp]

theorem defrostCancel_of_heat (hp : s.defrost.phase = .heat) :
    defrostCancel s = (s.endHeat .cancel, okReply []) := by
  simp only [defrostCancel, hp]

theorem defrostCancel_of_late (hp : s.defrost.phase = .idle ∨ s.defrost.phase = .release ∨ s.defrost.phase = .drip ∨
    s.defrost.phase = .recover) : defrostCancel s = (s, refuse .late) := by
  rcases hp with hp | hp | hp | hp <;> simp only [defrostCancel, hp]

end Cancel

/-- A request that the controller carries out on a state with the port that has taken it. -/
theorem exec_of_carried {s t : State} {c : Instr} {req : List Byte} {act : State → State × Reply}
    (hc : requestBytes c = some req) (hexec : exec c s = .next (s.serve req act)) (ht : Taken c s)
    (hact : act (s.setLink (s.link.taking req)) = (t, okReply [])) (hlink : t.link = s.link.taking req) :
    exec c s = .next (answered c s t ⟨.ok, false, []⟩) := by
  rw [hexec, State.serve_answered hc ht (by rw [hact]; exact hlink), hact]
  rfl

/-- Settles O47: the refusals, DEFROST NOW from IDLE and from RECOVER, and DEFROST CANCEL before and in HEAT. -/
theorem defrostRequestsAreAnsweredByPhase : Obligations.DefrostRequestsAreAnsweredByPhase := by
  intro s changed runs
  refine ⟨fun ht => ?now, fun ht => ?cancel⟩
  case now =>
    let taken := s.setLink (s.link.taking [0x40])
    refine ⟨fun hp => ?busy, fun hp => ?pending, fun hp => ?begins⟩
    case busy => exact congrArg _ (State.serve_refused rfl ht fun l => defrostNow_of_busy hp)
    case pending => exact exec_of_carried (t := taken) rfl rfl ht (defrostNow_of_pending hp) rfl
    case begins =>
      rcases hp with hp | hp
      · have hidle : s.defrost.phase ≠ .recover := by
          rw [hp]
          nofun
        obtain ⟨hpending, hprechill, hend⟩ :=
          State.enterPending_deadlines (s := s) (u := taken) (timeKept_of_eq _ rfl) rfl
        refine ⟨taken.enterPending, exec_of_carried rfl rfl ht (defrostNow_of_idle (s := taken) hp) (by simp [taken]), ?_,
          hpending, hprechill, fun h => ?_, hend⟩
        · rw [State.enterPending_eq, append_frostHanded, if_neg hidle, List.append_nil]
          rfl
        · exact absurd h hidle
      · let done := (taken.removeDeadline .phase).raiseNotice .defrostDone
        have hkept : TimeKept [.pendingLimit, .phase] s done := by
          rw [timeKept_iff_apart]
          exact Timebase.apart_without _ (by simp)
        obtain ⟨hpending, hprechill, hend⟩ := State.enterPending_deadlines hkept rfl
        refine ⟨done.enterPending,
          exec_of_carried rfl rfl ht (defrostNow_of_recover (s := taken) hp) (by simp [done, taken]), ?_,
          hpending, hprechill, fun _ => State.enterPending_noneOf_phase ?_ rfl, hend⟩
        · rw [State.enterPending_eq, append_frostHanded, if_pos hp]
          rfl
        · exact (Timebase.lacks_without _ _).2 (.inl rfl)
  case cancel =>
    let taken := s.setLink (s.link.taking [0x41])
    refine ⟨fun hp => ?late, fun hp hrange => ?gives, fun hp => ?heat⟩
    case late => exact congrArg _ (State.serve_refused rfl ht fun l => defrostCancel_of_late hp)
    case gives =>
      have hact := defrostCancel_of_waiting (s := taken) hp
      rw [State.giveUpDefrost_eq (s := taken) hrange] at hact
      refine ⟨_, exec_of_carried rfl rfl ht hact rfl, rfl, ?_, ?_⟩
      · rw [noneOf_iff]
        simp
      · rw [timeKept_iff_apart]
        simp [taken]
    case heat =>
      have hact := defrostCancel_of_heat (s := taken) hp
      rw [State.endHeat_eq] at hact
      refine ⟨_, exec_of_carried rfl rfl ht hact rfl, ?_, ?_, ?_⟩
      · simp [taken, adaptInterval, phaseHanded, changed]
      · simp [DueAfter, taken]
      · rw [timeKept_iff_apart]
        simp [taken]

end Sys2Proof.Machine
end

section
/-! The entries into PRECHILL, RELEASE and HEAT (R91 to R94): what they leave due, the limits of PENDING and PRECHILL, and the
valve's arrival. -/

namespace Sys2Proof.Machine

open Sys2Proof.Safety

/-! ### Deadlines of other kinds and owners -/

section Kept

variable {s t u : State} {keys : List DeadlineKey}

theorem Timebase.apart_apart (x : Timebase) {keys' : List DeadlineKey} (hsub : keys ⊆ keys') :
    (x.apart keys).apart keys' = x.apart keys' := by
  have hothers (l : List Deadline) : ((l.filter fun d => decide (d.key ∉ keys)).filter fun d => decide (d.key ∉ keys')) =
      l.filter fun d => decide (d.key ∉ keys') := by
    rw [List.filter_filter]
    refine List.filter_congr fun d _ => ?_
    by_cases hd : d.key ∈ keys
    · simp [hd, hsub hd]
    · simp [hd]
  simp only [Timebase.apart, hothers]

theorem Timebase.mem_apart_deadlines {x : Timebase} {e : Deadline} :
    e ∈ (x.apart keys).deadlines ↔ e ∈ x.deadlines ∧ e.key ∉ keys := by simp [Timebase.apart]

theorem timeKept_mono {keys' : List DeadlineKey} (hsub : keys ⊆ keys') (h : TimeKept keys s t) :
    TimeKept keys' s t := by
  rw [timeKept_iff_apart] at h ⊢
  rw [← Timebase.apart_apart _ hsub, h, Timebase.apart_apart _ hsub]

/-- A deadline stays due where the change touches other kinds and owners only. -/
theorem dueAfter_of_timeKept {k : DeadlineKey} {secs : Nat} (hk : k ∉ keys) (hkept : TimeKept keys u t)
    (h : DueAfter k secs s u) : DueAfter k secs s t := by
  rw [timeKept_iff_apart] at hkept
  have hmem := Timebase.mem_apart_deadlines.2 ⟨h, hk⟩
  rw [← hkept] at hmem
  exact (Timebase.mem_apart_deadlines.1 hmem).1

end Kept

/-! ### What the entries leave due -/

section Entries

variable {s u : State}

theorem State.enterPrechill_deadlines (hms : u.time.ms = s.time.ms) (huptime : u.time.uptime = s.time.uptime) :
    DueAfter .phase 600 s u.enterPrechill ∧ NoneOf [.pendingLimit] u.enterPrechill := by
  rw [State.enterPrechill_eq, noneOf_iff]
  simp [DueAfter, hms, huptime]

theorem State.enterPrechill_timeKept (u : State) : TimeKept [.phase, .pendingLimit] u u.enterPrechill := by
  rw [State.enterPrechill_eq, timeKept_iff_apart]
  simp

theorem State.enterHeat_dueAfter (hms : u.time.ms = s.time.ms) (huptime : u.time.uptime = s.time.uptime) :
    DueAfter .phase (if (u.channel .s4).state = .good then 2400 else 1500) s u.enterHeat := by
  rw [State.enterHeat_eq]
  simp [DueAfter, hms, huptime]

theorem State.enterHeat_timeKept (u : State) : TimeKept [.phase] u u.enterHeat := by
  rw [State.enterHeat_eq, timeKept_iff_apart]
  simp

theorem State.released_timeKept (u : State) : TimeKept [.phase] u u.released := by
  rw [timeKept_iff_apart]
  exact Timebase.apart_without _ (by simp)

theorem State.released_noneOf_phase (u : State) : NoneOf [.phase] u.released := by
  rw [noneOf_iff]
  simp [State.released]

end Entries

/-! ### The limits of PENDING and PRECHILL, and the valve's arrival (R91 to R94) -/

theorem execPendingLimit_of_delivers {s : State} {due : Instant} (hd : Delivers s .pendingLimit due) :
    exec .pendingLimit s = .next
      (if s.defrost.phase = .pending then (expired s .pendingLimit).enterRelease else expired s .pendingLimit) :=
  congrArg _ (State.deliver_of_delivers hd _)

theorem execPrechillPhaseExpiry_of_delivers {s : State} {due : Instant} (hd : Delivers s .phase due)
    (hp : s.defrost.phase = .prechill) : exec .prechillPhaseExpiry s = .next (expired s .phase).enterRelease :=
  congrArg _ ((if_pos hp).trans (State.deliver_of_delivers hd _))

theorem execReleaseEnd_of_taken {s : State} {pos : Nat} {rest : List Handoff}
    (h : takeFirst defrostArrivalOf s.events = some (pos, rest)) : exec .releaseEnd s = .next
      (if s.defrost.phase = .release ∧ offFreezeEnd pos = true ∧ s.coilSpared = true then (s.setEvents rest).enterHeat
      else s.setEvents rest) := congrArg _ (State.takeEvent_of_some _ h)

/-- No expiry comes into flight with RELEASE or HEAT. -/
theorem State.enterRelease_expiries {s : State} {k : DeadlineKey} (h : ∀ e ∈ s.time.expiries, e.key ≠ k) :
    ∀ e ∈ s.enterRelease.time.expiries, e.key ≠ k := by
  rw [State.enterRelease_eq, State.enterHeat_eq]
  split
  · exact fun e he => h e ((Timebase.mem_without_expiries ..).1 ((Timebase.mem_wait_expiries ..).1 he).1).1
  · exact fun e he => h e ((Timebase.mem_without_expiries ..).1 he).1

/-- Settles O50: both limits enter RELEASE, which HEAT follows at once where the valve rests off the coil, and at the valve's
arrival otherwise. -/
theorem releaseAndHeatAreEntered : Obligations.ReleaseAndHeatAreEntered := by
  intro s due pos rest spared resting changed trusted stale heats releases
  have hstale : outlastsRelease = stale := by
    funext e
    cases e <;> rfl
  have hheats (p : Phase) (x : Timebase) (es : List Handoff) (hkept : TimeKept [.phase, .pendingLimit] s (s.setTime x)) :
      heats es { s with defrost := { s.defrost with phase := p }, time := x, events := es }.enterHeat := by
    obtain ⟨huptime, hms, -⟩ := id hkept
    refine ⟨?_, State.enterHeat_dueAfter hms huptime,
      timeKept_trans hkept (timeKept_mono (by simp) (State.enterHeat_timeKept _))⟩
    rw [State.enterHeat_eq, show x.uptime = s.time.uptime from huptime]
    rfl
  have hreleases (x : Timebase) (hkept : TimeKept [.phase, .pendingLimit] s (s.setTime x)) :
      releases (s.setTime x).enterRelease := by
    have hreleased : TimeKept [.phase, .pendingLimit] s (s.setTime x).released :=
      timeKept_trans hkept (timeKept_mono (by simp) (State.released_timeKept _))
    have hfiltered : (s.setTime x).released = { s with
        defrost := { s.defrost with phase := .release }, time := x.without .phase
        events := s.events.filter stale ++ changed } := by
      rw [State.released, hstale]
      rfl
    have hrest : (s.setTime x).valveOffCoil = true ↔ resting := State.valveOffCoil_iff _
    refine ⟨fun h => ?_, fun h => ?_⟩
    · rw [State.enterRelease_of_resting (hrest.2 h), hfiltered]
      exact hheats .release (x.without .phase) _ hreleased
    · rw [State.enterRelease_of_waiting (mt hrest.1 h)]
      exact ⟨hfiltered, State.released_noneOf_phase _, hreleased⟩
  have hexpired (k : DeadlineKey) (hk : k ∈ [DeadlineKey.phase, .pendingLimit]) :
      TimeKept [.phase, .pendingLimit] s (s.setTime (s.time.delivered k)) := by
    rw [timeKept_iff_apart]
    exact Timebase.apart_delivered _ hk
  refine ⟨fun hd => ?limit, fun hd hp => ?expiry, fun htaken => ?arrival⟩
  case limit =>
    rw [execPendingLimit_of_delivers hd]
    refine ⟨fun hp => ?_, fun hp => by rw [if_neg hp]⟩
    rw [if_pos hp]
    exact ⟨_, rfl, hreleases _ (hexpired _ (by simp)), State.enterRelease_expiries fun e he => (mem_dropKey.1 he).2⟩
  case expiry => exact ⟨_, execPrechillPhaseExpiry_of_delivers hd hp, hreleases _ (hexpired _ (by simp))⟩
  case arrival =>
    rw [execReleaseEnd_of_taken htaken]
    refine ⟨fun hp hpos hspared => ?_, fun hnone => ?_⟩
    · rw [if_pos ⟨hp, (offFreezeEnd_iff pos).2 hpos, s.coilSpared_iff.2 hspared⟩]
      exact ⟨_, rfl, hheats s.defrost.phase s.time rest (timeKept_of_eq _ rfl), State.enterHeat_timeKept _⟩
    · rw [if_neg]
      · rfl
      · rintro ⟨hp, hpos, hspared⟩
        rcases hnone with hphase | ⟨h0, h60⟩ | hcoil
        · exact hphase hp
        · exact ((offFreezeEnd_iff pos).1 hpos).elim h0 h60
        · exact hcoil (s.coilSpared_iff.1 hspared)

end Sys2Proof.Machine
end

section
/-! A change of the arbiter's state, taken by the defrost controller (R91 to R93, R99, R100, R103). -/

namespace Sys2Proof.Machine

open Sys2Proof.Safety

/-! ### The two parts of the work: fresh-coil recovery, and the phase -/

/-- The state once an end of RUN_FRESH, if the change was one, has started fresh-coil recovery (R103). -/
def State.afterFresh (s : State) (ended : Bool) : State := if ended then s.startRecovery else s

section AfterFresh

variable (s : State) (ended : Bool)

theorem State.afterFresh_eq : s.afterFresh ended = { s with
    defrost := { s.defrost with recovery := s.defrost.recovery || ended }
    time := if ended then s.time.wait .coilRecovery 600 else s.time
    events := s.events ++ if ended then phaseHanded else [] } := by
  cases ended with
  | false => simp [State.afterFresh]
  | true => simp [State.afterFresh, State.startRecovery_eq]

theorem State.afterFresh_timeKept : TimeKept [.coilRecovery] s (s.afterFresh ended) := by
  rw [State.afterFresh_eq, timeKept_iff_apart]
  cases ended <;> simp

theorem State.afterFresh_dueAfter : DueAfter .coilRecovery 600 s (s.afterFresh true) := by
  rw [State.afterFresh_eq]
  simp [DueAfter]

end AfterFresh

section PhaseChange

variable {s : State} {halted : Bool}

theorem State.takePhaseChange_of_chills (hp : s.defrost.phase = .pending) (hruns : s.arb.state = .runFreeze) :
    s.takePhaseChange halted = s.enterPrechill := by simp only [State.takePhaseChange, hp, hruns, if_true]

theorem State.takePhaseChange_of_releases (hp : s.defrost.phase = .prechill) :
    s.takePhaseChange true = s.enterRelease := by simp only [State.takePhaseChange, hp, if_true]

theorem State.takePhaseChange_of_neither (hchills : ¬ (s.defrost.phase = .pending ∧ s.arb.state = .runFreeze))
    (hreleases : ¬ (s.defrost.phase = .prechill ∧ halted = true)) : s.takePhaseChange halted = s := by
  unfold State.takePhaseChange
  split
  · next hp => rw [if_neg fun h => hchills ⟨hp, h⟩]
  · next hp => rw [if_neg fun h => hreleases ⟨hp, h⟩]
  · rfl

end PhaseChange

theorem execArbiterChangeToDefrost_of_taken {s : State} {ended halted : Bool} {rest : List Handoff}
    (h : takeFirst pathChangeOf s.events = some ((ended, halted), rest)) :
    exec .arbiterChangeToDefrost s = .next (((s.setEvents rest).afterFresh ended).takePhaseChange halted) :=
  congrArg _ (State.takeEvent_of_some _ h)

/-- Settles O49: the start of coil recovery is common to all changes; the phase then moves by its own case. -/
theorem arbiterChangeMovesTheDefrost : Obligations.ArbiterChangeMovesTheDefrost := by
  intro s ended halted rest htaken chills releases resting changed base stale trusted
  let u : State := { s with
    defrost := { s.defrost with recovery := s.defrost.recovery || ended }
    time := if ended then s.time.wait .coilRecovery 600 else s.time, events := base }
  have hu : (s.setEvents rest).afterFresh ended = u := State.afterFresh_eq ..
  have hexec : exec .arbiterChangeToDefrost s = .next (u.takePhaseChange halted) := by
    rw [execArbiterChangeToDefrost_of_taken htaken, hu]
  have hukept : TimeKept [.coilRecovery] s u := hu ▸ State.afterFresh_timeKept (s.setEvents rest) ended
  obtain ⟨huptime, hms, -⟩ := id hukept
  have hcommon {t : State} (hkept : TimeKept [.phase, .pendingLimit] u t) :
      TimeKept [.coilRecovery, .phase, .pendingLimit] s t ∧ (ended = true → DueAfter .coilRecovery 600 s t) ∧
        (ended = false → TimeKept [.phase, .pendingLimit] s t) := by
    refine ⟨timeKept_trans (timeKept_mono (by simp) hukept) (timeKept_mono (by simp) hkept), ?_, ?_⟩
    · rintro rfl
      exact dueAfter_of_timeKept (by simp) hkept (hu ▸ State.afterFresh_dueAfter (s.setEvents rest))
    · rintro rfl
      exact timeKept_trans (timeKept_of_eq _ rfl) hkept
  have hstale : outlastsRelease = stale := by
    funext e
    cases e <;> rfl
  have hrest : u.valveOffCoil = true ↔ resting := by
    rw [State.valveOffCoil_iff]
    constructor
    · exact fun ⟨hmotion, hpos, _, htargets⟩ => ⟨hmotion, hpos, htargets⟩
    · exact fun ⟨hmotion, hpos, htargets⟩ =>
        ⟨hmotion, hpos, hpos.elim (fun h => h.trans_le (by simp)) Eq.le, htargets⟩
  have hreleased : u.released = { u with
      defrost := { u.defrost with phase := .release }, time := u.time.without .phase
      events := base.filter stale ++ changed } := by
    rw [State.released, hstale]
    rfl
  by_cases hchills : chills
  · obtain ⟨hkept, hdue, hkept'⟩ := hcommon u.enterPrechill_timeKept
    obtain ⟨hphase, hlimit⟩ := State.enterPrechill_deadlines hms huptime
    have hnot : ¬ releases := fun h => by cases hchills.1.symm.trans h.1
    rw [State.takePhaseChange_of_chills (s := u) hchills.1 hchills.2] at hexec
    refine ⟨_, hexec, ?_, hkept, ?_, hdue, hkept', fun h => absurd hchills h, fun _ => ⟨?_, ?_, hphase, hlimit⟩,
      fun h => absurd h hnot, fun h => absurd h hnot⟩ <;> rw [State.enterPrechill_eq]
    all_goals rfl
  by_cases hreleases : releases
  · obtain ⟨hp, rfl⟩ := id hreleases
    have hrelkept : TimeKept [.phase, .pendingLimit] u u.released := timeKept_mono (by simp) u.released_timeKept
    rw [State.takePhaseChange_of_releases (s := u) hp] at hexec
    by_cases hresting : resting
    · obtain ⟨hkept, hdue, hkept'⟩ :=
        hcommon (timeKept_trans hrelkept (timeKept_mono (by simp) u.released.enterHeat_timeKept))
      rw [State.enterRelease_of_resting (hrest.2 hresting)] at hexec
      have hphase : DueAfter .phase (if trusted then 2400 else 1500) s u.released.enterHeat :=
        State.enterHeat_dueAfter (u := u.released) hms huptime
      refine ⟨_, hexec, ?_, hkept, ?_, hdue, hkept', fun _ h => absurd hreleases h, fun h => absurd h hchills,
        fun _ h => absurd hresting h, fun _ _ => ⟨?_, ?_, hphase⟩⟩ <;> rw [State.enterHeat_eq]
      · rfl
      · rfl
      · rw [hreleased]
        rfl
      · rw [← huptime]
        rfl
    · obtain ⟨hkept, hdue, hkept'⟩ := hcommon hrelkept
      rw [State.enterRelease_of_waiting (mt hrest.1 hresting)] at hexec
      refine ⟨_, hexec, rfl, hkept, rfl, hdue, hkept', fun _ h => absurd hreleases h, fun h => absurd h hchills,
        fun _ _ => ⟨?_, rfl, u.released_noneOf_phase⟩, fun _ h => absurd h hresting⟩
      rw [hreleased]
  · obtain ⟨hkept, hdue, hkept'⟩ := hcommon (timeKept_of_eq _ rfl)
    rw [State.takePhaseChange_of_neither (s := u) hchills hreleases] at hexec
    exact ⟨u, hexec, rfl, hkept, rfl, hdue, hkept', fun _ _ => ⟨rfl, rfl, hukept⟩, fun h => absurd h hchills,
      fun h => absurd h hreleases, fun h => absurd h hreleases⟩

end Sys2Proof.Machine
end

section
/-! What the other blocks leave alone of the damper, the flap and CHILL's two map entries: the frames for the invariant of
R116 and R162. -/

namespace Sys2Proof.Machine

open Sys2Proof.Safety

/-- The damper and the flap, of the air handler's record. -/
def Air.damperPart (a : Air) : (Nat × Nat × Motion) × Option Path × FlapMotion :=
  ((a.damperPos, a.damperTarget, a.damperMotion), a.flapSide, a.flapMotion)

/-- The transit step, and the path and actuator of CHILL's active entry and of the shadow entry. -/
def ZoneMap.damperPart (m : ZoneMap) : Option TransitStep × (Path × Actuator) × Path × Actuator :=
  (m.step, (m.active.chill.path, m.active.chill.actuator), m.shadow.path, m.shadow.actuator)

/-- All of the state that the invariant of damper and flap speaks of. -/
def State.damperView (s : State) :
    ((Nat × Nat × Motion) × Option Path × FlapMotion) × Option TransitStep × (Path × Actuator) × Path × Actuator :=
  (s.air.damperPart, s.map.damperPart)

theorem State.damperView_congr {s t : State} (hair : t.air = s.air) (hmap : t.map = s.map) :
    t.damperView = s.damperView := by
  rw [State.damperView, hair, hmap]
  rfl

/-! ### The blocks and the operations on them that everything else is made of -/

section Blocks

variable (s : State)

@[simp] theorem State.setHolds_damperView (x : HoldTable) : (s.setHolds x).damperView = s.damperView := rfl
@[simp] theorem State.setArb_damperView (x : Arbiter) : (s.setArb x).damperView = s.damperView := rfl
@[simp] theorem State.setDrive_damperView (x : DriveLink) : (s.setDrive x).damperView = s.damperView := rfl
@[simp] theorem State.setDefrost_damperView (x : Defrost) : (s.setDefrost x).damperView = s.damperView := rfl
@[simp] theorem State.setTime_damperView (x : Timebase) : (s.setTime x).damperView = s.damperView := rfl
@[simp] theorem State.setEvents_damperView (x : List Handoff) : (s.setEvents x).damperView = s.damperView := rfl
@[simp] theorem State.hand_damperView (x : Handoff) : (s.hand x).damperView = s.damperView := rfl
@[simp] theorem State.raiseNotice_damperView (n : Notice) : (s.raiseNotice n).damperView = s.damperView := rfl
@[simp] theorem State.removeDeadline_damperView (k : DeadlineKey) : (s.removeDeadline k).damperView = s.damperView := rfl
@[simp] theorem State.insertAt_damperView (k : DeadlineKey) (due : Instant) :
    (s.insertAt k due).damperView = s.damperView := rfl
@[simp] theorem State.insertAfter_damperView (k : DeadlineKey) (n : Nat) :
    (s.insertAfter k n).damperView = s.damperView := rfl
@[simp] theorem State.setZone_damperView (z : Zone) (r : ZoneRec) : (s.setZone z r).damperView = s.damperView := rfl
@[simp] theorem State.setRx_damperView (rx : RxState) : (s.setRx rx).damperView = s.damperView := rfl
@[simp] theorem State.endStore_damperView (w : StoreWrite) : (s.endStore w).damperView = s.damperView := rfl

end Blocks

theorem State.setAir_damperView {s : State} {a : Air} (h : a.damperPart = s.air.damperPart) :
    (s.setAir a).damperView = s.damperView := by
  rw [State.damperView, State.setAir_air, h]
  rfl

/-! ### Air handler: the fan delay and the valve -/

theorem State.fanDelayStep_damperView (s : State) (entersFreeze : Bool) :
    (s.fanDelayStep entersFreeze).damperView = s.damperView := by
  unfold State.fanDelayStep State.startFanDelay
  split
  · split
    · split <;> rfl
    · rfl
  · rfl

theorem State.takeValve_damperView (s : State) : s.takeValve.damperView = s.damperView := by
  unfold State.takeValve
  dsimp only
  split
  · split <;> rfl
  · rfl

theorem State.airPathChange_damperView (s : State) (entersFreeze : Bool) :
    (s.airPathChange entersFreeze).damperView = s.damperView :=
  (State.takeValve_damperView _).trans (State.fanDelayStep_damperView _ _)

theorem State.airS4_damperView (s : State) (r : Report) : (s.airS4 r).damperView = s.damperView := by
  unfold State.airS4
  split <;> rfl

theorem State.valveHomed_damperView (s : State) : s.valveHomed.damperView = s.damperView := by
  unfold State.valveHomed
  split <;> rfl

/-! ### Path arbiter -/

@[simp] theorem State.retarget_damperView (s : State) : s.retarget.damperView = s.damperView :=
  damperView_congr (by simp) (by simp)

@[simp] theorem State.review_damperView (s : State) : s.review.damperView = s.damperView :=
  damperView_congr (by simp) (by simp)

@[simp] theorem State.takeSag_damperView (s : State) : s.takeSag.damperView = s.damperView :=
  damperView_congr (by simp) (by simp)

@[simp] theorem State.takeFault_damperView (s : State) : s.takeFault.damperView = s.damperView :=
  damperView_congr (by simp) (by simp)

@[simp] theorem State.restore_damperView (s : State) : s.restore.damperView = s.damperView :=
  damperView_congr (by simp) (by simp)

@[simp] theorem State.changePath_damperView (s : State) (p : PathState) : (s.changePath p).damperView = s.damperView :=
  damperView_congr (by simp) (by simp)

theorem State.valveArrives_damperView (s : State) (pos : Nat) : (s.valveArrives pos).damperView = s.damperView := by
  unfold State.valveArrives
  split
  · split
    · exact damperView_congr (by simp) (by simp)
    · simp
  · simp

@[simp] theorem State.endPumpdown_damperView (s : State) : s.endPumpdown.damperView = s.damperView := by
  unfold State.endPumpdown
  split <;> exact damperView_congr (by simp) (by simp)

@[simp] theorem State.slewSpeed_damperView (s : State) : s.slewSpeed.damperView = s.damperView := by
  unfold State.slewSpeed
  split <;> rfl

@[simp] theorem State.takeNormal_damperView (s : State) : s.takeNormal.damperView = s.damperView := by
  unfold State.takeNormal
  split <;> rfl

@[simp] theorem State.recover_damperView (s : State) : s.recover.damperView = s.damperView := by
  unfold State.recover
  split <;> simp

@[simp] theorem State.clearLockout_damperView (s : State) : s.clearLockout.damperView = s.damperView := by
  unfold State.clearLockout
  dsimp only
  split <;> simp

/-! ### Drive link -/

@[simp] theorem State.judgeSilence_damperView (s : State) : s.judgeSilence.damperView = s.damperView := by
  unfold State.judgeSilence
  split <;> simp

@[simp] theorem State.countRunSecond_damperView (s : State) : s.countRunSecond.damperView = s.damperView := by
  unfold State.countRunSecond
  split
  · split <;> rfl
  · rfl

@[simp] theorem State.sendDrive_damperView (s : State) : s.sendDrive.damperView = s.damperView := rfl

@[simp] theorem State.takeStatus_damperView (s : State) (seq actual code check : Byte) :
    (s.takeStatus seq actual code check).damperView = s.damperView := by
  unfold State.takeStatus
  split
  · dsimp only
    split <;> simp
  · rfl

@[simp] theorem State.driveByte_damperView (s : State) (b : Byte) : (s.driveByte b).damperView = s.damperView := by
  unfold State.driveByte
  split
  · split <;> rfl
  · simp
  · rfl

/-! ### Defrost controller -/

@[simp] theorem State.compareInterval_damperView (s : State) : s.compareInterval.damperView = s.damperView :=
  damperView_congr (by simp) (by simp)

@[simp] theorem State.enterPrechill_damperView (s : State) : s.enterPrechill.damperView = s.damperView :=
  damperView_congr (by simp) (by simp)

@[simp] theorem State.enterPending_damperView (s : State) : s.enterPending.damperView = s.damperView :=
  damperView_congr (by simp) (by simp)

@[simp] theorem State.enterHeat_damperView (s : State) : s.enterHeat.damperView = s.damperView :=
  damperView_congr (by simp) (by simp)

@[simp] theorem State.enterRelease_damperView (s : State) : s.enterRelease.damperView = s.damperView :=
  damperView_congr (by simp) (by simp)

@[simp] theorem State.enterRecover_damperView (s : State) : s.enterRecover.damperView = s.damperView :=
  damperView_congr (by simp) (by simp)

@[simp] theorem State.endRecover_damperView (s : State) : s.endRecover.damperView = s.damperView :=
  damperView_congr (by simp) (by simp)

@[simp] theorem State.endHeat_damperView (s : State) (how : HeatEnd) : (s.endHeat how).damperView = s.damperView :=
  damperView_congr (by simp) (by simp)

@[simp] theorem State.startRecovery_damperView (s : State) : s.startRecovery.damperView = s.damperView :=
  damperView_congr (by simp) (by simp)

@[simp] theorem State.endRecovery_damperView (s : State) : s.endRecovery.damperView = s.damperView :=
  damperView_congr (by simp) (by simp)

@[simp] theorem State.giveUpDefrost_damperView (s : State) : s.giveUpDefrost.damperView = s.damperView :=
  damperView_congr (by simp [State.giveUpDefrost]) (by simp [State.giveUpDefrost])

@[simp] theorem State.countFrost_damperView (s : State) : s.countFrost.damperView = s.damperView := by
  unfold State.countFrost
  split <;> rfl

@[simp] theorem State.heatTest_damperView (s : State) (r : Report) : (s.heatTest r).damperView = s.damperView := by
  unfold State.heatTest
  split
  · rfl
  · split <;> simp

theorem State.takeS4_damperView (s : State) (r : Report) : (s.takeS4 r).damperView = s.damperView := by
  unfold State.takeS4
  dsimp only
  split
  · simp
  · simp
  · split <;> simp
  · simp

@[simp] theorem State.takePhaseChange_damperView (s : State) (halted : Bool) :
    (s.takePhaseChange halted).damperView = s.damperView := by
  unfold State.takePhaseChange
  split
  · split <;> simp
  · split <;> simp
  · rfl

/-! ### Door unit, measurement unit, link port -/

theorem State.sampleDoor_damperView (s : State) (d : Door) (x : Level) :
    (s.sampleDoor d x).damperView = s.damperView := by
  unfold State.sampleDoor
  dsimp only
  split
  · cases x <;> rfl
  · rfl

@[simp] theorem State.reportToZone_damperView (s : State) (c : Channel) (z : Zone) :
    (s.reportToZone c z).damperView = s.damperView := by
  unfold State.reportToZone
  split <;> rfl

theorem State.report_damperView (s : State) (c : Channel) : (s.report c).damperView = s.damperView := by
  unfold State.report State.reportToOthers
  split <;> simp

@[simp] theorem State.completeFrame_damperView (s : State) (len : Nat) (got : List Byte) :
    (s.completeFrame len got).damperView = s.damperView := by
  unfold State.completeFrame
  split
  · rfl
  · split <;> rfl

@[simp] theorem State.lengthFrame_damperView (s : State) : s.lengthFrame.damperView = s.damperView := by
  unfold State.lengthFrame
  split <;> rfl

theorem State.receive_damperView (s : State) (b : Byte) : (s.receive b).damperView = s.damperView := by
  unfold State.receive
  split
  · split <;> simp
  · split <;> simp
  · split <;> simp
  · rfl

/-! ### Hold table -/

@[simp] theorem State.lapse_damperView (s : State) (i : Nat) (cause : LapseCause) :
    (s.lapse i cause).damperView = s.damperView := damperView_congr (by simp) (by simp)

@[simp] theorem State.resolve_damperView (s : State) (z : Zone) : (s.resolve z).damperView = s.damperView := rfl

@[simp] theorem State.handChange_damperView (s : State) (z : Zone) (before : Option Governing) :
    (s.handChange z before).damperView = s.damperView := damperView_congr (by simp) (by simp)

theorem State.regovern_damperView (s : State) (z : Zone) {change : State → State}
    (h : (change s).damperView = s.damperView) : (s.regovern z change).damperView = s.damperView :=
  (State.handChange_damperView _ _ _).trans h

theorem holdOpen_damperView (s : State) (zone kind : Byte) (target : Half) (halfBand priority flags : Byte)
    (minutes : Half) (floor : Byte) :
    (holdOpen zone kind target halfBand priority flags minutes floor s).1.damperView = s.damperView := by
  unfold holdOpen
  split
  · split_ifs
    iterate 3 rfl
    split
    · rfl
    · rw [State.openHold_state]
      exact s.regovern_damperView _ rfl
  · rfl

theorem State.amendPriority_damperView (s : State) (h : Hold) (mask priority : Byte) :
    (s.amendPriority h mask priority).1.damperView = s.damperView := by
  unfold State.amendPriority
  dsimp only
  split_ifs <;> rfl

theorem State.amendExpiry_damperView (s : State) (h : Hold) (mask : Byte) (minutes : Half) :
    (s.amendExpiry h mask minutes).1.damperView = s.damperView := by
  unfold State.amendExpiry
  split
  · dsimp only
    split <;> rfl
  · rfl

theorem State.amendHold_damperView (s : State) (h : Hold) (mask : Byte) (target : Half) (halfBand priority : Byte)
    (minutes : Half) (floor reach : Byte) :
    (s.amendHold h mask target halfBand priority minutes floor reach).1.damperView = s.damperView := by
  unfold State.amendHold
  dsimp only
  refine s.regovern_damperView _ ?_
  split <;> simp [State.amendPriority_damperView, State.amendExpiry_damperView]

theorem holdAmend_damperView (s : State) (slot gen mask : Byte) (target : Half) (halfBand priority : Byte)
    (minutes : Half) (floor reach : Byte) :
    (holdAmend slot gen mask target halfBand priority minutes floor reach s).1.damperView = s.damperView := by
  unfold holdAmend
  split
  · rfl
  · split_ifs
    iterate 4 rfl
    exact s.amendHold_damperView ..

theorem holdRetire_damperView (s : State) (slot gen : Byte) :
    (holdRetire slot gen s).1.damperView = s.damperView := by
  unfold holdRetire
  split
  · rfl
  · split
    · rfl
    · dsimp only
      exact s.regovern_damperView _ (by simp)

theorem State.lapseAtCommit_damperView (s : State) (l : List Nat) : (s.lapseAtCommit l).damperView = s.damperView := by
  induction l generalizing s with
  | nil => rfl
  | cons i is ih =>
    unfold State.lapseAtCommit
    split
    · exact ih s
    · split
      · rw [ih, State.lapse_damperView]
      · exact ih s

theorem State.commitHolds_damperView (s : State) (r : Regime) : (s.commitHolds r).damperView = s.damperView := by
  unfold State.commitHolds State.retargetChillBase
  split <;> simp [State.lapseAtCommit_damperView]

/-! ### Zone evaluator -/

theorem State.handOn_damperView (s : State) (z : Zone) : (s.handOn z).damperView = s.damperView :=
  damperView_congr (by simp) (by simp)

theorem State.evaluateSecond_damperView (s : State) (z : Zone) (r : Report) :
    (s.evaluateSecond z r).damperView = s.damperView := by
  obtain ⟨hframe, -⟩ := s.evaluateSecond_frame (z := z) (rep := r) rfl
  rw [hframe]
  rfl

theorem State.evaluateHoldChange_damperView (s : State) (z : Zone) (g : Governing) :
    (s.evaluateHoldChange z g).damperView = s.damperView := by
  unfold State.evaluateHoldChange
  dsimp only
  split
  · rfl
  · exact State.handOn_damperView _ _

theorem State.evaluateDoor_damperView (s : State) (z : Zone) (e : DoorEvent) :
    (s.evaluateDoor z e).damperView = s.damperView := State.handOn_damperView _ _

theorem State.evaluateSchedule_damperView (s : State) (z : Zone) (half : BlindHalf) (due : Instant) :
    (s.evaluateSchedule z half due).damperView = s.damperView := State.handOn_damperView _ _

theorem State.enterTransit_damperView (s : State) : s.enterTransit.damperView = s.damperView :=
  damperView_congr (by simp) (by simp)

theorem State.evaluateEndOfTransit_damperView (s : State) : s.evaluateEndOfTransit.damperView = s.damperView := by
  refine damperView_congr ?_ ?_ <;> simp [State.evaluateEndOfTransit]

/-! ### Map settings, and the other requests -/

/-- A fallback pair changes no path and no actuator of CHILL's entries (R110). -/
theorem mapSet_damperView (s : State) (zone regime fallback : Byte) (offset : Half) :
    (mapSet zone regime fallback offset s).1.damperView = s.damperView := by
  have hrepaired (e : MapEntry) (r : Regime) (p : Fallback) :
      (e.repaired r p).path = e.path ∧ (e.repaired r p).actuator = e.actuator := by
    unfold MapEntry.repaired
    split <;> exact ⟨rfl, rfl⟩
  have hstore (z : Zone) (r : Regime) (p : Fallback) :
      (s.setMap (s.map.storePair z r p)).damperView = s.damperView := by
    cases z with
    | fresh => rfl
    | freeze => rfl
    | chill =>
      obtain ⟨hpath, hactuator⟩ := hrepaired s.map.active.chill r p
      obtain ⟨hpath', hactuator'⟩ := hrepaired s.map.shadow r p
      simp only [State.damperView, ZoneMap.damperPart, State.setMap_air, State.setMap_map, ZoneMap.storePair, PerZone.set,
        hpath, hactuator, hpath', hactuator']
  unfold mapSet
  split
  · rfl
  · split
    · rfl
    · split
      · rfl
      · split
        · rfl
        · exact hstore ..

theorem correctionSet_damperView (s : State) (slot op channel index : Byte) (value : Half) :
    (correctionSet slot op channel index value s).1.damperView = s.damperView := by
  have hwrite (i : Nat) (k : Option Correction) : (s.writeCorrection i k).1.damperView = s.damperView := by
    unfold State.writeCorrection
    dsimp only
    split <;> rfl
  unfold correctionSet
  split
  · rfl
  · split
    · exact hwrite ..
    · split
      · rfl
      · dsimp only
        split_ifs
        iterate 3 rfl
        exact hwrite ..

theorem doorQuery_damperView (s : State) (door clear : Byte) : (doorQuery door clear s).1.damperView = s.damperView := by
  unfold doorQuery
  split <;> rfl

theorem defrostNow_damperView (s : State) : (defrostNow s).1.damperView = s.damperView := by
  unfold defrostNow
  split <;> simp

theorem defrostCancel_damperView (s : State) : (defrostCancel s).1.damperView = s.damperView := by
  unfold defrostCancel
  split <;> simp

theorem clearLockout_damperView (s : State) : (clearLockout s).1.damperView = s.damperView := by
  unfold clearLockout
  split <;> simp

theorem noticeNext_damperView (s : State) : (noticeNext s).1.damperView = s.damperView := by
  unfold noticeNext
  split <;> rfl

/-- A weight or a margin changes no path and no actuator of CHILL's entries (R108). -/
theorem State.writeSetting_damperView {s t : State} {i : SettingItem} {v : Int} {clamped : Bool}
    (hw : s.writeSetting i v = some (t, clamped)) : t.damperView = s.damperView := by
  cases i <;> cases hw
  case weight z => exact (State.handChange_damperView _ z _).trans (by cases z <;> rfl)
  case margin z => cases z <;> rfl
  case interval => exact State.compareInterval_damperView _
  all_goals rfl

theorem settingsWrite_damperView (s : State) (item : Byte) (value : Quad) :
    (settingsWrite item value s).1.damperView = s.damperView := by
  unfold settingsWrite
  split
  · rfl
  · split
    · rfl
    · next hw => exact State.writeSetting_damperView hw

theorem settingsStore_damperView (s : State) : (settingsStore s).1.damperView = s.damperView := by
  unfold settingsStore
  split <;> rfl

/-! ### The clock -/

theorem State.entryFallsDue_damperView (s : State) : s.entryFallsDue.damperView = s.damperView := by
  unfold State.entryFallsDue
  split
  · rfl
  · split <;> rfl

theorem State.tickClock_damperView (s : State) : s.tickClock.damperView = s.damperView := by
  unfold State.tickClock
  split_ifs <;> rfl

end Sys2Proof.Machine
end

section
/-! The invariant of damper and flap (R116, R162): its parts, and what keeps them in a recomputation of the air handler, a step
and an arrival of the damper, an arrival of the flap, and a regime change from its begin to its commit. -/

namespace Sys2Proof.Machine

open Sys2Proof.Safety

/-! ### The invariant, block by block -/

/-- A damper at rest is at its target, a homing one reads 0, and position and target lie in their range (R161, R164). -/
structure Air.DamperSound (a : Air) : Prop where
  rest : a.damperMotion = .atRest → a.damperPos = a.damperTarget
  homing : ∀ n, a.damperMotion = .homing n → a.damperPos = 0
  pos : a.damperPos ≤ 400
  target : a.damperTarget ≤ 400

/-- The flap side of CHILL's active entry, and of the shadow entry, is its path (R113). -/
structure ZoneMap.SidesSound (m : ZoneMap) : Prop where
  active : m.active.chill.actuator = .damper m.active.chill.path
  shadow : m.shadow.actuator = .damper m.shadow.path

/-- The flap rests on the side of CHILL's path outside TRANSIT, rests in CLOSING, and in FLAP is driven to the side of the
target regime, the damper resting at 0 (R115, R116, R162). -/
def State.FlapAgrees (s : State) : Prop :=
  match s.map.step with
  | none => s.air.flapMotion = .atRest ∧ s.air.flapSide = some s.map.active.chill.path
  | some .closing => s.air.flapMotion = .atRest
  | some .flap =>
    flapDest s.air.flapMotion = some s.map.shadow.path ∧ s.air.damperMotion = .atRest ∧ s.air.damperPos = 0

/-- The invariant but for the damper target in TRANSIT, which a recomputation sets (R119). -/
structure State.DamperAwaitsLaw (s : State) : Prop where
  damper : s.air.DamperSound
  sides : s.map.SidesSound
  flap : s.FlapAgrees

theorem Motion.exists_homing_iff (m : Motion) : (∃ n, m = .homing n) ↔ m ≠ .atRest ∧ m ≠ .moving := by
  cases m <;> simp

theorem flapDest_eq_none_iff (m : FlapMotion) : flapDest m = none ↔ m = .atRest := by
  cases m <;> simp [flapDest]

theorem damperSafe_iff (s : State) :
    DamperSafe s ↔ s.DamperAwaitsLaw ∧ (s.map.step ≠ none → s.air.damperTarget = 0) := by
  constructor
  · rintro ⟨hmoving, hnone, htransit, hrest, hhoming, ⟨hpos, htarget⟩, hactive, hshadow, hflap, hstill⟩
    refine ⟨⟨⟨hrest, fun n hn => ?_, hpos, htarget⟩, ⟨hactive, hshadow⟩, ?_⟩, htransit⟩
    · obtain ⟨hne, hne'⟩ := (Motion.exists_homing_iff _).1 ⟨n, hn⟩
      exact hhoming hne hne'
    · unfold State.FlapAgrees
      split
      · next h => exact hnone h
      · next h => exact hstill (by simp [h])
      · next h =>
        obtain ⟨hdest, hatRest⟩ := hflap h
        exact ⟨hdest, hatRest, hmoving (by simp [hdest])⟩
  · rintro ⟨⟨⟨hrest, hhoming, hpos, htarget⟩, ⟨hactive, hshadow⟩, hagrees⟩, htransit⟩
    have hhoming' (h : s.air.damperMotion ≠ .atRest) (h' : s.air.damperMotion ≠ .moving) : s.air.damperPos = 0 := by
      obtain ⟨n, hn⟩ := (Motion.exists_homing_iff _).2 ⟨h, h'⟩
      exact hhoming n hn
    unfold State.FlapAgrees at hagrees
    split at hagrees
    · next h =>
      obtain ⟨hstill, hside⟩ := hagrees
      exact ⟨fun hm => absurd ((flapDest_eq_none_iff _).2 hstill) hm, fun _ => ⟨hstill, hside⟩, htransit, hrest, hhoming',
        ⟨hpos, htarget⟩, hactive, hshadow, fun hf => by simp [h] at hf, fun _ => hstill⟩
    · next h =>
      exact ⟨fun hm => absurd ((flapDest_eq_none_iff _).2 hagrees) hm, fun hn => by simp [h] at hn, htransit, hrest,
        hhoming', ⟨hpos, htarget⟩, hactive, hshadow, fun hf => by simp [h] at hf, fun _ => hagrees⟩
    · next h =>
      obtain ⟨hdest, hatRest, hzero⟩ := hagrees
      exact ⟨fun _ => hzero, fun hn => by simp [h] at hn, htransit, hrest, hhoming', ⟨hpos, htarget⟩, hactive, hshadow,
        fun _ => ⟨hdest, hatRest⟩, fun hf => absurd h hf⟩

/-! ### What keeps the invariant -/

/-- The invariant holds in `t` where it holds in `s`. -/
def State.KeepsDamper (s t : State) : Prop := DamperSafe s → DamperSafe t

namespace State.KeepsDamper

variable {s t u : State}

theorem refl (s : State) : s.KeepsDamper s := id

theorem trans (h : s.KeepsDamper t) (h' : t.KeepsDamper u) : s.KeepsDamper u := h' ∘ h

theorem of_view (h : t.damperView = s.damperView) : s.KeepsDamper t := by
  simp only [damperView, Air.damperPart, ZoneMap.damperPart, Prod.mk.injEq] at h
  obtain ⟨⟨⟨hpos, htarget, hmotion⟩, hside, hflap⟩, hstep, ⟨hpath, hactuator⟩, hpath', hactuator'⟩ := h
  intro hs
  rwa [DamperSafe, hpos, htarget, hmotion, hside, hflap, hstep, hpath, hactuator, hpath', hactuator']

/-- A change that the invariant does not see, before the one that keeps it. -/
theorem after (h : t.KeepsDamper u) (hview : t.damperView = s.damperView) : s.KeepsDamper u := (of_view hview).trans h

end State.KeepsDamper

/-- What awaits the law is told by the same part of the state. -/
theorem State.DamperAwaitsLaw.of_view {s t : State} (hs : s.DamperAwaitsLaw) (h : t.damperView = s.damperView) :
    t.DamperAwaitsLaw := by
  simp only [damperView, Air.damperPart, ZoneMap.damperPart, Prod.mk.injEq] at h
  obtain ⟨⟨⟨hpos, htarget, hmotion⟩, hside, hflap⟩, hstep, ⟨hpath, hactuator⟩, hpath', hactuator'⟩ := h
  obtain ⟨⟨hrest, hhoming, hle, hle'⟩, ⟨hactive, hshadow⟩, hagrees⟩ := hs
  refine ⟨⟨?_, ?_, ?_, ?_⟩, ⟨?_, ?_⟩, ?_⟩
  · rwa [hmotion, hpos, htarget]
  · rwa [hmotion, hpos]
  · rwa [hpos]
  · rwa [htarget]
  · rwa [hpath, hactuator]
  · rwa [hpath', hactuator']
  · unfold State.FlapAgrees at hagrees ⊢
    rwa [hstep, hside, hflap, hmotion, hpos, hpath, hpath']

/-! ### The damper law, and a recomputation (R119, R156, R161) -/

theorem damperLaw_le (s : State) : damperLaw s ≤ 400 := by
  unfold damperLaw
  dsimp only
  split_ifs <;> omega

theorem damperLaw_of_transit {s : State} (h : s.map.step ≠ none) : damperLaw s = 0 := if_pos ((s.inTransit_iff).2 h)

/-- A target aims the damper, which begins to move where it rested elsewhere (R161); the flap stands. -/
theorem aimDamper_eq (a : Air) (target : Nat) : aimDamper a target = { a with
    damperTarget := target
    damperMotion := if a.damperMotion = .atRest ∧ target ≠ a.damperPos then .moving else a.damperMotion } := by
  unfold aimDamper
  split
  · next h => by_cases ht : target = a.damperPos <;> simp [h, ht]
  · next h => rw [if_neg fun hc => h hc.1]

theorem Air.DamperSound.aimed {a : Air} (ha : a.DamperSound) {target : Nat} (ht : target ≤ 400) :
    (aimDamper a target).DamperSound := by
  rw [aimDamper_eq]
  constructor
  case rest =>
    dsimp only
    split
    · nofun
    · next h => exact fun hr => (not_not.1 fun hne => h ⟨hr, hne⟩).symm
  case homing =>
    dsimp only
    split
    · nofun
    · exact ha.homing
  case pos => exact ha.pos
  case target => exact ht

/-- A recomputation completes the invariant: in TRANSIT the law closes the damper (R119), and in FLAP the damper, which rests at
0, goes on resting. -/
theorem State.DamperAwaitsLaw.recomputeAirAt {s : State} (hs : s.DamperAwaitsLaw) (amb : Int) :
    DamperSafe (s.recomputeAirAt amb) := by
  obtain ⟨⟨hrest, hhoming, hpos, htarget⟩, hsides, hagrees⟩ := hs
  have hfans : Air.DamperSound { s.air with ff := ffLaw s, zf := zfLaw s, cf := cfLaw s amb } :=
    ⟨hrest, hhoming, hpos, htarget⟩
  have hair : (s.recomputeAirAt amb).air
      = aimDamper { s.air with ff := ffLaw s, zf := zfLaw s, cf := cfLaw s amb } (damperLaw s) := rfl
  rw [damperSafe_iff]
  refine ⟨⟨hair ▸ hfans.aimed (damperLaw_le s), hsides, ?_⟩, fun hstep => ?_⟩
  · unfold State.FlapAgrees at hagrees ⊢
    rw [State.recomputeAirAt_map, hair, aimDamper_eq]
    dsimp only
    split at hagrees
    · exact hagrees
    · exact hagrees
    · next h =>
      obtain ⟨hdest, hatRest, hzero⟩ := hagrees
      have hlaw : damperLaw s = 0 := damperLaw_of_transit (by simp [h])
      exact ⟨hdest, by simp [hatRest, hlaw, hzero], hzero⟩
  · rw [hair, aimDamper_eq]
    exact damperLaw_of_transit hstep

theorem State.DamperAwaitsLaw.recomputeAir {s : State} (hs : s.DamperAwaitsLaw) : DamperSafe s.recomputeAir :=
  hs.recomputeAirAt _

theorem State.recomputeAirAt_keepsDamper (s : State) (amb : Int) : s.KeepsDamper (s.recomputeAirAt amb) :=
  fun hs => ((damperSafe_iff s).1 hs).1.recomputeAirAt amb

theorem State.recomputeAir_keepsDamper (s : State) : s.KeepsDamper s.recomputeAir := s.recomputeAirAt_keepsDamper _

theorem State.airTake_keepsDamper (s : State) (w : AirWork) : s.KeepsDamper (s.airTake w) := by
  cases w with
  | none => exact s.recomputeAir_keepsDamper
  | pathState b => exact (State.recomputeAir_keepsDamper _).after (s.airPathChange_damperView b)
  | s4 r => exact (State.recomputeAir_keepsDamper _).after (s.airS4_damperView r)
  | s5 r => exact s.recomputeAirAt_keepsDamper _

/-! ### The commit, the steps and the begin of a regime change (R114 to R117) -/

theorem State.commitChillHolds_damperView (s : State) (startUp : Bool) :
    (s.commitChillHolds startUp).damperView = s.damperView := by
  cases startUp with
  | true => rfl
  | false => exact s.commitHolds_damperView _

/-- Steps 1 and 2 of the commit, with the hand-off that they withdraw: the shadow entry is active and the holds have changed
(R117). -/
def State.entryCommitted (s : State) : State :=
  ((s.setMap s.map.committed).commitChillHolds s.map.startUp).withdrawChillChange

/-- After the entries and the holds, a commit evaluates CHILL, recomputes the air handler, and raises its notice (R117). -/
theorem State.commitRegime_eq (s : State) :
    let t := s.entryCommitted.evaluateEndOfTransit.recomputeAir
    s.commitRegime = { t with
      map := { t.map with startUp := false }
      events := t.events ++ if s.map.startUp then [] else [.raise .regimeDone] } := by
  obtain ⟨t, ht⟩ : ∃ t, s.entryCommitted.evaluateEndOfTransit.recomputeAir = t := ⟨_, rfl⟩
  have hcommit : s.commitRegime = (if s.map.startUp then t else t.raiseNotice .regimeDone).setMap
      { (if s.map.startUp then t else t.raiseNotice .regimeDone).map with startUp := false } := by
    rw [← ht]
    rfl
  dsimp only
  rw [ht, hcommit]
  cases s.map.startUp with
  | true => simp [State.setMap]
  | false => rfl

theorem State.entryCommitted_damperView (s : State) :
    s.entryCommitted.damperView = (s.setMap s.map.committed).damperView := by
  unfold State.entryCommitted State.withdrawChillChange
  rw [State.setEvents_damperView, State.commitChillHolds_damperView]

/-- A commit finds the flap at rest on the side of the shadow entry, which it makes the active one. -/
theorem State.commitRegime_damperSafe {s : State} (hdamper : s.air.DamperSound) (hsides : s.map.SidesSound)
    (hstill : s.air.flapMotion = .atRest) (hside : s.air.flapSide = some s.map.shadow.path) :
    DamperSafe s.commitRegime := by
  have hcommitted : (s.setMap s.map.committed).DamperAwaitsLaw :=
    ⟨hdamper, ⟨hsides.shadow, hsides.shadow⟩, hstill, hside⟩
  have hview : s.entryCommitted.evaluateEndOfTransit.damperView = (s.setMap s.map.committed).damperView :=
    (State.evaluateEndOfTransit_damperView _).trans s.entryCommitted_damperView
  have hsafe := (hcommitted.of_view hview).recomputeAir
  have hcommit := s.commitRegime_eq
  generalize s.entryCommitted.evaluateEndOfTransit.recomputeAir = t at hsafe hcommit
  rw [hcommit]
  exact State.KeepsDamper.of_view rfl hsafe

theorem State.targetSide_of_sound {s : State} (h : s.map.SidesSound) : s.targetSide = s.map.shadow.path := by
  simp only [State.targetSide, h.shadow]

/-- The entry into FLAP, with the damper and the flap at rest: the flap is driven, or the change is committed (R116). -/
theorem State.enterFlap_damperSafe {s : State} (hdamper : s.air.DamperSound) (hsides : s.map.SidesSound)
    (hrest : s.air.damperMotion = .atRest) (hzero : s.air.damperPos = 0) : DamperSafe s.enterFlap := by
  unfold State.enterFlap
  dsimp only
  split
  · next h =>
    obtain ⟨hstill, hside⟩ := h
    exact State.commitRegime_damperSafe hdamper ⟨hsides.active, hsides.shadow⟩ hstill
      (hside.trans (congrArg some (targetSide_of_sound hsides)))
  · refine State.DamperAwaitsLaw.recomputeAir
      ⟨⟨hdamper.rest, hdamper.homing, hdamper.pos, hdamper.target⟩, ⟨hsides.active, hsides.shadow⟩, ?_, hrest, hzero⟩
    exact congrArg some (targetSide_of_sound hsides)

theorem State.closingEnds_damperSafe {s : State} (hs : DamperSafe s) : DamperSafe s.closingEnds := by
  obtain ⟨⟨hdamper, hsides, -⟩, -⟩ := (damperSafe_iff s).1 hs
  unfold State.closingEnds
  split
  · next h =>
    obtain ⟨-, hrest, hzero⟩ := h
    exact State.enterFlap_damperSafe hdamper hsides hrest hzero
  · exact hs

/-- A change begins from no transit step, so with the flap at rest (R114). -/
theorem State.beginRegime_damperSafe {s : State} (hs : DamperSafe s) (hstep : s.map.step = none) (r : Regime) :
    DamperSafe (s.beginRegime r) := by
  obtain ⟨⟨hdamper, hsides, hagrees⟩, -⟩ := (damperSafe_iff s).1 hs
  have hstill : s.air.flapMotion = .atRest := by
    unfold State.FlapAgrees at hagrees
    rw [hstep] at hagrees
    exact hagrees.1
  have hbegun : (s.setMap { s.map with
      target := some r, shadow := s.writeShadow r, step := some .closing, startUp := false }).DamperAwaitsLaw :=
    ⟨hdamper, ⟨hsides.active, rfl⟩, hstill⟩
  exact State.closingEnds_damperSafe (hbegun.of_view (State.enterTransit_damperView _)).recomputeAir

theorem regimeSet_keepsDamper (regime : Byte) (s : State) : s.KeepsDamper (regimeSet regime s).1 := by
  unfold regimeSet
  split
  · exact .refl s
  · split
    · exact .refl s
    · next h =>
      split
      · exact .refl s
      · exact fun hs => State.beginRegime_damperSafe hs (not_not.1 fun hn => h ((s.inTransit_iff).2 hn)) _

/-! ### Steps and arrivals (R161, R162, R164) -/

/-- A damper that moves or homes is not in step FLAP, so its motion changes nothing for the flap. -/
theorem State.FlapAgrees.of_busy {s : State} (hs : s.FlapAgrees) (h : s.air.damperMotion ≠ .atRest) (pos : Nat)
    (m : Motion) : (s.setAir { s.air with damperPos := pos, damperMotion := m }).FlapAgrees := by
  unfold State.FlapAgrees at hs ⊢
  rw [State.setAir_map]
  split at hs
  · exact hs
  · exact hs
  · obtain ⟨-, hrest, -⟩ := hs
    exact absurd hrest h

theorem State.stepDamper_keepsDamper {s : State} (h : s.air.damperMotion = .moving) :
    s.KeepsDamper (s.setAir { s.air with damperPos := stepToward s.air.damperPos s.air.damperTarget }) := by
  intro hs
  rw [damperSafe_iff] at hs ⊢
  obtain ⟨⟨⟨-, -, hpos, htarget⟩, hsides, hagrees⟩, htransit⟩ := hs
  refine ⟨⟨⟨fun hr => ?_, fun n hn => ?_, stepToward_le hpos htarget, htarget⟩, hsides, ?_⟩, htransit⟩
  · cases h.symm.trans hr
  · cases h.symm.trans hn
  · exact hagrees.of_busy (by rw [h]; nofun) _ _

/-- A homing step moves the count alone (R164). -/
theorem State.homeDamper_keepsDamper {s : State} {n : Nat} (h : s.air.damperMotion = .homing n) :
    s.KeepsDamper (s.setAir { s.air with damperMotion := .homing (n + 1) }) := by
  intro hs
  rw [damperSafe_iff] at hs ⊢
  obtain ⟨⟨⟨-, hhoming, hpos, htarget⟩, hsides, hagrees⟩, htransit⟩ := hs
  refine ⟨⟨⟨nofun, fun _ _ => hhoming n h, hpos, htarget⟩, hsides,
    hagrees.of_busy (by rw [h]; nofun) _ _⟩, htransit⟩

/-- A damper that moved or homed comes to rest at its target, and reports itself to the zone map (R161, R164). -/
theorem State.restDamper_keepsDamper {s : State} (h : s.air.damperMotion ≠ .atRest) {pos : Nat}
    (hpos : pos = s.air.damperTarget) :
    s.KeepsDamper (s.setAir { s.air with damperMotion := .atRest, damperPos := pos }).closingEnds := by
  intro hs
  refine State.closingEnds_damperSafe ?_
  rw [damperSafe_iff] at hs ⊢
  obtain ⟨⟨⟨-, -, -, htarget⟩, hsides, hagrees⟩, htransit⟩ := hs
  exact ⟨⟨⟨fun _ => hpos, nofun, hpos.trans_le htarget, htarget⟩, hsides, hagrees.of_busy h _ _⟩, htransit⟩

/-- From the end of its homing the damper takes up its target: it rests at 0, or begins to move (R164). -/
theorem State.damperHomed_keepsDamper {s : State} {n : Nat} (h : s.air.damperMotion = .homing n) :
    s.KeepsDamper s.damperHomed := by
  have hne : s.air.damperMotion ≠ .atRest := by
    rw [h]
    nofun
  unfold State.damperHomed
  split
  · next h0 => exact State.restDamper_keepsDamper hne h0.symm
  · intro hs
    rw [damperSafe_iff] at hs ⊢
    obtain ⟨⟨⟨-, -, -, htarget⟩, hsides, hagrees⟩, htransit⟩ := hs
    exact ⟨⟨⟨nofun, nofun, Nat.zero_le _, htarget⟩, hsides, hagrees.of_busy hne _ _⟩, htransit⟩

/-- A flap moves in step FLAP alone, to the side of the target regime, and its arrival commits the change (R116, R162). -/
theorem State.flapArrives_keepsDamper {s : State} {dest : Path} (h : flapDest s.air.flapMotion = some dest) :
    s.KeepsDamper (s.flapArrives dest) := by
  intro hs
  obtain ⟨⟨⟨hrest, hhoming, hpos, htarget⟩, hsides, hagrees⟩, -⟩ := (damperSafe_iff s).1 hs
  have hmoves : s.air.flapMotion ≠ .atRest := fun hr => by simp [hr, flapDest] at h
  unfold State.FlapAgrees at hagrees
  split at hagrees
  · exact absurd hagrees.1 hmoves
  · exact absurd hagrees hmoves
  · next hstep =>
    obtain ⟨hdest, -, -⟩ := hagrees
    have harrives : s.flapArrives dest = (s.setAir { s.air with
        flapSide := some dest, flapMotion := .atRest }).commitRegime.recomputeAir :=
      congrArg State.recomputeAir (if_pos hstep)
    rw [harrives]
    refine State.recomputeAir_keepsDamper _ (State.commitRegime_damperSafe ⟨hrest, hhoming, hpos, htarget⟩ hsides rfl ?_)
    exact h.symm.trans hdest

theorem State.flapDest_of_flapDue {s : State} {dest : Path} (h : s.flapDue = some dest) :
    flapDest s.air.flapMotion = some dest := by
  unfold State.flapDue at h
  split at h
  · cases h
  · next hm =>
    split at h
    · rw [hm]
      exact h
    · cases h

/-! ### Start-up and the clock -/

/-- Start-up homes the damper from 0 with the flap at rest, CLOSING standing for the loaded regime (R121, R165). -/
theorem State.startUp_damperSafe (s : State) (straps : Straps) (lockout : Bool) (faults : Nat) :
    DamperSafe (s.startUp straps lockout faults) := by
  rw [damperSafe_iff]
  exact ⟨⟨⟨nofun, fun _ _ => rfl, Nat.zero_le _, Nat.zero_le _⟩, ⟨rfl, rfl⟩, rfl⟩, fun _ => rfl⟩

theorem State.idle_keepsDamper (s : State) : s.KeepsDamper s.idle := by
  unfold State.idle
  split
  · exact .of_view s.entryFallsDue_damperView
  · split
    · next h => exact State.flapArrives_keepsDamper (State.flapDest_of_flapDue h)
    · split
      · exact .of_view rfl
      · exact .of_view s.tickClock_damperView

end Sys2Proof.Machine
end

section
/-! The invariant of damper and flap (R116, R162) is kept by every command and by every step. -/

namespace Sys2Proof.Machine

open Sys2Proof.Safety

/-! ### The taking of what is in flight -/

section Taking

variable {s : State}

theorem State.takeEvent_keepsDamper {α : Type} {p : Handoff → Option α} {f : α → State → State}
    (hf : ∀ a (s1 : State), s1.KeepsDamper (f a s1)) : s.KeepsDamper (s.takeEvent p f) := by
  unfold State.takeEvent
  split
  · exact .refl s
  · exact (hf _ _).after rfl

theorem State.deliver_keepsDamper {k : DeadlineKey} {f : Instant → State → State}
    (hf : ∀ due (s1 : State), s1.KeepsDamper (f due s1)) : s.KeepsDamper (s.deliver k f) := by
  obtain he | ⟨d, -, -, he⟩ := s.deliver_cases k f
  · rw [he]
    exact .refl s
  · rw [he]
    exact (hf _ _).after rfl

theorem State.serve_keepsDamper {code : List Byte} {act : State → State × Reply}
    (hact : ∀ (s1 : State), s1.KeepsDamper (act s1).1) : s.KeepsDamper (s.serve code act) := by
  have hlink (l : LinkPort) : s.KeepsDamper (s.setLink l) := .of_view rfl
  have hreply (t : State) (r : Reply) : t.KeepsDamper (t.formReply r) := .of_view rfl
  unfold State.serve
  split
  · exact ((hlink _).trans (hact _)).trans (hreply _ _)
  · split
    · exact ((hlink _).trans (hact _)).trans (hreply _ _)
    · exact hlink _

/-- A request whose answer leaves damper, flap and CHILL's entries alone. -/
theorem State.serve_keepsDamper_of_view {code : List Byte} {act : State → State × Reply}
    (hact : ∀ (s1 : State), (act s1).1.damperView = s1.damperView) : s.KeepsDamper (s.serve code act) :=
  serve_keepsDamper fun s1 => .of_view (hact s1)

theorem State.takeEvent_keepsDamper_of_view {α : Type} {p : Handoff → Option α} {f : α → State → State}
    (hf : ∀ a (s1 : State), (f a s1).damperView = s1.damperView) : s.KeepsDamper (s.takeEvent p f) :=
  takeEvent_keepsDamper fun a s1 => .of_view (hf a s1)

theorem State.deliver_keepsDamper_of_view {k : DeadlineKey} {f : Instant → State → State}
    (hf : ∀ due (s1 : State), (f due s1).damperView = s1.damperView) : s.KeepsDamper (s.deliver k f) :=
  deliver_keepsDamper fun due s1 => .of_view (hf due s1)

end Taking

/-! ### Every command -/

/-- Where the outcome is a next state, the invariant of damper and flap holds there if it holds in `s`. -/
def State.DamperKept (s : State) (o : Host.Outcome State Fault Refusal) : Prop := ∀ t, o = .next t → s.KeepsDamper t

theorem State.DamperKept.next {s t : State} (ht : s.KeepsDamper t) : s.DamperKept (.next t) :=
  fun _ he => by cases he; exact ht

section Commands

variable (s : State)

/-! #### Start-up, the store and the link port -/

theorem execUptimeWrapRestart_damperKept (straps : Straps) : s.DamperKept (execUptimeWrapRestart straps s) := by
  refine .next ?_
  split
  · exact fun _ => s.startUp_damperSafe ..
  · exact .refl s

theorem execReplySent_damperKept (straps : Straps) : s.DamperKept (execReplySent straps s) := by
  refine .next ?_
  split
  · split
    · exact fun _ => s.startUp_damperSafe ..
    · exact .of_view rfl
  · exact .refl s

theorem execStoreWriteEnd_damperKept : s.DamperKept (execStoreWriteEnd s) := by
  refine .next (.of_view ?_)
  split <;> rfl

theorem execFrameRefused_damperKept (why : FrameRefusal) : s.DamperKept (execFrameRefused why s) := by
  refine .next (.of_view ?_)
  cases why <;> split <;> rfl

theorem execOverrun_damperKept : s.DamperKept (execOverrun s) := by
  refine .next (.of_view ?_)
  split <;> rfl

theorem execFramingError_damperKept : s.DamperKept (execFramingError s) := by
  refine .next (.of_view ?_)
  split <;> rfl

theorem execReplyStart_damperKept : s.DamperKept (execReplyStart s) := by
  refine .next (.of_view ?_)
  split <;> rfl

/-! #### Holds, channels, zones and doors -/

theorem execHoldExpiry_damperKept (slot : Nat) : s.DamperKept (execHoldExpiry slot s) := by
  refine .next (State.deliver_keepsDamper_of_view fun due s1 => ?_)
  split
  · rfl
  · exact s1.regovern_damperView _ (State.lapse_damperView ..)

theorem execChannelConversion_damperKept (c : Channel) (count : Nat) :
    s.DamperKept (execChannelConversion c count s) := by
  refine .next (.of_view ?_)
  rw [State.report_damperView]
  split <;> rfl

theorem execBlindHalf_damperKept (z : Zone) : s.DamperKept (execBlindHalf z s) := by
  refine .next (State.deliver_keepsDamper_of_view fun due s1 => ?_)
  split
  · exact s1.evaluateSchedule_damperView ..
  · rfl

theorem execDoorAjar_damperKept (d : Door) : s.DamperKept (execDoorAjar d s) := by
  refine .next (State.deliver_keepsDamper_of_view fun due s1 => ?_)
  split <;> rfl

theorem execDoorChangeEvaluation_damperKept (d : Door) : s.DamperKept (execDoorChangeEvaluation d s) := by
  refine .next (State.takeEvent_keepsDamper_of_view fun e s1 => ?_)
  split
  · exact s1.evaluateDoor_damperView ..
  · rfl

/-! #### Air handler and its motors -/

theorem execFanDelay_damperKept : s.DamperKept (execFanDelay s) := by
  refine .next (State.deliver_keepsDamper fun due s1 => (State.recomputeAir_keepsDamper _).after ?_)
  split <;> rfl

theorem execDamperStep_damperKept : s.DamperKept (execDamperStep s) := by
  refine .next ?_
  split
  · exact .refl s
  · next h => exact State.stepDamper_keepsDamper h
  · next h =>
    split
    · exact State.homeDamper_keepsDamper h
    · exact .refl s

theorem execDamperArrival_damperKept : s.DamperKept (execDamperArrival s) := by
  refine .next ?_
  split
  · next h =>
    obtain ⟨hmoves, hthere⟩ := h
    exact State.restDamper_keepsDamper (by rw [hmoves]; nofun) hthere
  · exact .refl s

theorem execFlapArrival_damperKept : s.DamperKept (execFlapArrival s) := by
  refine .next ?_
  split
  · next h => exact State.flapArrives_keepsDamper (State.flapDest_of_flapDue h)
  · exact .refl s

theorem execHomingEnd_damperKept (m : HomingMotor) : s.DamperKept (execHomingEnd m s) := by
  refine .next ?_
  split
  · split
    · exact .of_view s.valveHomed_damperView
    · exact .refl s
  · next h =>
    split
    · exact State.damperHomed_keepsDamper h
    · exact .refl s
  · exact .refl s

theorem execValveStep_damperKept : s.DamperKept (execValveStep s) := by
  refine .next (.of_view ?_)
  split
  · rfl
  · rfl
  · split
    · exact State.setAir_damperView (by simp only [Air.damperPart])
    · rfl

theorem execValveArrival_damperKept : s.DamperKept (execValveArrival s) := by
  refine .next (.of_view ?_)
  split
  · rw [State.reportValve_eq]
    rfl
  · rfl

/-! #### Path arbiter, drive link and mains -/

theorem execPumpdownStage_damperKept : s.DamperKept (execPumpdownStage s) := by
  refine .next ?_
  split
  · exact State.deliver_keepsDamper_of_view fun _ s1 => s1.endPumpdown_damperView
  · exact .refl s

theorem execHoldoffStage_damperKept : s.DamperKept (execHoldoffStage s) := by
  refine .next ?_
  split
  · exact State.deliver_keepsDamper_of_view fun _ s1 => s1.restore_damperView
  · exact .refl s

theorem execRecoveryStage_damperKept : s.DamperKept (execRecoveryStage s) := by
  refine .next ?_
  split
  · exact State.deliver_keepsDamper_of_view fun _ s1 => s1.recover_damperView
  · exact .refl s

theorem execDriveLinkTick_damperKept : s.DamperKept (execDriveLinkTick s) := by
  refine .next (.of_view ?_)
  simp

theorem execDriveReceiverByte_damperKept (c : DriveChar) : s.DamperKept (execDriveReceiverByte c s) := by
  refine .next (.of_view ?_)
  split <;> simp

theorem execMainsSample_damperKept (count : Nat) : s.DamperKept (execMainsSample count s) := by
  refine .next (.of_view ?_)
  split <;> rfl

theorem execArbiterSag_damperKept : s.DamperKept (execArbiterSag s) := by
  refine .next (.of_view ?_)
  split <;> simp

theorem execArbiterNormal_damperKept : s.DamperKept (execArbiterNormal s) := by
  refine .next (.of_view ?_)
  split <;> simp

/-! #### Defrost controller -/

theorem execReleaseEnd_damperKept : s.DamperKept (execReleaseEnd s) := by
  refine .next (State.takeEvent_keepsDamper_of_view fun e s1 => ?_)
  split <;> simp

theorem execArbiterChangeToDefrost_damperKept : s.DamperKept (execArbiterChangeToDefrost s) := by
  refine .next (State.takeEvent_keepsDamper_of_view fun e s1 => ?_)
  split <;> simp

theorem execPendingLimit_damperKept : s.DamperKept (execPendingLimit s) := by
  refine .next (State.deliver_keepsDamper_of_view fun due s1 => ?_)
  split <;> simp

/-- The expiries of PHASE are delivered in the phase that they end, and none of them reaches damper or flap. -/
theorem State.phaseExpiry_damperKept (p : Phase) {f : Instant → State → State}
    (hf : ∀ due (s1 : State), (f due s1).damperView = s1.damperView) :
    s.DamperKept (.next (if s.defrost.phase = p then s.deliver .phase f else s)) := by
  refine .next ?_
  split
  · exact deliver_keepsDamper_of_view hf
  · exact .refl s

theorem execCoilS3Report_damperKept : s.DamperKept (execCoilS3Report s) := by
  refine .next (State.takeEvent_keepsDamper_of_view fun e s1 => ?_)
  split <;> simp

theorem execCoilRecoveryCutShort_damperKept : s.DamperKept (execCoilRecoveryCutShort s) := by
  refine .next (State.takeEvent_keepsDamper_of_view fun e s1 => ?_)
  split <;> simp

/-- Every command keeps the invariant. -/
theorem exec_damperKept (c : Instr) : s.DamperKept (exec c s) := by
  have read {code : List Byte} {act : State → State × Reply} (h : ∀ s1, (act s1).1 = s1) :
      s.KeepsDamper (s.serve code act) := State.serve_keepsDamper_of_view fun s1 => by rw [h s1]
  cases c with
  | powerOnReset straps => exact .next fun _ => s.startUp_damperSafe ..
  | uptimeWrapRestart straps => exact execUptimeWrapRestart_damperKept s _
  | ident => exact .next (read fun _ => rfl)
  | systemQuery => exact .next (read fun _ => rfl)
  | restart => exact .next (State.serve_keepsDamper_of_view fun _ => rfl)
  | holdOpen zone kind target halfBand priority flags minutes floor =>
    exact .next (State.serve_keepsDamper_of_view fun _ => holdOpen_damperView ..)
  | holdAmend slot gen mask target halfBand priority minutes floor reach =>
    exact .next (State.serve_keepsDamper_of_view fun _ => holdAmend_damperView ..)
  | holdRetire slot gen => exact .next (State.serve_keepsDamper_of_view fun _ => holdRetire_damperView ..)
  | holdQuery slot gen => exact .next (read (holdQuery_fst _ _))
  | holdList zone => exact .next (read (holdList_fst _))
  | zoneQuery zone => exact .next (read (zoneQuery_fst _))
  | regimeSet regime => exact .next (State.serve_keepsDamper (regimeSet_keepsDamper _))
  | mapSet zone regime fallback offset => exact .next (State.serve_keepsDamper_of_view fun _ => mapSet_damperView ..)
  | sensorQuery channel => exact .next (read (sensorQuery_fst _))
  | correctionSet slot op channel index value =>
    exact .next (State.serve_keepsDamper_of_view fun _ => correctionSet_damperView ..)
  | doorQuery door clear => exact .next (State.serve_keepsDamper_of_view fun _ => doorQuery_damperView ..)
  | defrostNow => exact .next (State.serve_keepsDamper_of_view defrostNow_damperView)
  | defrostCancel => exact .next (State.serve_keepsDamper_of_view defrostCancel_damperView)
  | clearLockout => exact .next (State.serve_keepsDamper_of_view clearLockout_damperView)
  | noticeNext => exact .next (State.serve_keepsDamper_of_view noticeNext_damperView)
  | noticeEnable mask => exact .next (State.serve_keepsDamper_of_view fun _ => rfl)
  | settingsWrite item value => exact .next (State.serve_keepsDamper_of_view fun _ => settingsWrite_damperView ..)
  | settingsRead item => exact .next (read (settingsRead_fst _))
  | settingsStore => exact .next (State.serve_keepsDamper_of_view settingsStore_damperView)
  | storeWriteEnd => exact execStoreWriteEnd_damperKept s
  | frameRefused why => exact execFrameRefused_damperKept s _
  | overrun => exact execOverrun_damperKept s
  | framingError => exact execFramingError_damperKept s
  | byteGapTimeout => exact .next (.of_view rfl)
  | replyStart => exact execReplyStart_damperKept s
  | replySent straps => exact execReplySent_damperKept s _
  | holdExpiry slot => exact execHoldExpiry_damperKept s _
  | holdChangeEvaluation z =>
    exact .next (State.takeEvent_keepsDamper_of_view fun g s1 => s1.evaluateHoldChange_damperView z g)
  | channelConversion c count => exact execChannelConversion_damperKept s _ _
  | oneSecondEvaluation z =>
    exact .next (State.takeEvent_keepsDamper_of_view fun r s1 => s1.evaluateSecond_damperView z r)
  | blindHalf z => exact execBlindHalf_damperKept s _
  | doorSample d a b c => exact .next (.of_view (s.sampleDoor_damperView ..))
  | doorAjar d => exact execDoorAjar_damperKept s _
  | doorChangeEvaluation d => exact execDoorChangeEvaluation_damperKept s _
  | airRecompute k => exact .next (State.takeEvent_keepsDamper fun w s1 => s1.airTake_keepsDamper w)
  | fanDelay => exact execFanDelay_damperKept s
  | damperArrival => exact execDamperArrival_damperKept s
  | flapArrival => exact execFlapArrival_damperKept s
  | homingEnd m => exact execHomingEnd_damperKept s _
  | valveArrival => exact execValveArrival_damperKept s
  | startCompletion => exact .next (State.takeEvent_keepsDamper_of_view fun pos s1 => s1.valveArrives_damperView pos)
  | releaseEnd => exact execReleaseEnd_damperKept s
  | arbiterReview => exact .next (State.takeEvent_keepsDamper_of_view fun _ s1 => s1.review_damperView)
  | pumpdownStage => exact execPumpdownStage_damperKept s
  | holdoffStage => exact execHoldoffStage_damperKept s
  | recoveryStage => exact execRecoveryStage_damperKept s
  | inhibit => exact .next (State.deliver_keepsDamper_of_view fun _ _ => State.review_damperView _)
  | dwellMin => exact .next (State.deliver_keepsDamper_of_view fun _ _ => State.review_damperView _)
  | dwellMax => exact .next (State.deliver_keepsDamper_of_view fun _ _ => State.review_damperView _)
  | speedStep => exact .next (State.deliver_keepsDamper_of_view fun _ _ => by simp)
  | driveLinkTick => exact execDriveLinkTick_damperKept s
  | statusFrame seq actual code check => exact .next (.of_view (State.takeStatus_damperView ..))
  | mainsSample count => exact execMainsSample_damperKept s _
  | arbiterSag => exact execArbiterSag_damperKept s
  | arbiterNormal => exact execArbiterNormal_damperKept s
  | arbiterChangeToDefrost => exact execArbiterChangeToDefrost_damperKept s
  | defrostS4Report => exact .next (State.takeEvent_keepsDamper_of_view fun r s1 => s1.takeS4_damperView r)
  | pendingLimit => exact execPendingLimit_damperKept s
  | prechillPhaseExpiry => exact s.phaseExpiry_damperKept .prechill fun _ s1 => s1.enterRelease_damperView
  | heatPhaseExpiry => exact s.phaseExpiry_damperKept .heat fun _ s1 => s1.endHeat_damperView _
  | dripPhaseExpiry => exact s.phaseExpiry_damperKept .drip fun _ s1 => s1.enterRecover_damperView
  | recoverPhaseExpiry => exact s.phaseExpiry_damperKept .recover fun _ s1 => s1.endRecover_damperView
  | coilS3Report => exact execCoilS3Report_damperKept s
  | coilRecovery => exact .next (State.deliver_keepsDamper_of_view fun _ s1 => s1.endRecovery_damperView)
  | coilRecoveryCutShort => exact execCoilRecoveryCutShort_damperKept s
  | deadlineFallsDue => exact .next (.of_view s.entryFallsDue_damperView)
  | noticeRaise n => exact .next (State.takeEvent_keepsDamper_of_view fun _ _ => rfl)
  | characterReceived b => exact .next (.of_view (s.receive_damperView b))
  | driveReceiverByte c => exact execDriveReceiverByte_damperKept s _
  | damperStep => exact execDamperStep_damperKept s
  | valveStep => exact execValveStep_damperKept s
  | pwmPeriodBoundary => exact .next (.of_view rfl)

end Commands

/-- Settles O27: a step runs one command or moves the clock, and each keeps the invariant of damper and flap. -/
theorem everyStepKeepsTheDamperShutWhileTheFlapMoves : Obligations.EveryStepKeepsTheDamperShutWhileTheFlapMoves := by
  intro s t hs hstep
  have hkeeps : s.KeepsDamper t := by
    unfold step at hstep
    split at hstep
    · cases hstep
      exact s.idle_keepsDamper
    · next c rest _ => exact (exec_damperKept (s.setPending rest) c t hstep).after rfl
  exact hkeeps hs

end Sys2Proof.Machine
end

section
/-! MAP SET (R109, R110): its checks, and the pair that it stores in the map settings and in the entries it is for. -/

namespace Sys2Proof.Machine

open Sys2Proof.Safety

/-! ### The codes of the request (R185) -/

theorem byteOf_toNat (b : Byte) : byteOf b.toNat = b := by simp [byteOf]

theorem zoneOf_eq_some_iff {b : Byte} {z : Zone} : zoneOf b = some z ↔ b.toNat = zoneCode z := by
  unfold zoneOf
  split <;> cases z <;> simp_all [zoneCode]

theorem regimeOf_eq_some_iff {b : Byte} {r : Regime} : regimeOf b = some r ↔ b.toNat = regimeCode r := by
  unfold regimeOf
  split <;> cases r <;> simp_all [regimeCode]

theorem channelOf_eq_some_iff {b : Byte} {c : Channel} : channelOf b = some c ↔ b.toNat = channelCode c := by
  unfold channelOf
  split <;> cases c <;> simp_all [channelCode]

theorem exists_regimeCode_iff {n : Nat} : (∃ r, n = regimeCode r) ↔ n ≤ 2 := by
  constructor
  · rintro ⟨r, rfl⟩
    cases r <;> simp [regimeCode]
  · intro h
    obtain rfl | rfl | rfl : n = 0 ∨ n = 1 ∨ n = 2 := by omega
    exacts [⟨.chilled, rfl⟩, ⟨.soft, rfl⟩, ⟨.frozen, rfl⟩]

theorem exists_channelCode_iff {n : Nat} : (∃ c, n = channelCode c) ↔ n ≤ 5 := by
  constructor
  · rintro ⟨c, rfl⟩
    cases c <;> simp [channelCode]
  · intro h
    obtain rfl | rfl | rfl | rfl | rfl | rfl : n = 0 ∨ n = 1 ∨ n = 2 ∨ n = 3 ∨ n = 4 ∨ n = 5 := by omega
    exacts [⟨.s0, rfl⟩, ⟨.s1, rfl⟩, ⟨.s2, rfl⟩, ⟨.s3, rfl⟩, ⟨.s4, rfl⟩, ⟨.s5, rfl⟩]

theorem regimeOf_eq_none_iff {b : Byte} : regimeOf b = none ↔ 2 < b.toNat := by
  simp only [Option.eq_none_iff_forall_ne_some, ne_eq, regimeOf_eq_some_iff, ← not_exists, exists_regimeCode_iff, not_le]

theorem channelOf_eq_none_iff {b : Byte} : channelOf b = none ↔ 5 < b.toNat := by
  simp only [Option.eq_none_iff_forall_ne_some, ne_eq, channelOf_eq_some_iff, ← not_exists, exists_channelCode_iff, not_le]

theorem fallbackOf_of_channel {b : Byte} {c : Channel} (h : channelOf b = some c) : fallbackOf b = some (some c) := by
  have hcode := channelOf_eq_some_iff.1 h
  have hne : b ≠ 0xFF := by
    rintro rfl
    cases c <;> cases hcode
  rw [fallbackOf, if_neg hne, h]
  rfl

theorem fallbackOf_of_absent {b : Byte} (h : b.toNat = 255) : fallbackOf b = some none :=
  if_pos (BitVec.eq_of_toNat_eq h)

theorem fallbackOf_of_unknown {b : Byte} (h : ¬ (b.toNat ≤ 5 ∨ b.toNat = 255)) : fallbackOf b = none := by
  have hne : b ≠ 0xFF := by
    rintro rfl
    exact h (.inr rfl)
  rw [fallbackOf, if_neg hne, channelOf_eq_none_iff.2 (by omega)]
  rfl

/-- A zone's own sensor has the zone's code (R106, R185). -/
theorem channelCode_ownSensor (z : Zone) : channelCode (ownSensor z) = zoneCode z := by cases z <;> rfl

/-! ### The stored pair (R110) -/

theorem clampInt_ne_self_iff {lo hi x : Int} : clampInt lo hi x ≠ x ↔ x < lo ∨ hi < x := by
  unfold clampInt
  split
  · omega
  · split <;> omega

/-- The pair that a fallback code and an offset name, and whether the offset was moved. -/
structure PairNamed (fallback : Byte) (offset : Half) (c : Option Channel) (pair : Fallback) (moved : Bool) : Prop where
  code : fallbackOf fallback = some c
  stored : storedPair c offset.toInt = (pair, moved)
  absent : fallback.toNat = 255 → pair = none ∧ moved = false
  present : ∀ ch, channelOf fallback = some ch → pair = some (ch, clampInt (-200) 200 offset.toInt) ∧
    (moved = true ↔ offset.toInt < -200 ∨ 200 < offset.toInt)
  reply : byteOf (fallbackCode pair) = fallback

theorem exists_pairNamed {fallback : Byte} (offset : Half) (h : fallback.toNat ≤ 5 ∨ fallback.toNat = 255) :
    ∃ c pair moved, PairNamed fallback offset c pair moved := by
  rcases h with h | h
  · obtain ⟨c, hcode⟩ := exists_channelCode_iff.2 h
    have hchannel := channelOf_eq_some_iff.2 hcode
    refine ⟨_, _, _, fallbackOf_of_channel hchannel, rfl, fun h' => absurd h (by omega), fun ch hch => ?_, ?_⟩
    · cases hchannel.symm.trans hch
      exact ⟨rfl, decide_eq_true_iff.trans clampInt_ne_self_iff⟩
    · show byteOf (channelCode c) = fallback
      rw [← hcode, byteOf_toNat]
  · refine ⟨_, _, _, fallbackOf_of_absent h, rfl, fun _ => ⟨rfl, rfl⟩, fun ch hch => ?_, ?_⟩
    · cases (channelOf_eq_none_iff.2 (by omega)).symm.trans hch
    · show byteOf 255 = fallback
      rw [← h, byteOf_toNat]

/-! ### The request -/

section Request

variable {zone regime fallback : Byte} {offset : Half} {s : State} {z : Zone} {r : Regime} {c : Option Channel}

/-- MAP SET is refused for a code that names nothing, and for the zone's own sensor (R109). -/
theorem mapSet_refused (h : zoneOf zone = none ∨ (zoneOf zone = some .chill ∧ regimeOf regime = none) ∨
    fallbackOf fallback = none ∨ (∃ z, zoneOf zone = some z ∧ fallbackOf fallback = some (some (ownSensor z)))) :
    mapSet zone regime fallback offset s = (s, refuse .field) := by
  unfold mapSet
  split
  · rfl
  · next z hz =>
    split
    · rfl
    · next r hr =>
      split
      · rfl
      · next c hc =>
        refine if_pos ?_
        obtain h | ⟨h, h'⟩ | h | ⟨z', h, h'⟩ := h
        · cases h.symm.trans hz
        · cases h.symm.trans hz
          cases h'.symm.trans hr
        · cases h.symm.trans hc
        · cases h.symm.trans hz
          exact Option.some.inj (hc.symm.trans h')

/-- Where it passes its checks, MAP SET stores the pair and replies with it (R109, R110). -/
theorem mapSet_passes {pair : Fallback} {moved : Bool} (hz : zoneOf zone = some z) (hr : mapRegime z regime = some r)
    (hc : fallbackOf fallback = some c) (hown : c ≠ some (ownSensor z))
    (hstored : storedPair c offset.toInt = (pair, moved)) :
    mapSet zone regime fallback offset s = (s.setMap (s.map.storePair z r pair),
      ⟨.ok, moved, [byteOf (zoneCode z), byteOf (if z = .chill then regimeCode r else 0), byteOf (fallbackCode pair)]
        ++ i16 (fallbackOffset pair)⟩) := by
  simp only [mapSet, hz, hr, hc, if_neg hown, hstored]

/-- The regime that MAP SET reads and gives back: CHILL's is the named one, any other zone's is none and its byte 0. -/
theorem exists_mapRegime (hchill : z = .chill → regime.toNat ≤ 2) :
    ∃ r, mapRegime z regime = some r ∧ (z = .chill → regimeOf regime = some r) ∧
      byteOf (if z = .chill then regimeCode r else 0) = if z = .chill then regime else 0 := by
  unfold mapRegime
  by_cases hz : z = .chill
  · obtain ⟨r, hcode⟩ := exists_regimeCode_iff.2 (hchill hz)
    have hr := regimeOf_eq_some_iff.2 hcode
    refine ⟨r, by rw [if_pos hz, hr], fun _ => hr, ?_⟩
    rw [if_pos hz, if_pos hz, ← hcode, byteOf_toNat]
  · exact ⟨.chilled, if_neg hz, fun h => absurd h hz, by rw [if_neg hz, if_neg hz]; rfl⟩

end Request

/-- Settles O24: the four refusals, and the pair stored for each zone. -/
theorem mapSetStoresThePair : Obligations.MapSetStoresThePair := by
  intro zone regime fallback offset s c known ht
  refine ⟨fun hrefused => ?refused, fun hzone hregime hknown hown => ?stored⟩
  case refused =>
    refine congrArg _ (State.serve_refused rfl ht fun l => mapSet_refused ?_)
    by_cases hzone : 2 < zone.toNat
    · exact .inl (zoneOf_of_lt hzone)
    · obtain ⟨z, hz, hchill⟩ := zoneOf_of_le (not_lt.1 hzone)
      by_cases hknown : known
      · obtain h | ⟨h, hr⟩ | h | hown := hrefused
        · exact absurd h hzone
        · exact .inr (.inl ⟨hchill.2 h ▸ hz, regimeOf_eq_none_iff.2 hr⟩)
        · exact absurd hknown h
        · refine .inr (.inr (.inr ⟨z, hz, fallbackOf_of_channel (channelOf_eq_some_iff.2 ?_)⟩))
          rw [hown, channelCode_ownSensor, zoneOf_eq_some_iff.1 hz]
      · exact .inr (.inr (.inl (fallbackOf_of_unknown hknown)))
  case stored =>
    obtain ⟨z, hz, hchill⟩ := zoneOf_of_le hzone
    have hcode := zoneOf_eq_some_iff.1 hz
    obtain ⟨ch, pair, moved, hpair⟩ := exists_pairNamed offset hknown
    obtain ⟨r, hr, hnamed, hbyte⟩ := exists_mapRegime fun h => hregime (hchill.1 h)
    have hother : ch ≠ some (ownSensor z) := by
      rintro rfl
      refine hown ?_
      rcases hknown with h | h
      · obtain ⟨ch', hch'⟩ := exists_channelCode_iff.2 h
        have hsame := hpair.code.symm.trans (fallbackOf_of_channel (channelOf_eq_some_iff.2 hch'))
        rw [hch', hcode, ← channelCode_ownSensor, Option.some.inj (Option.some.inj hsame)]
      · cases hpair.code.symm.trans (fallbackOf_of_absent h)
    have hact (l : LinkPort) := mapSet_passes (s := s.setLink l) hz hr hpair.code hother hpair.stored
    refine ⟨pair, moved, s.map.storePair z r pair, hpair.absent, hpair.present, ?exec, fun h => ?fresh, fun h => ?freeze,
      fun h r' hr' => ?chill⟩
    case exec =>
      refine congrArg _ ((State.serve_answered rfl ht ?_).trans ?_)
      · rw [hact]
        rfl
      · rw [hact, ← hcode, byteOf_toNat, hbyte, hpair.reply]
        simp only [hchill]
        rfl
    case fresh =>
      cases z with
      | fresh => rfl
      | chill => cases h.symm.trans hcode
      | freeze => cases h.symm.trans hcode
    case freeze =>
      cases z with
      | fresh => cases h.symm.trans hcode
      | chill => cases h.symm.trans hcode
      | freeze => rfl
    case chill =>
      cases hchill.2 h
      cases (hnamed rfl).symm.trans hr'
      rfl

end Sys2Proof.Machine
end

section
/-! Rules that the statements about a regime change share: the air handler recomputed, and the source of F as the
channels stand. -/

namespace Sys2Proof.Machine

open Sys2Proof.Safety

/-! ### The laws of the air handler (R119, R157 to R159) -/

theorem PathState.commandsRun_iff (p : PathState) :
    p.commandsRun = true ↔ p = .runFresh ∨ p = .runFreeze ∨ p = .pumpdown := by
  cases p <;> simp [commandsRun]

/-- CF is 0 with no fan fitted or no run commanded (R159). -/
theorem cfLaw_of_rest {s : State} (amb : Int) (h : s.straps.strap1 = false ∨ s.air.path.commandsRun = false) :
    cfLaw s amb = 0 := by
  unfold cfLaw
  split
  · rfl
  · next hfitted => exact if_pos (h.resolve_left hfitted)

theorem cfLaw_of_runs {s : State} (amb : Int) (h : s.straps.strap1 = true) (h' : s.air.path.commandsRun = true) :
    (amb < 250 → cfLaw s amb = 40) ∧
      (250 ≤ amb → (cfLaw s amb : Int) = clampInt 40 100 (40 + 4 * ((amb - 250) / 10))) := by
  unfold cfLaw
  rw [if_neg (by simp [h]), if_neg (by simp [h'])]
  refine ⟨fun hcold => if_pos hcold, fun hwarm => ?_⟩
  rw [if_neg (by omega)]
  obtain ⟨hlow, -⟩ := clampInt_bounds (by decide : (40 : Int) ≤ 100) (40 + 4 * ((amb - 250) / 10))
  exact Int.toNat_of_nonneg (by omega)

/-- The damper law closes in TRANSIT, at an open drawer, and without demand (R119). -/
theorem damperLaw_of_closed {s : State}
    (h : s.map.step ≠ none ∨ (s.door .dr).state = .opened ∨ s.eval.demand = false) : damperLaw s = 0 := by
  have htransit := s.inTransit_iff
  unfold damperLaw
  dsimp only
  split_ifs <;> tauto

theorem damperLaw_of_offSide {s : State} (hff : (s.entry .chill).actuator ≠ .ff) (hzf : (s.entry .chill).actuator ≠ .zf)
    (h : ¬ (s.air.flapMotion = .atRest ∧ ∃ p ∈ s.air.flapSide, (s.entry .chill).actuator = .damper p)) :
    damperLaw s = 0 := by
  obtain ⟨p, hp⟩ : ∃ p, (s.entry .chill).actuator = .damper p := by
    cases hact : (s.entry .chill).actuator with
    | ff => exact absurd hact hff
    | zf => exact absurd hact hzf
    | damper p => exact ⟨p, rfl⟩
  have hoff : ¬ (s.air.flapMotion = .atRest ∧ s.air.flapSide = some p) := fun ⟨hrest, hside⟩ => h ⟨hrest, p, hside, hp⟩
  simp only [damperLaw, hp]
  rw [if_pos hoff, ite_self]

theorem damperLaw_of_open {s : State} (hstep : s.map.step = none)
    (hside : s.air.flapMotion = .atRest ∧ ∃ p ∈ s.air.flapSide, (s.entry .chill).actuator = .damper p)
    (hdoor : (s.door .dr).state ≠ .opened) (hdemand : s.eval.demand = true) :
    damperLaw s = min 400 (120 + 8 * (s.zone .chill).excess) := by
  obtain ⟨hrest, p, hp, hact⟩ := hside
  have htransit : ¬ s.inTransit = true := fun h => (s.inTransit_iff.1 h) hstep
  simp only [damperLaw, hact]
  rw [if_neg htransit, if_neg (not_not.2 ⟨hrest, hp⟩), if_neg hdoor, if_neg (by simp [hdemand])]

/-- A recomputation gives the air handler what its laws say (R156 to R159, R119, R161). -/
theorem State.recomputeAirAt_recomputed (s : State) (amb : Int) : Recomputed s (s.recomputeAirAt amb) amb := by
  have hair : (s.recomputeAirAt amb).air
      = aimDamper { s.air with ff := ffLaw s, zf := zfLaw s, cf := cfLaw s amb } (damperLaw s) := rfl
  rw [aimDamper_eq] at hair
  generalize s.recomputeAirAt amb = t at hair
  have htarget : t.air.damperTarget = damperLaw s := by rw [hair]
  have hcf : t.air.cf = cfLaw s amb := by rw [hair]
  refine ⟨?frame, ?ff, ?zf, fun hrest => ?still, fun hfitted hruns => ?runs, fun hclosed => ?closed,
    fun hff hzf hside => ?offSide, fun hstep hside hdoor hdemand => ?opens, ?motion⟩
  case frame => rw [hair]
  case ff => rw [hair]; rfl
  case zf => rw [hair]; rfl
  case still => rw [hcf, cfLaw_of_rest amb (hrest.imp_right fun h => by simpa [← PathState.commandsRun_iff] using h)]
  case runs =>
    rw [hcf]
    exact cfLaw_of_runs amb hfitted ((PathState.commandsRun_iff _).2 hruns)
  case closed => rw [htarget, damperLaw_of_closed hclosed]
  case offSide => rw [htarget, damperLaw_of_offSide hff hzf hside]
  case opens => rw [htarget, damperLaw_of_open hstep hside hdoor hdemand]
  case motion => rw [hair]

/-- S5's record gives the ambient temperature of a recomputation (R159). -/
theorem State.recomputeAir_recomputed (s : State) : Recomputed s s.recomputeAir (ambientOf (standing s .s5)) :=
  s.recomputeAirAt_recomputed _

/-! ### The source of F as the channels stand (R35) -/

/-- A report of a channel's own record tells nothing new. -/
theorem State.reading_own (s : State) (c c' : Channel) : s.reading (some (s.reportOf c)) c' = s.reading none c' := by
  by_cases h : c = c'
  · rw [← h]
    exact State.reading_reported s (s.reportOf c)
  · exact State.reading_other h

theorem State.sourceOf_none (s : State) (e : MapEntry) (f : Int) :
    s.sourceOf none e f = sourceDue (standing s) e f := by
  have hseen : seenWith (s.reportOf .s0) s = standing s := by
    funext c
    rw [State.reading_seen, State.reading_own]
    rfl
  have hsource : s.sourceOf none e f = s.sourceOf (some (s.reportOf .s0)) e f := by
    simp only [State.sourceOf, State.reading_own]
  rw [hsource, State.sourceOf_eq, hseen]

end Sys2Proof.Machine
end

section
/-! The hold table's part of the commit of a regime change (R22). -/

namespace Sys2Proof.Machine

open Sys2Proof.Safety

/-! ### The holds that end (R22) -/

/-- The record of a hold after the lapses of the commit. -/
def Hold.afterLapse (h : Hold) : Hold := if endsByRegime h then { h with state := .lapsed .regime } else h

/-- The state `t` is `s` after the lapses of the commit in the slots of `l`. -/
structure State.LapsesIn (s t : State) (l : List Nat) : Prop where
  frame : t = { s with
    holds := t.holds, time := t.time
    events := s.events ++ ((l.filterMap s.holds.at).filter endsByRegime).map fun _ => .raise .holdLapsed }
  lists : t.holds.lists = s.holds.lists
  generations : t.holds.slots.map (·.generation) = s.holds.slots.map (·.generation)
  inside : ∀ i ∈ l, t.holds.at i = (s.holds.at i).map Hold.afterLapse
  outside : ∀ i, i ∉ l → t.holds.at i = s.holds.at i
  gone : ∀ i ∈ l, ∀ h ∈ s.holds.at i, endsByRegime h = true → t.time.Lacks (.holdExpiry i)
  lacks : ∀ k, s.time.Lacks k → t.time.Lacks k
  kept : TimeKept (l.map .holdExpiry) s t

namespace State.LapsesIn

variable {s t u : State} {l l' : List Nat}

theorem nil (s : State) : s.LapsesIn s [] where
  frame := by simp
  lists := rfl
  generations := rfl
  inside := nofun
  outside := fun _ _ => rfl
  gone := nofun
  lacks := fun _ h => h
  kept := ⟨rfl, rfl, rfl, rfl⟩

theorem trans (h : s.LapsesIn t l) (h' : t.LapsesIn u l') (hdisjoint : ∀ i ∈ l, i ∉ l') : s.LapsesIn u (l ++ l') := by
  have hrest : ∀ i ∈ l', t.holds.at i = s.holds.at i := fun i hi => h.outside i fun hl => hdisjoint i hl hi
  constructor
  case frame =>
    rw [h'.frame, List.filterMap_congr hrest, h.frame]
    simp
  case lists => exact h'.lists.trans h.lists
  case generations => exact h'.generations.trans h.generations
  case inside =>
    intro i hi
    rcases List.mem_append.1 hi with hl | hl'
    · rw [h'.outside i (hdisjoint i hl), h.inside i hl]
    · rw [h'.inside i hl', hrest i hl']
  case outside =>
    intro i hi
    rw [List.mem_append, not_or] at hi
    obtain ⟨hl, hl'⟩ := hi
    rw [h'.outside i hl', h.outside i hl]
  case gone =>
    intro i hi r hr hends
    rcases List.mem_append.1 hi with hl | hl'
    · exact h'.lacks _ (h.gone i hl r hr hends)
    · exact h'.gone i hl' r (by rwa [hrest i hl']) hends
  case lacks => exact fun k hk => h'.lacks k (h.lacks k hk)
  case kept =>
    have hk := timeKept_mono (keys' := (l ++ l').map .holdExpiry) (by simp) h.kept
    have hk' := timeKept_mono (keys' := (l ++ l').map .holdExpiry) (by simp) h'.kept
    rw [timeKept_iff_apart] at hk hk' ⊢
    exact hk'.trans hk

/-- A slot whose hold ends, which lapses with its deadline. -/
theorem of_ends {i : Nat} {h : Hold} (hi : s.holds.at i = some h) (hends : endsByRegime h = true) :
    s.LapsesIn (s.lapse i .regime) [i] := by
  have hlive : h.state.isLapsed = false := by
    simp only [endsByRegime, Bool.and_eq_true, Bool.not_eq_true'] at hends
    exact hends.2
  rw [State.lapse_of_live .regime hi hlive]
  constructor
  case frame => simp [hi, hends]
  case lists => exact HoldTable.put_lists _ _ _
  case generations => exact HoldTable.put_generations _ _ _
  case inside =>
    intro j hj
    rw [List.mem_singleton.1 hj, HoldTable.put_at_of_at hi, hi, Option.map_some, Hold.afterLapse, if_pos hends]
  case outside => exact fun j hj => HoldTable.put_at_other _ _ (List.mem_singleton.not.1 hj)
  case gone => exact fun j hj _ _ _ => (Timebase.lacks_without _ _).2 (.inl (by rw [List.mem_singleton.1 hj]))
  case lacks => exact fun k hk => (Timebase.lacks_without _ _).2 (.inr hk)
  case kept =>
    rw [timeKept_iff_apart]
    exact Timebase.apart_without _ (by simp)

/-- A slot where no hold ends. -/
theorem of_stays {i : Nat} (hi : ∀ h ∈ s.holds.at i, endsByRegime h = false) : s.LapsesIn s [i] := by
  constructor
  case frame =>
    cases hat : s.holds.at i with
    | none => simp [hat]
    | some h => simp [hat, hi h hat]
  case inside =>
    intro j hj
    rw [List.mem_singleton.1 hj]
    cases hat : s.holds.at i with
    | none => rfl
    | some h => simp [Hold.afterLapse, hi h hat]
  case gone =>
    intro j hj h hat hends
    rw [List.mem_singleton.1 hj] at hat
    simp [hi h hat] at hends
  case lists => rfl
  case generations => rfl
  case outside => exact fun _ _ => rfl
  case lacks => exact fun _ h => h
  case kept => exact ⟨rfl, rfl, rfl, rfl⟩

end State.LapsesIn

theorem State.lapseAtCommit_cons (s : State) (i : Nat) (is : List Nat) :
    ∃ t, s.LapsesIn t [i] ∧ s.lapseAtCommit (i :: is) = t.lapseAtCommit is := by
  rw [State.lapseAtCommit]
  cases hi : s.holds.at i with
  | none => exact ⟨s, .of_stays (by simp [hi]), rfl⟩
  | some h =>
    by_cases hends : endsByRegime h = true
    · exact ⟨_, .of_ends hi hends, if_pos hends⟩
    · exact ⟨s, .of_stays (by simpa [hi] using hends), if_neg hends⟩

theorem State.lapsesIn_lapseAtCommit (s : State) {l : List Nat} (hl : l.Nodup) : s.LapsesIn (s.lapseAtCommit l) l := by
  induction l generalizing s with
  | nil => exact .nil s
  | cons i is ih =>
    obtain ⟨hi, his⟩ := List.nodup_cons.1 hl
    obtain ⟨t, ht, heq⟩ := s.lapseAtCommit_cons i is
    rw [heq]
    exact ht.trans (ih t his) (by simpa using hi)

/-! ### The BASE hold, and the whole (R22) -/

/-- CHILL's BASE record with the defaults of the regime (R22). -/
def Hold.retargeted (b : Hold) (target : Int) (r : Regime) : Hold :=
  { b with target := target, halfBand := Config.regimeHalfBand r, figures := .zero }

theorem regimeHalfBand_eq (r : Regime) : Config.regimeHalfBand r = if r = .frozen then 10 else 5 := by
  cases r <;> rfl

theorem State.retargetChillBase_eq (s : State) (r : Regime) : ∃ tab, s.retargetChillBase r = s.setHolds tab ∧
    tab.lists = s.holds.lists ∧ tab.slots.map (·.generation) = s.holds.slots.map (·.generation) ∧
    (∀ j, j ≠ 1 → tab.at j = s.holds.at j) ∧
    tab.at 1 = (s.holds.at 1).map
      fun b => b.retargeted (adjustTarget .chill r (s.map.defaultTargets.get r)).val r := by
  unfold State.retargetChillBase
  cases hb : s.holds.at (baseSlot .chill) with
  | none => exact ⟨s.holds, rfl, rfl, rfl, fun _ _ => rfl, by rw [show s.holds.at 1 = none from hb]; rfl⟩
  | some b =>
    refine ⟨_, rfl, HoldTable.put_lists _ _ _, HoldTable.put_generations _ _ _,
      fun j hj => HoldTable.put_at_other _ _ hj, ?_⟩
    rw [show s.holds.at 1 = some b from hb]
    exact HoldTable.put_at_of_at hb _

/-- What the hold table's part of a commit into the regime `r` makes of `s` (R22). -/
structure State.CommittedTo (s t : State) (r : Regime) : Prop where
  frame : t = { s with
    holds := t.holds, time := t.time
    events := s.events ++ (((List.range 24).filterMap s.holds.at).filter endsByRegime).map fun _ => .raise .holdLapsed }
  lists : t.holds.lists = s.holds.lists
  generations : t.holds.slots.map (·.generation) = s.holds.slots.map (·.generation)
  others : ∀ j, j ≠ 1 → j < 24 → t.holds.at j = (s.holds.at j).map fun h =>
    if endsByRegime h then { h with state := .lapsed .regime } else asResolved t .chill h
  base : t.holds.at 1 = (s.holds.at 1).map fun b => asResolved t .chill
    (b.afterLapse.retargeted (adjustTarget .chill r (s.map.defaultTargets.get r)).val r)
  gone : ∀ i < 24, ∀ h ∈ s.holds.at i, endsByRegime h = true → t.time.Lacks (.holdExpiry i)
  kept : TimeKept ((List.range 24).map .holdExpiry) s t

theorem State.committedTo_commitHolds (s : State) (r : Regime) : s.CommittedTo (s.commitHolds r) r := by
  obtain ⟨u, hu⟩ : ∃ u, s.lapseAtCommit (List.range 24) = u := ⟨_, rfl⟩
  have hlapses : s.LapsesIn u (List.range 24) := hu ▸ s.lapsesIn_lapseAtCommit List.nodup_range
  obtain ⟨tab, htab, hlists, hgenerations, hothers, hbase⟩ := u.retargetChillBase_eq r
  have ht : s.commitHolds r = u.setHolds (tab.restated .chill) := by
    rw [State.commitHolds, hu, htab]
    rfl
  obtain ⟨t, htt⟩ : ∃ t, s.commitHolds r = t := ⟨_, rfl⟩
  have hholds : t.holds = tab.restated .chill := by rw [← htt, ht]; rfl
  have htime : t.time = u.time := by rw [← htt, ht]; rfl
  have hat (j : Nat) : t.holds.at j = (tab.at j).map (asResolved t .chill) := HoldTable.at_restated hholds j
  rw [htt] at ht ⊢
  constructor
  case frame =>
    rw [ht, hlapses.frame]
    rfl
  case lists => rw [hholds, HoldTable.restated_lists, hlists, hlapses.lists]
  case generations => rw [hholds, HoldTable.restated_generations, hgenerations, hlapses.generations]
  case others =>
    intro j hj hlt
    rw [hat, hothers j hj, hlapses.inside j (List.mem_range.2 hlt), Option.map_map]
    refine congrArg (Option.map · _) (funext fun h => ?_)
    by_cases hends : endsByRegime h = true
    · simp only [Function.comp_apply, Hold.afterLapse, if_pos hends]
      rw [asResolved_eq_restate, restate_of_lapsed rfl]
    · simp only [Function.comp_apply, Hold.afterLapse, if_neg hends]
  case base =>
    rw [hat, hbase, hlapses.inside 1 (by simp), Option.map_map, Option.map_map, hlapses.frame]
    rfl
  case gone =>
    intro i hi h hh hends
    rw [htime]
    exact hlapses.gone i (List.mem_range.2 hi) h hh hends
  case kept =>
    rw [timeKept_iff_apart, htime, ← timeKept_iff_apart]
    exact hlapses.kept

theorem asResolved_eq (t : State) (z : Zone) (h : Hold) :
    asResolved t z h = { h with state := (asResolved t z h).state } := by
  rw [asResolved_eq_restate]
  exact restate_eq ..

theorem endsByRegime_asResolved (t : State) (z : Zone) (h : Hold) :
    endsByRegime (asResolved t z h) = endsByRegime h := by
  have hlapsed : (asResolved t z h).state.isLapsed = h.state.isLapsed := by
    rw [asResolved_eq_restate]
    exact restate_isLapsed ..
  rw [endsByRegime, hlapsed, asResolved_eq]
  rfl

/-- No hold that the commit leaves is one that would end by it. -/
theorem State.CommittedTo.stays {s t : State} {r : Regime} (h : s.CommittedTo t r) {j : Nat} (hj : j ≠ 1) (hlt : j < 24)
    {b : Hold} (hb : t.holds.at j = some b) : endsByRegime b = false := by
  rw [h.others j hj hlt] at hb
  obtain ⟨h0, -, rfl⟩ := Option.map_eq_some_iff.1 hb
  split
  · simp [endsByRegime, HoldState.isLapsed]
  · next hends =>
    rw [endsByRegime_asResolved]
    exact Bool.not_eq_true _ ▸ hends

theorem Hold.afterLapse_retargeted (b : Hold) (target : Int) (r : Regime) (st : HoldState) :
    { b.afterLapse.retargeted target r with state := st } = { b with
      target := target, halfBand := if r = .frozen then 10 else 5
      figures := ⟨false, 0, 0, 0, 0, false⟩, state := st } := by
  rw [← regimeHalfBand_eq]
  unfold Hold.afterLapse
  split <;> rfl

/-- After the commit, CHILL's EFFECTIVE hold is its BASE hold, for every other has lapsed (R22). -/
theorem State.CommittedTo.live_base {s t : State} {r : Regime} (h : s.CommittedTo t r) (ht : BaseSafe t) :
    t.holds.live .chill = t.holds.at 1 := by
  have ⟨_, ⟨hlength, _⟩, _⟩ := ht
  obtain ⟨hsound, -, -⟩ := (baseSafe_iff t).1 ht
  obtain ⟨b, hb⟩ := Option.isSome_iff_exists.1 (hsound.live_isSome .chill)
  obtain ⟨hat, hzone, hlive⟩ := hsound.at_of_live hb
  have hlt : b.handle.slot < 24 := by
    obtain ⟨sl, hsl, -⟩ := HoldTable.at_eq_some.1 hat
    rw [← hlength]
    exact (List.getElem?_eq_some_iff.1 hsl).1
  have hkind : b.kind = .base := by
    by_contra hkind
    have hslot : b.handle.slot ≠ 1 := fun h1 => hkind ((hsound.base_iff hat).2 (by omega))
    have hstays := h.stays hslot hlt hat
    simp [endsByRegime, hzone, hkind, hlive] at hstays
  obtain ⟨z, b', hat', hbase, hslot⟩ := hsound.base_at ((hsound.base_iff hat).1 hkind)
  cases hat.symm.trans hat'
  cases hbase.zone.symm.trans hzone
  rw [hb, ← hat, hslot]
  rfl

/-- The hold table's part of the commit, said of any state that has its holds and deadlines (R22). -/
theorem State.CommittedTo.commitsHolds {s u t : State}
    (h : (s.setMap s.map.committed).CommittedTo u (s.map.target.getD s.map.regime))
    (hstart : s.map.startUp = false) (hsafe : BaseSafe s → BaseSafe u) (hholds : t.holds = u.holds)
    (hlacks : ∀ j, u.time.Lacks (.holdExpiry j) → t.time.Lacks (.holdExpiry j)) : CommitsHolds s t := by
  have hresolved : asResolved t .chill = asResolved u .chill := by
    funext b
    rw [asResolved_eq_restate, asResolved_eq_restate, hholds]
  refine ⟨hholds ▸ h.lists, hholds ▸ h.generations, fun hs => absurd (hs.symm.trans hstart) (by simp), fun _ =>
    ⟨?others, ?gone, ?base⟩⟩
  case others =>
    rw [hresolved, hholds]
    exact h.others
  case gone =>
    intro j hj b hb hends
    rw [noneOf_iff]
    intro k hk
    rw [List.mem_singleton.1 hk]
    exact hlacks j (h.gone j hj b hb hends)
  case base =>
    intro b hb
    have hb' := h.base
    rw [State.setMap_holds, hb, Option.map_some] at hb'
    refine ⟨_, hholds ▸ hb', ?_, fun hs => ?_⟩
    · exact (asResolved_eq ..).trans (Hold.afterLapse_retargeted ..)
    · obtain ⟨hsound, hset, -⟩ := (baseSafe_iff u).1 (hsafe hs)
      have hlive := (h.live_base (hsafe hs)).trans hb'
      exact ⟨(hset .chill).state_of_live hsound hlive, by rw [State.effectiveHold_eq, hholds, hlive]⟩

end Sys2Proof.Machine
end

section
/-! The end-of-TRANSIT evaluation (R54). -/

namespace Sys2Proof.Machine

open Sys2Proof.Safety

/-! ### What an evaluation hands on, and what its results are read from (R46, R120, R25) -/

theorem State.handUrgencies_handed (s : State) : s.handUrgencies = s.setEvents (s.events ++ handedOn s .fresh) := by
  unfold State.handUrgencies handedOn
  by_cases h : 1500 ≤ s.eval.paths.fresh.urgency <;> simp [h, State.hand, State.setEvents]

/-- A path's record is formed by what the map, the zones and the record say. -/
theorem pathFormed_congr {s t : State} {p : Path} (hactive : t.map.active = s.map.active)
    (hzones : t.eval.zones = s.eval.zones) (hpath : t.eval.paths.get p = s.eval.paths.get p) : PathFormed t p ↔ PathFormed s p := by
  have hzone : t.zone = s.zone := funext fun z => congrArg (PerZone.get · z) hzones
  have hmembers : membersOf t p = membersOf s p := by
    unfold membersOf State.entry
    rw [hactive]
  unfold PathFormed
  rw [hpath, hmembers, hzone]

/-- What governs a zone is read from the holds and the active entries. -/
theorem State.governing_of_active {s t : State} (hholds : t.holds = s.holds) (hactive : t.map.active = s.map.active)
    (z : Zone) : t.governing z = s.governing z := by
  simp only [State.governing, State.effectiveHold_eq, State.entry, hholds, hactive]

/-! ### The source chosen anew (R35 to R38, R54) -/

/-- The choice of the source reaches the zone's record and the BLIND deadline alone. -/
theorem State.selectSource_eq (s : State) (rep : Option Report) (z : Zone) (restart : Bool) :
    s.selectSource rep z restart = { s with
      eval := { s.eval with zones := s.eval.zones.set z ((s.selectSource rep z restart).zone z) }
      time := (s.selectSource rep z restart).time } := by
  have hzone (t : State) (r : ZoneRec) : (t.setZone z r).zone z = r := State.setZone_zone_self ..
  unfold State.selectSource
  dsimp only
  split
  · split
    · unfold State.enterBlind
      rw [hzone]
      rfl
    · rw [hzone]
      rfl
  · split
    · unfold State.leaveBlind
      rw [hzone]
      rfl
    · rw [hzone]
      rfl

/-- A source of BLIND restarts the schedule, another ends it (R37, R54). -/
theorem State.selectSource_restart_time (s : State) (rep : Option Report) (z : Zone) :
    (s.selectSource rep z true).time =
      if (s.sourceOf rep (s.entry z) (s.zone z).f).1 = .blind then
        s.time.wait (.blindHalf z) (60 * (s.eval.blindUsed.get z).calling)
      else if (s.zone z).source = .blind then s.time.without (.blindHalf z) else s.time := by
  unfold State.selectSource
  dsimp only
  split
  · rw [if_pos (.inr rfl)]
    rfl
  · split <;> rfl

/-! ### The record and the state that the evaluation leaves (R54) -/

/-- CHILL's record as the steps before the call leave it, on what governs the zone. -/
def State.endRecord (s : State) (g : Governing) : ZoneRec :=
  let r := s.zone .chill
  let x := sourceDue (standing s) (s.entry .chill) r.f
  let secs := 60 * s.eval.blindUsed.chill.calling
  let seeding := decide ((s.channel (s.entry .chill).sensor).state = .seeding)
  { r with
    handle := g.handle, t := g.target, h := g.halfBand, weight := g.weight, floor := none
    warmCount := 0, coldCount := 0, warm := false, cold := false, state := .satisfied, source := x.1, f := x.2
    half := if x.1 = .blind then some .call else if r.source = .blind then none else r.half
    blindDue := if x.1 = .blind then some (s.time.uptime + secs) else if r.source = .blind then none else r.blindDue
    placeholder := r.placeholder && (decide (x.1 = .blind) || seeding) }

theorem State.leftTransit_zone {s : State} {g : Governing} (hg : s.governing .chill = some g) :
    s.leftTransit.zone .chill = s.endRecord g := by
  let r := (s.zone .chill).leaveTransit (some g)
  have hsource : (s.setZone .chill r).sourceOf none ((s.setZone .chill r).entry .chill) r.f
      = sourceDue (standing s) (s.entry .chill) (s.zone .chill).f := State.sourceOf_none ..
  rw [State.leftTransit, State.selectSource_zone, State.setZone_zone_self, hg]
  dsimp only
  rw [hsource]
  unfold State.endRecord
  dsimp only
  by_cases hblind : (sourceDue (standing s) (s.entry .chill) (s.zone .chill).f).1 = .blind
  · simp only [hblind, or_true, and_self, if_true]
    rfl
  · simp only [hblind, false_and, if_false, not_false_eq_true, ne_eq, true_and]
    rfl

/-- The placeholder that stands adds nothing: F has then taken no value, as in SEEDING and in BLIND, where it is not
tested (log entry 44). -/
theorem callDue_endRecord (s : State) (g : Governing) :
    let seeding := decide ((s.channel (s.entry .chill).sensor).state = .seeding)
    callDue (s.endRecord g) false (seeding || (s.endRecord g).placeholder) = callDue (s.endRecord g) false seeding := by
  intro seeding
  by_cases hblind : (s.endRecord g).source = .blind
  · simp only [callDue, if_pos hblind]
  · have hsource : (sourceDue (standing s) (s.entry .chill) (s.zone .chill).f).1 ≠ .blind := hblind
    have hplaceholder : (s.endRecord g).placeholder = ((s.zone .chill).placeholder && seeding) := by
      simp only [State.endRecord, decide_eq_false hsource, Bool.false_or, seeding]
    rw [hplaceholder]
    cases seeding with
    | true => rw [Bool.true_or]
    | false => rw [Bool.and_false, Bool.or_false]

theorem State.leftTransit_eq (s : State) : s.leftTransit = { s with
    eval := { s.eval with zones := { s.eval.zones with chill := s.leftTransit.zone .chill } }
    time := s.leftTransit.time } := State.selectSource_eq ..

theorem State.leftTransit_time (s : State) : s.leftTransit.time =
    if (sourceDue (standing s) (s.entry .chill) (s.zone .chill).f).1 = .blind then
      s.time.wait (.blindHalf .chill) (60 * s.eval.blindUsed.chill.calling)
    else if (s.zone .chill).source = .blind then s.time.without (.blindHalf .chill) else s.time := by
  let r := (s.zone .chill).leaveTransit (s.governing .chill)
  have hf : r.f = (s.zone .chill).f ∧ r.source = (s.zone .chill).source := by
    unfold r ZoneRec.leaveTransit
    cases s.governing .chill <;> exact ⟨rfl, rfl⟩
  have hsource : (s.setZone .chill r).sourceOf none ((s.setZone .chill r).entry .chill) r.f
      = sourceDue (standing s) (s.entry .chill) (s.zone .chill).f := by
    rw [State.sourceOf_none, hf.1]
    rfl
  rw [State.leftTransit, State.selectSource_restart_time, State.setZone_zone_self, hsource, hf.2]
  rfl

/-- What the end-of-TRANSIT evaluation makes of `s` (R54). -/
structure State.EndedTransit (s t : State) : Prop where
  frame : t = { s with
    eval := { s.eval with
      zones := { s.eval.zones with chill := t.zone .chill }, paths := t.eval.paths, demand := t.eval.demand }
    time := s.leftTransit.time, events := s.events ++ handedOn t .chill }
  record : t.zone .chill = (s.leftTransit.zone .chill).settled false
    (decide ((s.channel (s.entry .chill).sensor).state = .seeding) || (s.leftTransit.zone .chill).placeholder)
    (s.arb.state.runs (s.entry .chill).path && s.delivering (s.entry .chill).actuator) false
  fresh : PathFormed t .fresh
  freeze : PathFormed t .freeze
  demand : t.eval.demand =
    ((t.zone .chill).calls && s.arb.state.runs (s.entry .chill).path && !(t.zone .chill).doorPaused)

/-- The state that the evaluation has judged, before the paths are formed: CHILL's record is settled, and its demand is
handed on. -/
theorem State.leftTransit_judged (s : State) :
    let r := (s.leftTransit.zone .chill).settled false
      (decide ((s.channel (s.entry .chill).sensor).state = .seeding) || (s.leftTransit.zone .chill).placeholder)
      (s.arb.state.runs (s.entry .chill).path && s.delivering (s.entry .chill).actuator) false
    (s.leftTransit.settleZone none .chill false false).handDrawer .chill = { s with
      eval := { s.eval with
        zones := { s.eval.zones with chill := r }
        demand := r.calls && s.arb.state.runs (s.entry .chill).path && !r.doorPaused }
      time := s.leftTransit.time, events := s.events ++ [.airDrawer] } := by
  have hleft := s.leftTransit_eq
  generalize s.leftTransit = u at hleft
  obtain ⟨r, hr⟩ : ∃ r, u.zone .chill = r := ⟨_, rfl⟩
  rw [hr] at hleft ⊢
  generalize u.time = x at hleft
  rw [hleft]
  rfl

theorem State.endedTransit (s : State) : s.EndedTransit s.evaluateEndOfTransit := by
  have hjudged := s.leftTransit_judged
  obtain ⟨v, hv⟩ : ∃ v, (s.leftTransit.settleZone none .chill false false).handDrawer .chill = v := ⟨_, rfl⟩
  obtain ⟨w, hw⟩ : ∃ w, (v.recomputePath .fresh).recomputePath .freeze = w := ⟨_, rfl⟩
  have heval : s.evaluateEndOfTransit = w.setEvents (w.events ++ handedOn w .fresh) := by
    rw [← State.handUrgencies_handed, ← hw, ← hv]
    rfl
  have hpaths : w = { v with eval := { v.eval with paths := w.eval.paths } } := by rw [← hw]; rfl
  rw [hv] at hjudged
  have hfresh : PathFormed w .fresh := by
    rw [pathFormed_congr (s := v.recomputePath .fresh) (by rw [← hw]; rfl) (by rw [← hw]; rfl)
      (by rw [← hw]; exact PerPath.get_set_other _ (p := .freeze) (q := .fresh) _ (by decide))]
    exact v.recomputePath_pathFormed .fresh
  have hfreeze : PathFormed w .freeze := hw ▸ State.recomputePath_pathFormed _ _
  rw [hjudged] at hpaths
  rw [heval]
  constructor
  case frame =>
    have hhanded : handedOn (w.setEvents (w.events ++ handedOn w .fresh)) .chill
        = [.airDrawer] ++ handedOn w .fresh := rfl
    rw [hhanded, ← List.append_assoc]
    generalize handedOn w .fresh = l
    generalize w.eval.paths = paths at hpaths
    rw [hpaths]
    rfl
  case record =>
    rw [hpaths]
    rfl
  case fresh => exact hfresh
  case freeze => exact hfreeze
  case demand =>
    rw [hpaths]
    rfl

namespace State.EndedTransit

variable {s t : State}

/-- Steps 3 to 6 are made on the record that what governs the zone gives (R54). -/
theorem settlesTo (h : s.EndedTransit t) {g : Governing} (hg : s.governing .chill = some g) :
    (s.endRecord g).SettlesTo (t.zone .chill)
      (callDue (s.endRecord g) false (decide ((s.channel (s.entry .chill).sensor).state = .seeding)))
      (s.arb.state.runs (s.entry .chill).path && s.delivering (s.entry .chill).actuator) false := by
  rw [h.record, State.leftTransit_zone hg, ← callDue_endRecord s g]
  exact ZoneRec.settlesTo_settled ..

theorem zone_eq (h : s.EndedTransit t) {g : Governing} (hg : s.governing .chill = some g) :
    t.zone .chill = { s.endRecord g with
      state := (t.zone .chill).state, waitAge := (t.zone .chill).waitAge, excess := (t.zone .chill).excess
      urgency := (t.zone .chill).urgency, sat := (t.zone .chill).sat } := by
  rw [h.record, State.leftTransit_zone hg]
  rfl

theorem time (h : s.EndedTransit t) : t.time = s.leftTransit.time := by rw [h.frame]

/-- A source of BLIND has its first half timed (R38, R54). -/
theorem dueAfter (h : s.EndedTransit t)
    (hblind : (sourceDue (standing s) (s.entry .chill) (s.zone .chill).f).1 = .blind) :
    DueAfter (.blindHalf .chill) (60 * s.eval.blindUsed.chill.calling) s t := by
  unfold DueAfter
  rw [h.time, State.leftTransit_time, if_pos hblind]
  exact (Timebase.mem_wait_deadlines ..).2 (.inl rfl)

/-- A source that is BLIND no longer has no half left (R37). -/
theorem noneOf (h : s.EndedTransit t)
    (hsource : (sourceDue (standing s) (s.entry .chill) (s.zone .chill).f).1 ≠ .blind)
    (hblind : (s.zone .chill).source = .blind) : NoneOf [.blindHalf .chill] t := by
  rw [noneOf_iff, h.time, State.leftTransit_time, if_neg hsource, if_pos hblind]
  simp

theorem timeKept (h : s.EndedTransit t) : TimeKept [.blindHalf .chill] s t := by
  rw [timeKept_iff_apart, h.time, State.leftTransit_time]
  split_ifs <;> simp

/-- The expiry of a hold that is gone stays gone. -/
theorem lacks (h : s.EndedTransit t) {j : Nat} (hj : s.time.Lacks (.holdExpiry j)) : t.time.Lacks (.holdExpiry j) := by
  rw [h.time, State.leftTransit_time]
  split_ifs <;> simp [hj]

end State.EndedTransit

end Sys2Proof.Machine
end

section
/-! The commit of a regime change (R117): entries, holds, end-of-TRANSIT evaluation, air handler, and notice. -/

namespace Sys2Proof.Machine

open Sys2Proof.Safety

/-! ### Entries and holds (R117 steps 1 and 2) -/

/-- The state `t` is `s` after the steps of the commit that come before the evaluation (R117). -/
structure State.EntryCommitted (s t : State) : Prop where
  frame : t = { s with
    holds := t.holds, map := s.map.committed, time := t.time
    events := (s.events ++ (if s.map.startUp then []
        else ((List.range 24).filterMap s.holds.at).filter endsByRegime).map
          fun _ => Handoff.raise .holdLapsed).filter fun e => match e with
      | .holdChange .chill _ => false
      | _ => true }
  commits : ∀ u : State, u.holds = t.holds → (∀ j, t.time.Lacks (.holdExpiry j) → u.time.Lacks (.holdExpiry j)) →
    CommitsHolds s u
  kept : TimeKept ((List.range 24).map .holdExpiry) s t

theorem State.entryCommitted_committed (s : State) : s.EntryCommitted s.entryCommitted := by
  unfold State.entryCommitted State.commitChillHolds
  cases hstart : s.map.startUp with
  | true =>
    refine ⟨?frame, fun u hu _ => ?commits, ⟨rfl, rfl, rfl, rfl⟩⟩
    case frame =>
      simp only [hstart, if_true, List.map_nil, List.append_nil]
      rfl
    case commits =>
      have hholds : u.holds = s.holds := hu
      exact ⟨by rw [hholds], by rw [hholds], fun _ => hholds, fun h => by simp [hstart] at h⟩
  | false =>
    have hcommitted := (s.setMap s.map.committed).committedTo_commitHolds s.map.committed.regime
    have hsafe (hs : BaseSafe s) : BaseSafe ((s.setMap s.map.committed).commitHolds s.map.committed.regime) :=
      State.commitHolds_baseSafe (s := s.setMap s.map.committed) (baseSafe_of_same hs rfl Iff.rfl) _
    obtain ⟨t, ht⟩ : ∃ t, (s.setMap s.map.committed).commitHolds s.map.committed.regime = t := ⟨_, rfl⟩
    rw [ht] at hcommitted hsafe
    have htt : (s.setMap s.map.committed).commitHolds (s.setMap s.map.committed).map.regime = t := ht
    simp only [Bool.false_eq_true, if_false]
    rw [htt]
    refine ⟨?frame, fun u hu hlacks => hcommitted.commitsHolds hstart hsafe hu hlacks, hcommitted.kept⟩
    case frame =>
      have hframe := hcommitted.frame
      simp only [hstart, Bool.false_eq_true, if_false]
      generalize t.holds = holds at hframe
      generalize t.time = time at hframe
      rw [hframe]
      rfl

/-! ### The evaluation (R54), said of the state before the commit -/

theorem State.EntryCommitted.exists_eq {s u : State} (h : s.EntryCommitted u) : ∃ holds time events,
    u = { s with holds := holds, map := s.map.committed, time := time, events := events } ∧
      time.uptime = s.time.uptime ∧ time.ms = s.time.ms := by
  obtain ⟨huptime, hms, -, -⟩ := h.kept
  exact ⟨_, _, _, h.frame, huptime, hms⟩

theorem State.EntryCommitted.endsTransit {s u v : State} (hu : s.EntryCommitted u) (hv : u.EndedTransit v) (air : Air)
    (events : List Handoff) :
    EndsTransit s { v with map := { v.map with startUp := false }, air := air, events := events } := by
  obtain ⟨holds, time, events0, rfl, huptime, hms⟩ := hu.exists_eq
  have hmap : v.map = s.map.committed := by rw [hv.frame]
  have hholds : v.holds = holds := by rw [hv.frame]
  have hveval : v.eval = { s.eval with
      zones := { s.eval.zones with chill := v.zone .chill }, paths := v.eval.paths, demand := v.eval.demand } :=
    congrArg State.eval hv.frame
  refine ⟨fun g hg => ?record, fun hblind => ?blind, hv.noneOf, hveval, ?fresh, ?freeze, hv.demand⟩
  case blind =>
    have hdue := hv.dueAfter hblind
    unfold DueAfter at hdue ⊢
    rw [← huptime, ← hms]
    exact hdue
  case fresh => exact (pathFormed_congr rfl rfl rfl).2 hv.fresh
  case freeze => exact (pathFormed_congr rfl rfl rfl).2 hv.freeze
  case record =>
    have hactive : v.map.active = s.map.committed.active := by rw [hmap]
    have hgoverns : State.governing { s with
        holds := holds, map := s.map.committed, time := time, events := events0 } .chill = some g := (State.governing_of_active hholds hactive .chill).symm.trans hg
    rw [← huptime]
    refine ⟨hv.zone_eq hgoverns, ZoneRec.SettlesTo.settles ?_⟩
    have hentry : State.entry { s with map := { v.map with startUp := false } } .chill = s.map.shadow := by
      rw [State.entry, hmap]
      rfl
    rw [hentry]
    exact hv.settlesTo hgoverns

/-! ### The whole (R117) -/

theorem State.commitRegime_commits (s : State) : Commits s s.commitRegime := by
  have hu := s.entryCommitted_committed
  have hcommit := s.commitRegime_eq
  generalize s.entryCommitted = u at hu hcommit
  have hv := u.endedTransit
  generalize u.evaluateEndOfTransit = v at hv hcommit
  have hair := v.recomputeAir_recomputed
  have hrest : v.recomputeAir = { v with air := v.recomputeAir.air } := rfl
  generalize v.recomputeAir.air = air at hrest
  rw [hrest] at hair hcommit
  dsimp only at hcommit
  rw [hcommit]
  have hkept : TimeKept (.blindHalf .chill :: (List.range 24).map .holdExpiry) s v := by
    have hholds := timeKept_mono (List.subset_cons_self (.blindHalf .chill) _) hu.kept
    have hblind := timeKept_mono (keys' := .blindHalf .chill :: (List.range 24).map .holdExpiry) (by simp) hv.timeKept
    rw [timeKept_iff_apart] at hholds hblind ⊢
    exact hblind.trans hholds
  have hevents : v.events = u.events ++ handedOn v .chill := congrArg State.events hv.frame
  have huevents := congrArg State.events hu.frame
  have hends := hu.endsTransit hv air (v.events ++ if s.map.startUp then [] else [.raise .regimeDone])
  have hholds := hu.commits { v with map := { v.map with startUp := false } }
  have hlacks := fun j => hv.lacks (j := j)
  have hvframe : ∃ eval time events, v = { u with eval := eval, time := time, events := events } := ⟨_, _, _, hv.frame⟩
  obtain ⟨holds, time0, events0, hu', -, -⟩ := hu.exists_eq
  rw [huevents] at hevents
  clear hcommit hrest hu hv huevents
  subst hu'
  obtain ⟨eval, time, events, rfl⟩ := hvframe
  refine ⟨rfl, rfl, hholds rfl hlacks, hends, hair, hkept, ?events⟩
  case events => exact congrArg (· ++ _) hevents

end Sys2Proof.Machine
end

section
/-! REGIME SET (R114 to R116, R53): its refusals, and the change that it begins. -/

namespace Sys2Proof.Machine

open Sys2Proof.Safety

/-! ### CHILL enters TRANSIT (R53) -/

/-- What the entry into TRANSIT makes of `s`: CHILL's record and demand, the path's record formed anew, and what is
handed on. -/
structure State.EntersTransit (s t : State) : Prop where
  frame : t = { s with
    eval := { s.eval with
      zones := { s.eval.zones with chill := (s.zone .chill).enterTransit }, paths := t.eval.paths, demand := false }
    events := s.events ++ (if s.eval.demand then [.airDrawer] else []) ++ handedOn t .fresh }
  formed : PathFormed t (s.entry .chill).path
  others : ∀ p, p ≠ (s.entry .chill).path → t.eval.paths.get p = s.eval.paths.get p

theorem State.entersTransit (s : State) : s.EntersTransit s.enterTransit := by
  let v : State := { s with
    eval := { s.eval with zones := { s.eval.zones with chill := (s.zone .chill).enterTransit }, demand := false }
    events := s.events ++ (if s.eval.demand then [.airDrawer] else []) }
  have hdemand : s.enterTransit = (v.recomputePath (s.entry .chill).path).handUrgencies := by
    cases hd : s.eval.demand with
    | true =>
      simp only [State.enterTransit, v, hd, if_true]
      rfl
    | false =>
      simp only [State.enterTransit, v, hd, Bool.false_eq_true, if_false, List.append_nil]
      rfl
  rw [hdemand, State.handUrgencies_handed]
  have hformed : PathFormed (v.recomputePath (s.entry .chill).path) (s.entry .chill).path :=
    v.recomputePath_pathFormed _
  exact ⟨rfl, (pathFormed_congr rfl rfl rfl).2 hformed, fun p hp => PerPath.get_set_other _ _ hp⟩

/-! ### The begin of a change (R114) -/

/-- The state in which a change has begun, before the damper is looked at (R114). -/
def State.begun (s : State) (r : Regime) : State :=
  (s.setMap { s.map with
    target := some r, shadow := s.writeShadow r, step := some .closing, startUp := false }).enterTransit.recomputeAir

theorem regimePath_eq (r : Regime) : regimePath r = if r = .chilled then .fresh else .freeze := by cases r <;> rfl

/-- What the begin of a change makes of `s` (R114, R53). -/
structure State.Begins (s t : State) (r : Regime) : Prop where
  frame : t = { s with
    map := { s.map with target := some r, shadow := s.writeShadow r, step := some .closing, startUp := false }
    eval := t.eval, air := t.air
    events := s.events ++ (if s.eval.demand then [.airDrawer] else []) ++ handedOn t .fresh }
  eval : t.eval = { s.eval with
    zones := { s.eval.zones with chill := (s.zone .chill).enterTransit }, paths := t.eval.paths, demand := false }
  formed : PathFormed t (s.entry .chill).path
  others : ∀ p, p ≠ (s.entry .chill).path → t.eval.paths.get p = s.eval.paths.get p
  air : Recomputed { s with map := t.map, eval := t.eval } t (ambientOf (standing s .s5))

theorem State.begins_begun (s : State) (r : Regime) : s.Begins (s.begun r) r := by
  obtain ⟨m, hm⟩ : ∃ m : ZoneMap, { s.map with
    target := some r, shadow := s.writeShadow r, step := some .closing, startUp := false } = m := ⟨_, rfl⟩
  have henters := (s.setMap m).entersTransit
  have hactive : m.active = s.map.active := by rw [← hm]
  have hbegun : s.begun r = (s.setMap m).enterTransit.recomputeAir := by rw [← hm]; rfl
  have hair := (s.setMap m).enterTransit.recomputeAir_recomputed
  generalize (s.setMap m).enterTransit = t at henters hair hbegun
  obtain ⟨air, ht⟩ : ∃ air, s.begun r = { t with air := air } := ⟨_, hbegun⟩
  rw [← hbegun, ht] at hair
  rw [ht]
  obtain ⟨hframe, hformed, hothers⟩ := henters
  have hchill : (s.setMap m).entry .chill = s.entry .chill := by rw [State.entry, State.setMap_map, hactive]; rfl
  rw [hchill] at hformed hothers
  have heval := congrArg State.eval hframe
  have hframe' : t = { s with
      map := m, eval := t.eval
      events := s.events ++ (if s.eval.demand then [.airDrawer] else []) ++ handedOn t .fresh } := by
    rw [heval]
    exact hframe
  have hair' : Recomputed { s with map := m, eval := t.eval } { t with air := air } (ambientOf (standing s .s5)) := by
    generalize handedOn t .fresh = l at hframe'
    generalize t.eval = eval at hframe'
    rw [hframe'] at hair ⊢
    exact hair
  have hmap : t.map = m := congrArg State.map hframe
  refine ⟨?frame, heval, hformed, hothers, ?air⟩
  case frame =>
    rw [hm]
    exact congrArg (fun u : State => { u with air := air }) hframe'
  case air =>
    rw [hmap]
    exact hair'

namespace State.Begins

variable {s t : State} {r : Regime}

theorem time (h : s.Begins t r) : t.time = s.time := by rw [h.frame]

theorem meas (h : s.Begins t r) : t.meas = s.meas := by rw [h.frame]

theorem step (h : s.Begins t r) : t.map.step = some .closing := by rw [h.frame]

/-- The flap side of the target regime is that of its path (R113, R116). -/
theorem targetSide (h : s.Begins t r) : t.targetSide = if r = .chilled then .fresh else .freeze := by
  rw [← regimePath_eq, h.frame]
  rfl

/-- The begin moves neither the flap nor the position of the damper. -/
theorem flap (h : s.Begins t r) : t.air.flapMotion = s.air.flapMotion ∧ t.air.flapSide = s.air.flapSide := by
  obtain ⟨hair, -⟩ := h.air
  rw [hair]
  exact ⟨rfl, rfl⟩

/-- The damper that the begin closes rests at 0 exactly where it did before (R115, R161). -/
theorem shut_iff (h : s.Begins t r) : t.air.damperMotion = .atRest ∧ t.air.damperPos = 0 ↔
    s.air.damperMotion = .atRest ∧ s.air.damperPos = 0 := by
  obtain ⟨hair, -, -, -, -, hclosed, -, -, hmotion⟩ := h.air
  have htarget : t.air.damperTarget = 0 := hclosed (.inl (by simp [h.step]))
  have hpos : t.air.damperPos = s.air.damperPos := by rw [hair]
  rw [hmotion, htarget, hpos]
  by_cases hzero : s.air.damperPos = 0
  · simp [hzero]
  · simp [hzero]

end State.Begins

/-! ### The step that follows (R115, R116) -/

theorem State.closingEnds_of_shut {s : State} (hstep : s.map.step = some .closing)
    (h : s.air.damperMotion = .atRest ∧ s.air.damperPos = 0) : s.closingEnds = s.enterFlap := if_pos ⟨hstep, h⟩

theorem State.closingEnds_of_busy {s : State} (h : ¬ (s.air.damperMotion = .atRest ∧ s.air.damperPos = 0)) :
    s.closingEnds = s := if_neg fun ⟨_, h'⟩ => h h'

/-- A flap at rest on the side of the target regime leaves nothing but the commit, which sets the step anyway (R116). -/
theorem State.enterFlap_of_there {s : State} (h : s.air.flapMotion = .atRest ∧ s.air.flapSide = some s.targetSide) :
    s.enterFlap = s.commitRegime := if_pos h

/-- A flap that is not at rest on the side of the target regime is driven there for 4 s (R116, R162). -/
theorem State.enterFlap_of_away {s : State} (h : ¬ (s.air.flapMotion = .atRest ∧ s.air.flapSide = some s.targetSide)) :
    s.enterFlap = State.recomputeAir { s with
      map := { s.map with step := some .flap }
      air := { s.air with flapMotion := .moving s.targetSide ⟨s.time.uptime + 4, s.time.ms⟩ } } := if_neg h

/-- The three continuations of a change that has begun, by the damper and the flap as they stood before (R115, R116). -/
structure State.Continues (s u t : State) (r : Regime) : Prop where
  link : t.link = u.link
  waits : ¬ (s.air.damperMotion = .atRest ∧ s.air.damperPos = 0) → t = u
  drives : s.air.damperMotion = .atRest ∧ s.air.damperPos = 0 →
    ¬ (s.air.flapMotion = .atRest ∧ s.air.flapSide = some (if r = .chilled then .fresh else .freeze)) →
    t = { u with map := { u.map with step := some .flap }, air := t.air } ∧
    Recomputed { u with
      map := t.map
      air := { u.air with
        flapMotion := .moving (if r = .chilled then .fresh else .freeze) ⟨s.time.uptime + 4, s.time.ms⟩ } }
      t (ambientOf (standing s .s5))
  commits : s.air.damperMotion = .atRest ∧ s.air.damperPos = 0 →
    s.air.flapMotion = .atRest ∧ s.air.flapSide = some (if r = .chilled then .fresh else .freeze) → Commits u t

theorem State.Begins.continues {s u : State} {r : Regime} (h : s.Begins u r) : s.Continues u u.closingEnds r := by
  obtain ⟨hmotion, hside⟩ := h.flap
  by_cases hshut : s.air.damperMotion = .atRest ∧ s.air.damperPos = 0
  · rw [State.closingEnds_of_shut h.step (h.shut_iff.2 hshut)]
    by_cases hthere : s.air.flapMotion = .atRest ∧
        s.air.flapSide = some (if r = .chilled then .fresh else .freeze)
    · have hcommits := u.commitRegime_commits
      rw [State.enterFlap_of_there (by rwa [hmotion, hside, h.targetSide])]
      have ⟨hframe, _⟩ := hcommits
      exact ⟨(congrArg State.link hframe :), absurd hshut, fun _ haway => absurd hthere haway, fun _ _ => hcommits⟩
    · rw [State.enterFlap_of_away (by rwa [hmotion, hside, h.targetSide]), h.targetSide]
      refine ⟨rfl, absurd hshut, fun _ _ => ⟨rfl, ?_⟩, fun _ ht => absurd ht hthere⟩
      have hambient : standing s .s5 = standing u .s5 := by simp only [standing, State.channel, h.meas]
      rw [hambient, ← h.time]
      exact State.recomputeAir_recomputed _
  · rw [State.closingEnds_of_busy (h.shut_iff.not.2 hshut)]
    exact ⟨rfl, fun _ => rfl, fun hs => absurd hs hshut, fun hs => absurd hs hshut⟩

/-- A commit neither reads nor writes the link port. -/
theorem commits_setLink {s t : State} (l : LinkPort) (h : Commits s t) : Commits (s.setLink l) (t.setLink l) := by
  obtain ⟨hframe, hmap, hholds, hends, hair, htime, hevents⟩ := h
  exact ⟨congrArg (State.setLink · l) hframe, hmap, hholds, hends, hair, htime, hevents⟩

/-! ### The request (R114) -/

section Request

variable {b : Byte} {s : State} {r : Regime}

theorem regimeSet_of_undefined (h : regimeOf b = none) : regimeSet b s = (s, refuse .field) := by
  simp only [regimeSet, h]

theorem regimeSet_of_transit (hr : regimeOf b = some r) (h : s.map.step ≠ none) :
    regimeSet b s = (s, refuse .busy) := by
  simp only [regimeSet, hr]
  exact if_pos (s.inTransit_iff.2 h)

theorem regimeSet_of_same (hr : regimeOf b = some r) (hstep : s.map.step = none) (h : r = s.map.regime) :
    regimeSet b s = (s, okReply []) := by
  simp only [regimeSet, hr]
  rw [if_neg fun hi => s.inTransit_iff.1 hi hstep, if_pos h]

theorem regimeSet_of_change (hr : regimeOf b = some r) (hstep : s.map.step = none) (h : r ≠ s.map.regime) :
    regimeSet b s = ((s.begun r).closingEnds, ⟨.accepted, false, []⟩) := by
  simp only [regimeSet, hr]
  rw [if_neg fun hi => s.inTransit_iff.1 hi hstep, if_neg h]
  rfl

end Request

/-- Settles O23: the refusals, and the change that begins by damper and flap as they stand. -/
theorem regimeSetBeginsTheChange : Obligations.RegimeSetBeginsTheChange := by
  intro b s ht
  refine ⟨fun hb => ?field, fun r hr => ⟨fun hstep => ?busy, fun hstep => ⟨fun hsame => ?same, fun hne => ?change⟩⟩⟩
  case field =>
    exact congrArg _ (State.serve_refused rfl ht fun l => regimeSet_of_undefined (regimeOf_eq_none_iff.2 hb))
  case busy => exact congrArg _ (State.serve_refused rfl ht fun l => regimeSet_of_transit hr hstep)
  case same =>
    have hact (l : LinkPort) := regimeSet_of_same (s := s.setLink l) hr hstep hsame
    refine congrArg _ ((State.serve_answered rfl ht ?_).trans ?_)
    · rw [hact]
      rfl
    · rw [hact]
      rfl
  case change =>
    intro side shut there amb old entry
    let taken := s.setLink (s.link.taking [0x21, b])
    have hact : regimeSet b taken = ((taken.begun r).closingEnds, ⟨.accepted, false, []⟩) :=
      regimeSet_of_change hr hstep hne
    have hbegins : taken.Begins (taken.begun r) r := taken.begins_begun r
    have hcontinues := hbegins.continues
    generalize taken.begun r = u at hact hbegins hcontinues
    generalize u.closingEnds = t at hact hcontinues
    have hframe := hbegins.frame
    have hshadow : taken.writeShadow r = entry := by
      rw [State.writeShadow, chillEntry, regimePath_eq]
      rfl
    rw [hshadow] at hframe
    have hlink : t.link = s.link.taking [0x21, b] := hcontinues.link.trans (congrArg State.link hframe)
    refine ⟨u.setLink s.link, t.setLink s.link, ?exec, congrArg (State.setLink · s.link) hframe, hbegins.eval,
      hbegins.formed, hbegins.others, hbegins.air, fun hshut => ?waits, fun hshut haway => ?drives,
      fun hshut hthere => ?commits⟩
    case exec =>
      refine congrArg _ ((State.serve_answered rfl ht ?_).trans ?_)
      · rw [hact]
        exact hlink
      · rw [hact]
        rfl
    case waits => rw [hcontinues.waits hshut]
    case drives =>
      obtain ⟨hdriven, hair⟩ := hcontinues.drives hshut haway
      exact ⟨congrArg (State.setLink · s.link) hdriven, hair⟩
    case commits => exact commits_setLink _ (hcontinues.commits hshut hthere)

end Sys2Proof.Machine
end

section
/-! CHANNEL_CONVERSION (R124 to R138): what a good and a bad conversion make of a channel's record, and to whom the report
goes. -/

namespace Sys2Proof

theorem PerChannel.get_set {α : Type} (p : PerChannel α) (c x : Channel) (a : α) :
    (p.set c a).get x = if x = c then a else p.get x := by
  cases c <;> cases x <;> rfl

end Sys2Proof

namespace Sys2Proof.Machine

/-! ### The filter (R133) -/

/-- The nearest multiple, halves away from zero, by the sign of the difference. -/
theorem filterStep_eq (k : Nat) (d : Int) : filterStep k d = if k = 0 then d
    else if 0 ≤ d then (d + 2 ^ (k - 1)) / 2 ^ k else -((-d + 2 ^ (k - 1)) / 2 ^ k) := by
  unfold filterStep
  by_cases hk : k = 0
  · rw [if_pos hk, if_pos hk]
  rw [if_neg hk, if_neg hk]
  push_cast
  rcases lt_trichotomy d 0 with hd | rfl | hd
  · rw [if_neg hd.not_ge, Int.sign_eq_neg_one_of_neg hd, abs_of_neg hd, neg_one_mul]
  · have hhalf : (2 : Int) ^ (k - 1) < 2 ^ k := pow_lt_pow_right₀ one_lt_two (by omega)
    rw [if_pos le_rfl, Int.sign_zero, zero_mul, zero_add, Int.ediv_eq_zero_of_lt (by positivity) hhalf]
  · rw [if_pos hd.le, Int.sign_eq_one_of_pos hd, abs_of_pos hd, one_mul]

/-! ### The record after a conversion (R127, R128, R135 to R137) -/

namespace ChannelRec

variable (r : ChannelRec)

/-- A bad conversion moves the state and the runs alone. -/
theorem bad_eq : r.bad = { r with state := r.bad.state, badRun := r.bad.badRun, goodRun := r.bad.goodRun } := by
  unfold bad
  split
  case h_1 | h_3 => split <;> rfl
  all_goals rfl

/-- A good conversion moves the state, F and the runs alone. -/
theorem good_eq (v : Int) : r.good v = { r with
    state := (r.good v).state, f := (r.good v).f, badRun := (r.good v).badRun, goodRun := (r.good v).goodRun } := by
  unfold good
  split
  case h_5 => split <;> rfl
  all_goals rfl

/-- The third bad conversion in a row ends SEEDING and SUSPECT in FAULTED; RECOVERING ends at the first. -/
theorem bad_state_badRun : (r.bad.state, r.bad.badRun) = match r.state with
    | .seeding => if 3 ≤ r.badRun + 1 then (.faulted, 3) else (.seeding, r.badRun + 1)
    | .good => (.suspect, 1)
    | .suspect => if 3 ≤ r.badRun + 1 then (.faulted, 3) else (.suspect, r.badRun + 1)
    | .faulted => (.faulted, min 3 (r.badRun + 1))
    | .recovering => (.faulted, 1) := by
  cases hs : r.state with
  | seeding | suspect =>
    simp only [bad, hs]
    split <;> rfl
  | good | faulted | recovering => simp only [bad, hs]

theorem bad_goodRun : r.bad.goodRun = if r.state = .recovering then 0 else r.goodRun := by
  cases hs : r.state with
  | seeding | suspect =>
    simp only [bad, hs]
    split <;> rfl
  | good | faulted | recovering =>
    simp only [bad, hs]
    rfl

/-- F is seeded in SEEDING and at the fifth good conversion of RECOVERING, filtered in GOOD and SUSPECT, held otherwise. -/
theorem good_state_f (v : Int) : ((r.good v).state, (r.good v).f) = match r.state with
    | .seeding => (.good, v)
    | .good => (.good, r.filtered v)
    | .suspect => (.good, r.filtered v)
    | .faulted => (.recovering, r.f)
    | .recovering => if 5 ≤ r.goodRun + 1 then (.good, v) else (.recovering, r.f) := by
  cases hs : r.state with
  | seeding | good | suspect | faulted => simp only [ChannelRec.good, hs]
  | recovering =>
    simp only [ChannelRec.good, hs]
    split <;> rfl

theorem good_badRun (v : Int) : (r.good v).badRun = if r.state = .recovering then r.badRun else 0 := by
  cases hs : r.state with
  | seeding | good | suspect | faulted =>
    simp only [ChannelRec.good, hs]
    rfl
  | recovering =>
    simp only [ChannelRec.good, hs]
    split <;> rfl

theorem good_goodRun (v : Int) : (r.good v).goodRun = if r.state = .faulted then 1
    else if r.state ≠ .recovering then r.goodRun else if 5 ≤ r.goodRun + 1 then 0 else r.goodRun + 1 := by
  cases hs : r.state with
  | seeding | good | suspect | faulted =>
    simp only [ChannelRec.good, hs]
    rfl
  | recovering =>
    simp only [ChannelRec.good, hs]
    split <;> rfl

variable {r} {b : Nat → Int} {count : Nat}

theorem afterCount_of_bad (h : count < 48 ∨ 4047 < count) : r.afterCount b count
    = ({ r with raw := count, faultKind := if count < 48 then some .short else some .open_ } : ChannelRec).bad := by
  unfold afterCount badKind
  by_cases hlow : count < 48
  · simp only [if_pos hlow]
  · simp only [if_neg hlow, if_pos (h.resolve_left hlow)]

theorem afterCount_of_good (hlow : 48 ≤ count) (hhigh : count ≤ 4047) : r.afterCount b count
    = ({ r with raw := count, converted := some (interpolate b count) } : ChannelRec).good (interpolate b count) := by
  unfold afterCount badKind
  simp only [if_neg hlow.not_gt, if_neg hhigh.not_gt]

theorem afterCount_raw : (r.afterCount b count).raw = count := by
  unfold afterCount
  split
  · rw [bad_eq]
  · rw [good_eq]

theorem afterCount_shift : (r.afterCount b count).shift = r.shift := by
  unfold afterCount
  split
  · rw [bad_eq]
  · rw [good_eq]

end ChannelRec

/-! ### The receivers of a report (R33, R125) -/

/-- The report's hand-off to each zone of the list whose trigger channel is the report's. -/
def zonesHanded (s : State) (rep : Report) (zs : List Zone) : List Handoff :=
  (zs.filter fun z => decide (s.eval.trigger.get z = rep.channel)).map fun z => .oneSecond z rep

/-- The report's hand-offs to the defrost controller and the air handler. -/
def othersHanded (rep : Report) : List Handoff :=
  match rep.channel with
  | .s3 => [.s3Report rep]
  | .s4 => [.s4Report rep, .airS4 rep]
  | .s5 => [.airS5 rep]
  | _ => []

theorem State.reportToZone_eq (s : State) (c : Channel) (z : Zone) :
    s.reportToZone c z = { s with events := s.events ++ zonesHanded s (s.reportOf c) [z] } := by
  have hchannel : (s.reportOf c).channel = c := rfl
  unfold State.reportToZone zonesHanded
  by_cases h : s.eval.trigger.get z = c
  · simp only [hchannel, List.filter_cons, List.filter_nil, h, decide_true, if_true]
    rfl
  · simp only [hchannel, List.filter_cons, List.filter_nil, h, decide_false, Bool.false_eq_true, if_false, List.map_nil,
      List.append_nil]

theorem State.reportToOthers_eq (s : State) (c : Channel) :
    s.reportToOthers c = { s with events := s.events ++ othersHanded (s.reportOf c) } := by
  cases c with
  | s0 | s1 | s2 =>
    show s = { s with events := s.events ++ [] }
    rw [List.append_nil]
  | s4 =>
    show ((s.hand _).hand _) = { s with events := s.events ++ ([_] ++ [_]) }
    rw [← List.append_assoc]
    rfl
  | s3 | s5 => rfl

theorem zonesHanded_append (s : State) (rep : Report) (zs zs' : List Zone) :
    zonesHanded s rep (zs ++ zs') = zonesHanded s rep zs ++ zonesHanded s rep zs' := by
  simp only [zonesHanded, List.filter_append, List.map_append]

theorem State.report_eq (s : State) (c : Channel) : s.report c = { s with
    events := s.events ++ zonesHanded s (s.reportOf c) [.fresh, .chill, .freeze] ++ othersHanded (s.reportOf c) } := by
  have hzones : zonesHanded s (s.reportOf c) [.fresh, .chill, .freeze] = zonesHanded s (s.reportOf c) [.fresh]
      ++ zonesHanded s (s.reportOf c) [.chill] ++ zonesHanded s (s.reportOf c) [.freeze] := by
    rw [← zonesHanded_append, ← zonesHanded_append]
    rfl
  rw [State.report, reportToZone_eq, reportToZone_eq, reportToZone_eq, reportToOthers_eq, hzones, ← List.append_assoc,
    ← List.append_assoc]
  rfl

/-! ### The command -/

/-- What a conversion of `c` that leaves the record `r` makes of `s`. -/
structure State.Converts (s t : State) (c : Channel) (r : ChannelRec) : Prop where
  frame : t = { s with meas := t.meas, events := t.events }
  corrections : t.meas.corrections = s.meas.corrections
  mains : t.meas.mains = s.meas.mains
  others : ∀ x, x ≠ c → t.channel x = s.channel x
  channel : t.channel c = r
  events : t.events = s.events
    ++ (if (s.channel c).state ≠ .faulted ∧ r.state = .faulted then [.raise .sensorFault] else [])
    ++ zonesHanded s ⟨c, r.state, r.f, r.converted⟩ [.fresh, .chill, .freeze]
    ++ othersHanded ⟨c, r.state, r.f, r.converted⟩

theorem exec_channelConversion (c : Channel) (count : Nat) (s : State) {r : ChannelRec}
    (hr : (s.channel c).afterCount (breakpoint s.meas.corrections c) count = r) :
    ∃ t, exec (.channelConversion c count) s = .next t ∧ s.Converts t c r := by
  let t : State := { s with
    meas := { s.meas with channels := s.meas.channels.set c r }
    events := s.events
      ++ (if (s.channel c).state ≠ .faulted ∧ r.state = .faulted then [.raise .sensorFault] else []) }
  have hexec : exec (.channelConversion c count) s = .next (t.report c) := by
    change execChannelConversion c count s = _
    rw [execChannelConversion, hr]
    by_cases hf : (s.channel c).state ≠ .faulted ∧ r.state = .faulted
    · simp only [t, entersFaulted, decide_eq_true hf, if_pos hf, if_true]
      rfl
    · simp only [t, entersFaulted, decide_eq_false hf, if_neg hf, Bool.false_eq_true, if_false, List.append_nil]
      rfl
  have hchannel : t.channel c = r := (PerChannel.get_set ..).trans (if_pos rfl)
  have hrep : t.reportOf c = ⟨c, r.state, r.f, r.converted⟩ := by rw [State.reportOf, hchannel]
  rw [State.report_eq, hrep] at hexec
  exact ⟨_, hexec, rfl, rfl, rfl, fun x hx => (PerChannel.get_set ..).trans (if_neg hx), hchannel, rfl⟩

/-- Settles O28: a bad and a good conversion each move the record by its state, and the report of the record that results is
handed on. -/
theorem conversionMovesAndReportsTheChannel : Obligations.ConversionMovesAndReportsTheChannel := by
  intro c count s r b v third half step
  obtain ⟨r', hr'⟩ : ∃ r', r.afterCount (breakpoint s.meas.corrections c) count = r' := ⟨_, rfl⟩
  obtain ⟨t, hexec, ht⟩ := exec_channelConversion c count s hr'
  refine ⟨t, hexec, ht.frame, ht.corrections, ht.mains, ht.others, ?_⟩
  rw [ht.channel]
  refine ⟨hr' ▸ ChannelRec.afterCount_raw, hr' ▸ ChannelRec.afterCount_shift, fun hbad => ?bad,
    fun hlow hhigh => ?good, ht.events⟩
  case bad =>
    let r0 : ChannelRec := { r with raw := count, faultKind := if count < 48 then some .short else some .open_ }
    have hmoved : r' = r0.bad := hr'.symm.trans (ChannelRec.afterCount_of_bad hbad)
    rw [hmoved]
    refine ⟨?_, ?_, ?_, r0.bad_state_badRun, r0.bad_goodRun⟩
    all_goals rw [r0.bad_eq]
  case good =>
    let r0 : ChannelRec := { r with raw := count, converted := some v }
    have hmoved : r' = r0.good v := hr'.symm.trans (ChannelRec.afterCount_of_good hlow hhigh)
    have hfiltered : r0.filtered v = r.f + step (v - r.f) := congrArg (r.f + ·) (filterStep_eq _ _)
    rw [hmoved, ← hfiltered]
    refine ⟨?_, ?_, r0.good_state_f v, r0.good_badRun v, r0.good_goodRun v⟩
    all_goals rw [r0.good_eq v]

end Sys2Proof.Machine
end

section
/-! CORRECTION SET (R130, R131): its checks in their order, and the slot that it writes. -/

namespace Sys2Proof.Machine

open Sys2Proof.Safety

/-! ### The checks (R130) -/

theorem decreasing_iff {slots : List (Option Correction)} {c : Channel} :
    decreasing slots c = true ↔ ∀ i < 16, breakpoint slots c (i + 1) < breakpoint slots c i := by
  simp only [decreasing, List.all_eq_true, List.mem_range, decide_eq_true_iff]

theorem mem_touchedChannels {old new : Option Correction} {c : Channel} :
    c ∈ touchedChannels old new ↔ ∃ k, (old = some k ∨ new = some k) ∧ k.channel = c := by
  simp only [touchedChannels, List.mem_append, Option.mem_toList, Option.map_eq_some_iff, or_and_right,
    exists_or]

/-- Check 5: each channel named by the old or the new content of the slot keeps falling breakpoints. -/
def correctionFits (slots : List (Option Correction)) (slot : Nat) (new : Option Correction) : Prop :=
  ∀ k, slots.getD slot none = some k ∨ new = some k →
    ∀ i < 16, breakpoint (slots.set slot new) k.channel (i + 1) < breakpoint (slots.set slot new) k.channel i

theorem all_decreasing_iff_fits {slots : List (Option Correction)} {slot : Nat} {new : Option Correction} :
    (touchedChannels (slots.getD slot none) new).all (decreasing (slots.set slot new)) = true
      ↔ correctionFits slots slot new := by
  simp only [List.all_eq_true, mem_touchedChannels, decreasing_iff, correctionFits]
  constructor
  · exact fun h k hk => h k.channel ⟨k, hk, rfl⟩
  · rintro h _ ⟨k, hk, rfl⟩
    exact h k hk

theorem slotValue_isSome_iff {c : Channel} {i : Nat} {x : Option Correction} :
    (slotValue c i x).isSome = true ↔ ∃ k, x = some k ∧ k.channel = c ∧ k.index = i := by
  cases x with
  | none => simp [slotValue]
  | some k => simp [slotValue]

/-- Check 3: another slot holds the same channel and index. -/
theorem heldElsewhere_iff {slots : List (Option Correction)} {slot : Nat} {k : Correction} :
    heldElsewhere slots slot k = true ↔ ∃ i x, i < 4 ∧ i ≠ slot ∧ slots.getD i none = some x ∧
      x.channel = k.channel ∧
      x.index = k.index := by
  simp only [heldElsewhere, List.any_eq_true, List.mem_range, Bool.and_eq_true, decide_eq_true_iff, slotValue_isSome_iff,
    exists_and_left]

/-! ### The write (R131) -/

/-- The state once the content has been written into the slot. -/
def State.withCorrection (s : State) (slot : Nat) (new : Option Correction) : State :=
  s.setMeas { s.meas with corrections := s.meas.corrections.set slot new }

theorem State.writeCorrection_of_fits {s : State} {slot : Nat} {new : Option Correction}
    (h : correctionFits s.meas.corrections slot new) :
    s.writeCorrection slot new = (s.withCorrection slot new, okReply (correctionBytes slot new)) :=
  if_pos (all_decreasing_iff_fits.2 h)

theorem State.writeCorrection_of_breaks {s : State} {slot : Nat} {new : Option Correction}
    (h : ¬ correctionFits s.meas.corrections slot new) : s.writeCorrection slot new = (s, refuse .nonmonotonic) :=
  if_neg (all_decreasing_iff_fits.not.2 h)

theorem i16_toInt (v : Half) : i16 v.toInt = halfBytes v := by rw [i16, BitVec.ofInt_toInt]

theorem correctionBytes_none (slot : Byte) : correctionBytes slot.toNat none = [slot, 0, 0, 0, 0, 0] := by
  rw [correctionBytes, byteOf_toNat]
  rfl

theorem correctionBytes_some {channel : Byte} {c : Channel} (hc : channelOf channel = some c) (slot index : Byte)
    (value : Half) : correctionBytes slot.toNat (some ⟨c, index.toNat, value.toInt⟩)
      = [slot, 1, channel, index] ++ halfBytes value := by
  simp only [correctionBytes, ← channelOf_eq_some_iff.1 hc, byteOf_toNat, i16_toInt]

/-! ### The request, by the check that ends it -/

section Request

variable {slot op channel index : Byte} {value : Half} {s : State} {c : Channel}

theorem correctionSet_of_undefined (h : 3 < slot.toNat ∨ 1 < op.toNat) :
    correctionSet slot op channel index value s = (s, refuse .field) := if_pos h

theorem correctionSet_of_clear (hslot : slot.toNat ≤ 3) (hop : op.toNat = 0) :
    correctionSet slot op channel index value s = s.writeCorrection slot.toNat none := by
  have hzero : op = 0 := BitVec.eq_of_toNat_eq hop
  rw [correctionSet, if_neg (by omega), if_pos hzero]

theorem correctionSet_of_unknown (hslot : slot.toNat ≤ 3) (hop : op.toNat = 1) (hc : channelOf channel = none) :
    correctionSet slot op channel index value s = (s, refuse .field) := by
  have hone : op = 1 := BitVec.eq_of_toNat_eq hop
  rw [correctionSet, if_neg (by omega), if_neg (by rw [hone]; decide), hc]

/-- The checks of a write, once slot, operation and channel have passed. -/
theorem correctionSet_of_write (hslot : slot.toNat ≤ 3) (hop : op.toNat = 1) (hc : channelOf channel = some c) :
    correctionSet slot op channel index value s =
      if 16 < index.toNat then (s, refuse .field)
      else if heldElsewhere s.meas.corrections slot.toNat ⟨c, index.toNat, value.toInt⟩ then (s, refuse .duplicate)
      else if value.toInt < -500 ∨ 700 < value.toInt then (s, refuse .nonmonotonic)
      else s.writeCorrection slot.toNat (some ⟨c, index.toNat, value.toInt⟩) := by
  have hone : op = 1 := BitVec.eq_of_toNat_eq hop
  rw [correctionSet, if_neg (by omega), if_neg (by rw [hone]; decide), hc]
  rfl

/-- Check 2: a channel or an index that names nothing. -/
theorem correctionSet_of_unnamed (hslot : slot.toNat ≤ 3) (hop : op.toNat = 1)
    (h : 5 < channel.toNat ∨ 16 < index.toNat) :
    correctionSet slot op channel index value s = (s, refuse .field) := by
  cases hc : channelOf channel with
  | none => exact correctionSet_of_unknown hslot hop hc
  | some c =>
    have hindex : 16 < index.toNat := h.resolve_left fun hlt => by cases (channelOf_eq_none_iff.2 hlt).symm.trans hc
    rw [correctionSet_of_write hslot hop hc, if_pos hindex]

end Request

/-- A write that passes its checks changes the slot, and its reply shows it. -/
theorem exec_correctionSet_written {slot op channel index : Byte} {value : Half} {s : State} {new : Option Correction}
    (ht : Taken (.correctionSet slot op channel index value) s) (hfits : correctionFits s.meas.corrections slot.toNat new)
    (hact : ∀ l, correctionSet slot op channel index value (s.setLink l)
      = (s.setLink l).writeCorrection slot.toNat new) :
    exec (.correctionSet slot op channel index value) s
      = .next (answered (.correctionSet slot op channel index value) s (s.withCorrection slot.toNat new)
        ⟨.ok, false, correctionBytes slot.toNat new⟩) := by
  have hwritten (l : LinkPort) := (hact l).trans (State.writeCorrection_of_fits hfits)
  refine congrArg _ ((State.serve_answered rfl ht ?_).trans ?_)
  · rw [hwritten]
    rfl
  · rw [hwritten]
    rfl

/-- Settles O29: the five checks in their order, and the slot emptied or written. -/
theorem correctionSetIsCheckedAndWritten : Obligations.CorrectionSetIsCheckedAndWritten := by
  intro slot op channel index value s c slots falls old fits written ht
  refine ⟨fun h => ?field, fun hslot hop => ⟨fun hfits => ?cleared, fun hbreaks => ?clearBreaks⟩,
    fun hslot hop => ⟨fun h => ?unnamed, fun ch hch hindex => ⟨fun htwice => ?duplicate, fun hnew hbad => ?breaks,
      fun hnew hrange hfits => ?written⟩⟩⟩
  case field => exact congrArg _ (State.serve_refused rfl ht fun _ => correctionSet_of_undefined h)
  case cleared =>
    have hexec := exec_correctionSet_written (new := none) ht hfits fun _ => correctionSet_of_clear hslot hop
    rw [correctionBytes_none] at hexec
    exact hexec
  case clearBreaks =>
    exact congrArg _ (State.serve_refused rfl ht fun _ =>
      (correctionSet_of_clear hslot hop).trans (State.writeCorrection_of_breaks hbreaks))
  case unnamed => exact congrArg _ (State.serve_refused rfl ht fun _ => correctionSet_of_unnamed hslot hop h)
  case duplicate =>
    refine congrArg _ (State.serve_refused rfl ht fun _ => ?_)
    rw [correctionSet_of_write hslot hop hch, if_neg hindex.not_gt, if_pos (heldElsewhere_iff.2 htwice)]
  case breaks =>
    refine congrArg _ (State.serve_refused rfl ht fun _ => ?_)
    rw [correctionSet_of_write hslot hop hch, if_neg hindex.not_gt, if_neg (heldElsewhere_iff.not.2 hnew)]
    by_cases hout : value.toInt < -500 ∨ 700 < value.toInt
    · exact if_pos hout
    · rw [if_neg hout]
      exact State.writeCorrection_of_breaks fun hfits => hbad ⟨by omega, hfits⟩
  case written =>
    have hexec := exec_correctionSet_written (new := some ⟨ch, index.toNat, value.toInt⟩) ht hfits fun _ => by
      rw [correctionSet_of_write hslot hop hch, if_neg hindex.not_gt, if_neg (heldElsewhere_iff.not.2 hnew),
        if_neg (by omega)]
    rw [correctionBytes_some hch] at hexec
    exact hexec

end Sys2Proof.Machine
end

section
/-! MAINS_SAMPLE (R140): the sample by the mains state, with the runs that declare SAG and NORMAL. -/

namespace Sys2Proof.Machine

/-! ### The record after a sample -/

namespace Mains

variable {m : Mains} {count : Nat}

theorem sampled_of_normal (h : m.state = .normal) : m.sampled count =
    if count < m.sag then
      if 2 ≤ m.lowRun + 1 then ({ m with sample := count, state := .sag, lowRun := 0, highRun := 0 }, some .sag)
      else ({ m with sample := count, lowRun := m.lowRun + 1 }, none)
    else ({ m with sample := count, lowRun := 0 }, none) := by
  simp only [sampled, h]

theorem sampled_of_sag (h : m.state = .sag) : m.sampled count =
    if count < m.recover then ({ m with sample := count, highRun := 0 }, none)
    else if 50 ≤ m.highRun + 1 then
      ({ m with sample := count, state := .normal, lowRun := 0, highRun := 0 }, some .normal)
    else ({ m with sample := count, highRun := m.highRun + 1 }, none) := by
  simp only [sampled, h]

end Mains

/-! ### The command -/

section Command

variable {s : State} {count : Nat} {m : Mains}

theorem exec_mainsSample_quiet (h : s.meas.mains.sampled count = (m, none)) :
    exec (.mainsSample count) s = .next { s with meas := { s.meas with mains := m } } := by
  change execMainsSample count s = _
  rw [execMainsSample, h]
  rfl

theorem exec_mainsSample_declares {x : MainsState} (h : s.meas.mains.sampled count = (m, some x)) :
    exec (.mainsSample count) s
      = .next { s with meas := { s.meas with mains := m }, events := s.events ++ [.mains x] } := by
  change execMainsSample count s = _
  rw [execMainsSample, h]
  rfl

end Command

/-- Settles O30: in each mains state a sample extends its run, ends it, or declares the other state. -/
theorem mainsSampleDeclaresSagAndNormal : Obligations.MainsSampleDeclaresSagAndNormal := by
  intro count s m put
  refine ⟨fun hn => ⟨fun hlow => ⟨fun hfirst => ?first, fun hsecond => ?sag⟩, fun hhigh => ?above⟩,
    fun hs => ⟨fun hlow => ?below, fun hhigh => ⟨fun hshort => ?rises, fun hfull => ?normal⟩⟩⟩
  case first =>
    refine exec_mainsSample_quiet ((Mains.sampled_of_normal hn).trans ?_)
    rw [if_pos hlow, if_neg (by omega), hfirst]
  case sag =>
    refine exec_mainsSample_declares ((Mains.sampled_of_normal hn).trans ?_)
    rw [if_pos hlow, if_pos (by omega)]
  case above => exact exec_mainsSample_quiet ((Mains.sampled_of_normal hn).trans (if_neg hhigh.not_gt))
  case below => exact exec_mainsSample_quiet ((Mains.sampled_of_sag hs).trans (if_pos hlow))
  case rises =>
    refine exec_mainsSample_quiet ((Mains.sampled_of_sag hs).trans ?_)
    rw [if_neg hhigh.not_gt, if_neg (by omega)]
  case normal =>
    refine exec_mainsSample_declares ((Mains.sampled_of_sag hs).trans ?_)
    rw [if_neg hhigh.not_gt, if_pos (by omega)]

end Sys2Proof.Machine
end

section
/-! DOOR_SAMPLE and DOOR_AJAR (R142 to R150): the debounced level, the events of a door, and what each leaves alone. -/

namespace Sys2Proof

theorem PerDoor.get_set {α : Type} (p : PerDoor α) (d x : Door) (a : α) :
    (p.set d a).get x = if x = d then a else p.get x := by
  cases d <;> cases x <;> rfl

theorem PerDoor.set_set {α : Type} (p : PerDoor α) (d : Door) (a b : α) : (p.set d a).set d b = p.set d b := by
  cases d <;> rfl

end Sys2Proof

namespace Sys2Proof.Machine

open Sys2Proof.Safety

/-! ### The vote and the debounce (R142, R143) -/

/-- The majority is the first level where another agrees with it, and otherwise the level of the other two (R142). -/
theorem vote_eq (a b c : Level) : vote a b c = if a = b ∨ a = c then a else b := by
  cases a <;> cases b <;> cases c <;> rfl

theorem exec_doorSample (d : Door) (a b c : Level) (s : State) :
    exec (.doorSample d a b c) s = .next (s.sampleDoor d (if a = b ∨ a = c then a else b)) := by
  rw [← vote_eq]
  rfl

namespace DoorRec

variable {r : DoorRec} {x : Level} {required : Nat}

theorem debounced_of_agrees (h : x = r.level) : r.debounced x required = ({ r with run := 0 }, false) := if_pos h

theorem debounced_of_short (h : x ≠ r.level) (hrun : r.run + 1 < required) :
    r.debounced x required = ({ r with run := r.run + 1 }, false) :=
  (if_neg h).trans (if_neg hrun.not_ge)

theorem debounced_of_full (h : x ≠ r.level) (hrun : required ≤ r.run + 1) :
    r.debounced x required = ({ r with level := x, run := 0 }, true) :=
  (if_neg h).trans (if_pos hrun)

end DoorRec

/-! ### The events of a door (R146 to R148, R150) -/

/-- The state once an event of the door has left the record `r` and the timebase `time`: the event goes to the zone
evaluator and to the air handler, and the rest stays. -/
def State.doorMoved (s : State) (d : Door) (r : DoorRec) (time : Timebase) (e : DoorEvent) : State :=
  { s with
    doors := { s.doors with recs := s.doors.recs.set d r }
    time := time
    events := s.events ++ [.doorToZone d e, .airDoor] }

section Sample

variable {s : State} {d : Door} {x : Level} {r : DoorRec} {time : Timebase} {e : DoorEvent}

theorem State.setDoor_setDoor (r' : DoorRec) : (s.setDoor d r).setDoor d r' = s.setDoor d r' := by
  simp only [State.setDoor, State.setDoors, PerDoor.set_set]

theorem State.setDoor_door_self : (s.setDoor d r).door d = r := (PerDoor.get_set ..).trans (if_pos rfl)

theorem State.doorMoved_eq :
    ((s.setDoor d r).setTime time).handDoor d e = s.doorMoved d r time e := by
  simp [State.handDoor, State.hand, State.setEvents, State.setDoor, State.setDoors, State.setTime, State.doorMoved]

theorem State.doorMoved_door_self : (s.doorMoved d r time e).door d = r := (PerDoor.get_set ..).trans (if_pos rfl)

theorem State.doorMoved_door_other {y : Door} (hy : y ≠ d) : (s.doorMoved d r time e).door y = s.door y :=
  (PerDoor.get_set ..).trans (if_neg hy)

/-- A sample that completes no run leaves the record counted and nothing else (R143). -/
theorem State.sampleDoor_of_quiet (h : (s.door d).debounced x (samplesRequired s.doors.rejection) = (r, false)) :
    s.sampleDoor d x = s.setDoor d r := by
  simp only [State.sampleDoor, h, Bool.false_eq_true, if_false]

/-- The run completed towards the high level opens the door, and its DOOR_AJAR waits the ajar time (R146). -/
theorem State.sampleDoor_of_high (h : (s.door d).debounced .high (samplesRequired s.doors.rejection) = (r, true)) :
    s.sampleDoor d .high
      = s.doorMoved d (r.opened s.time.uptime) (s.time.wait (.doorAjar d) s.doors.ajarTime) .open_ := by
  simp only [State.sampleDoor, h, if_true, State.openDoor, State.setDoor_setDoor, State.setDoor_door_self,
    State.insertAfter_eq]
  exact State.doorMoved_eq

/-- The run completed towards the low level closes the door, and its DOOR_AJAR goes (R148). -/
theorem State.sampleDoor_of_low (h : (s.door d).debounced .low (samplesRequired s.doors.rejection) = (r, true)) :
    s.sampleDoor d .low = s.doorMoved d (r.closed s.time.uptime) (s.time.without (.doorAjar d)) .close := by
  simp only [State.sampleDoor, h, if_true, State.closeDoor, State.setDoor_setDoor, State.setDoor_door_self,
    State.removeDeadline_eq]
  exact State.doorMoved_eq

end Sample

theorem Timebase.due_of_wait (x : Timebase) (k : DeadlineKey) (secs : Nat) :
    ∀ e ∈ (x.wait k secs).deadlines ++ (x.wait k secs).expiries,
      e.key = k → e.due = ⟨x.uptime + secs, x.ms⟩ := by
  intro e he hk
  simp only [List.mem_append, mem_wait_deadlines, mem_wait_expiries, hk, ne_eq, not_true_eq_false, and_false, or_false]
    at he
  rw [he]

/-! ### DOOR_AJAR (R147) -/

section Ajar

variable {s : State} {d : Door} {due : Instant}

theorem exec_doorAjar_of_opened (hd : Delivers s (.doorAjar d) due) (h : (s.door d).state = .opened) :
    exec (.doorAjar d) s = .next { expired s (.doorAjar d) with
      doors := { s.doors with recs := s.doors.recs.set d { s.door d with state := .ajar } }
      events := s.events ++ [.raise .doorAjar, .doorToZone d .ajar, .airDoor] } := by
  refine congrArg _ ((State.deliver_of_delivers hd _).trans ((if_pos h).trans ?_))
  simp [State.handDoor, State.raiseNotice, State.hand, State.setEvents, State.setDoor, State.setDoors, State.door,
    expired]

theorem exec_doorAjar_of_other (hd : Delivers s (.doorAjar d) due) (h : (s.door d).state ≠ .opened) :
    exec (.doorAjar d) s = .next (expired s (.doorAjar d)) :=
  congrArg _ ((State.deliver_of_delivers hd _).trans (if_neg h))

end Ajar

/-- Settles O31: the vote counts against the debounced level, opens or closes, and DOOR_AJAR acts on an OPEN door alone. -/
theorem doorsOpenCloseAndGoAjar : Obligations.DoorsOpenCloseAndGoAjar := by
  refine ⟨?sample, fun d s due hd => ⟨exec_doorAjar_of_opened hd, exec_doorAjar_of_other hd⟩⟩
  case sample =>
    intro d a b c s r x needed put openFor
    have hexec : exec (.doorSample d a b c) s = .next (s.sampleDoor d x) := exec_doorSample d a b c s
    clear_value x
    rw [hexec]
    refine ⟨fun h => ?agrees, fun h hrun => ?counts, fun h hrun => ?moves⟩
    case agrees => exact congrArg _ (State.sampleDoor_of_quiet (DoorRec.debounced_of_agrees h))
    case counts => exact congrArg _ (State.sampleDoor_of_quiet (DoorRec.debounced_of_short h hrun))
    case moves =>
      have hfull := DoorRec.debounced_of_full h hrun
      cases x with
      | high =>
        refine ⟨_, congrArg _ (State.sampleDoor_of_high hfull), rfl, fun _ => State.doorMoved_door_other, ?kept,
          fun _ => ⟨State.doorMoved_door_self, ?due, s.time.due_of_wait _ _, rfl⟩, nofun⟩
        case kept => exact (timeKept_iff_apart ..).2 (Timebase.apart_wait _ _ (List.mem_singleton_self _))
        case due => exact (Timebase.mem_wait_deadlines ..).2 (.inl rfl)
      | low =>
        refine ⟨_, congrArg _ (State.sampleDoor_of_low hfull), rfl, fun _ => State.doorMoved_door_other, ?kept,
          nofun, fun _ => ⟨State.doorMoved_door_self, s.time.not_mem_without _, rfl⟩⟩
        exact (timeKept_iff ..).2 (Timebase.without_without ..)

end Sys2Proof.Machine
end

section
/-! DOOR QUERY (R152): the record as it is reported, and as the query leaves it. -/

namespace Sys2Proof.Machine

open Sys2Proof.Safety

/-! ### The door of the request (R185) -/

theorem doorOf_eq_some_iff {b : Byte} {d : Door} : doorOf b = some d ↔ b.toNat = doorCode d := by
  unfold doorOf
  split <;> cases d <;> simp_all [doorCode]

theorem doorOf_of_lt {b : Byte} (h : 3 < b.toNat) : doorOf b = none := by
  rw [Option.eq_none_iff_forall_ne_some]
  intro d hd
  rw [doorOf_eq_some_iff.1 hd] at h
  cases d <;> revert h <;> decide

theorem byteOf_doorCode {b : Byte} {d : Door} (h : doorOf b = some d) : byteOf (doorCode d) = b := by
  rw [← doorOf_eq_some_iff.1 h, byteOf_toNat]

/-! ### The record -/

/-- The seconds that DOOR QUERY reports of a door: none of a closed one (R152). -/
theorem DoorRec.soFar_eq (r : DoorRec) (uptime : Nat) : (if r.isOpen then r.openFor uptime else 0)
    = if r.state = .closed then 0 else min 65535 (uptime - r.openedAt.getD uptime) := by
  by_cases h : r.state = .closed <;> simp [DoorRec.isOpen, DoorRec.openFor, h]

theorem DoorRec.bytes_eq (r : DoorRec) (d : Door) (uptime : Nat) : r.bytes d uptime =
    [byteOf (doorCode d), byteOf r.state.code, byteOf ((if r.openedAt.isSome then 1 else 0)
        + (if r.lastDuration.isSome then 2 else 0) + (if r.unread then 4 else 0) + (if r.overflow then 8 else 0))]
      ++ u32 (r.openedAt.getD 0) ++ u16 (r.lastDuration.getD 0) ++ u16 r.count
      ++ u16 (if r.state = .closed then 0 else min 65535 (uptime - r.openedAt.getD uptime)) := by
  rw [DoorRec.bytes, DoorRec.soFar_eq]
  rfl

theorem DoorRec.queried_eq (r : DoorRec) (clear : Byte) : r.queried (decide (clear ≠ 0)) =
    if clear = 0 then { r with unread := false } else { r with unread := false, overflow := false, count := 0 } := by
  by_cases h : clear = 0 <;> simp [DoorRec.queried, h]

/-! ### The request -/

theorem doorQuery_of_none {door clear : Byte} {s : State} (h : doorOf door = none) :
    doorQuery door clear s = (s, refuse .field) := by
  simp only [doorQuery, h]

theorem doorQuery_of_some {door clear : Byte} {s : State} {d : Door} (h : doorOf door = some d) :
    doorQuery door clear s = (s.setDoor d ((s.door d).queried (decide (clear ≠ 0))),
      okReply ((s.door d).bytes d s.time.uptime)) := by
  simp only [doorQuery, h]

/-- Settles O32: the refusal, and the record reported as it stands before the query clears its flags. -/
theorem doorQueryReportsAndClears : Obligations.DoorQueryReportsAndClears := by
  intro door clear s ht
  refine ⟨fun h => ?field, ?answered⟩
  case field => exact congrArg _ (State.serve_refused rfl ht fun _ => doorQuery_of_none (doorOf_of_lt h))
  case answered =>
    intro d hd r flags soFar r'
    refine congrArg _ ((State.serve_answered rfl ht ?_).trans ?_)
    · rw [doorQuery_of_some hd]
      rfl
    · rw [doorQuery_of_some hd, DoorRec.queried_eq, DoorRec.bytes_eq, byteOf_doorCode hd]
      rfl

end Sys2Proof.Machine
end

section
/-! What the air handler does on the events that it takes (R156, R160, R163): the fan delay and the valve in closed form, and
the recomputation that follows. -/

namespace Sys2Proof.Machine

open Sys2Proof.Safety

/-! ### The fan delay (R160) -/

theorem Report.releasesFan_iff (r : Report) : r.releasesFan = true ↔ r.state ≠ .good ∨ r.f ≤ -50 := decide_eq_true_iff

/-- The fan delay and the deadlines after a change of the path state (R160). -/
def State.delayOnPath (s : State) (entersFreeze : Bool) : Option FanDelay × Timebase :=
  if s.arb.state = .runFreeze then
    if entersFreeze then
      if (s.reportOf .s4).releasesFan then (some .ended, s.time.without .fanDelay)
      else (some .active, s.time.wait .fanDelay 90)
    else (s.air.fanDelay, s.time)
  else (none, s.time.without .fanDelay)

/-- The fan delay and the deadlines after an S4 report (R160). -/
def State.delayOnS4 (s : State) (r : Report) : Option FanDelay × Timebase :=
  if s.air.fanDelay = some .active ∧ r.releasesFan then (some .ended, s.time.without .fanDelay)
  else (s.air.fanDelay, s.time)

theorem State.fanDelayStep_eq (s : State) (entersFreeze : Bool) : s.fanDelayStep entersFreeze = { s with
    air := { s.air with fanDelay := (s.delayOnPath entersFreeze).1 }, time := (s.delayOnPath entersFreeze).2 } := by
  unfold State.fanDelayStep State.startFanDelay State.delayOnPath
  split_ifs <;> rfl

theorem State.airS4_eq (s : State) (r : Report) : s.airS4 r = { s with
    air := { s.air with fanDelay := (s.delayOnS4 r).1 }, time := (s.delayOnS4 r).2 } := by
  unfold State.airS4 State.delayOnS4
  split_ifs <;> rfl

/-- A change of the path state touches no deadline but FAN_DELAY. -/
theorem State.delayOnPath_without (s : State) (entersFreeze : Bool) :
    (s.delayOnPath entersFreeze).2.without .fanDelay = s.time.without .fanDelay := by
  unfold State.delayOnPath Timebase.wait
  split_ifs <;> simp

/-- An S4 report touches no deadline but FAN_DELAY. -/
theorem State.delayOnS4_without (s : State) (r : Report) :
    (s.delayOnS4 r).2.without .fanDelay = s.time.without .fanDelay := by
  unfold State.delayOnS4
  split_ifs <;> simp

/-! ### The valve target taken (R156, R163) -/

/-- What the air handler reports as it takes the valve target: the arrival of a valve that rests there (R163). -/
def State.valveReport (s : State) : List Handoff :=
  if s.air.valveMotion = .atRest ∧ s.air.valvePos = s.arb.valveTarget then
    [.valveToArbiter s.air.valvePos, .valveToDefrost s.air.valvePos]
  else []

theorem State.takeValve_eq (s : State) : s.takeValve = { s with
    air := { s.air with
      valveTarget := s.arb.valveTarget
      valveMotion := if s.air.valveMotion = .atRest ∧ s.air.valvePos ≠ s.arb.valveTarget then .moving
        else s.air.valveMotion }
    events := s.events ++ s.valveReport } := by
  unfold State.valveReport
  by_cases hrest : s.air.valveMotion = .atRest
  · by_cases hthere : s.air.valvePos = s.arb.valveTarget
    · rw [State.takeValve_of_there hrest hthere, State.reportValve_eq, if_neg fun h => h.2 hthere, if_pos ⟨hrest, hthere⟩]
      rfl
    · rw [State.takeValve_of_elsewhere hrest hthere, if_pos ⟨hrest, hthere⟩, if_neg fun h => hthere h.2, List.append_nil]
      rfl
  · rw [State.takeValve_of_busy hrest, if_neg fun h => hrest h.1, if_neg fun h => hrest h.1, List.append_nil]
    rfl

/-- A change of the path state brings the path state, its fan delay and the valve target (R156, R160, R163). -/
theorem State.airPathChange_eq (s : State) (entersFreeze : Bool) : s.airPathChange entersFreeze = { s with
    air := { s.air with
      path := s.arb.state
      fanDelay := (s.delayOnPath entersFreeze).1
      valveTarget := s.arb.valveTarget
      valveMotion := if s.air.valveMotion = .atRest ∧ s.air.valvePos ≠ s.arb.valveTarget then .moving
        else s.air.valveMotion }
    time := (s.delayOnPath entersFreeze).2
    events := s.events ++ s.valveReport } := by
  rw [State.airPathChange, State.fanDelayStep_eq, State.takeValve_eq]
  rfl

/-! ### The event taken (R156) -/

/-- Is this what an event of the kind brings? -/
def AirWork.IsOf (k : AirKind) : AirWork → Prop
  | .none => k ≠ .pathState ∧ k ≠ .s4Report
  | .pathState _ => k = .pathState
  | .s4 _ => k = .s4Report
  | .s5 _ => k ≠ .pathState ∧ k ≠ .s4Report

theorem airEvent_isOf {k : AirKind} {e : Handoff} {w : AirWork} (h : airEvent k e = some w) : w.IsOf k := by
  unfold airEvent at h
  split at h <;> cases h <;> simp [AirWork.IsOf]

theorem execAirRecompute_of_taken {k : AirKind} {s : State} {w : AirWork} {rest : List Handoff}
    (h : takeFirst (airEvent k) s.events = some (w, rest)) :
    exec (.airRecompute k) s = .next ((s.setEvents rest).airTake w) := congrArg _ (State.takeEvent_of_some _ h)

@[simp] theorem State.recomputeAirAt_fanDelay (s : State) (amb : Int) :
    (s.recomputeAirAt amb).air.fanDelay = s.air.fanDelay := by
  rw [State.recomputeAirAt, State.setAir_air, aimDamper_eq]

@[simp] theorem State.recomputeAir_fanDelay (s : State) : s.recomputeAir.air.fanDelay = s.air.fanDelay :=
  s.recomputeAirAt_fanDelay _

/-! ### The laws after the event's own work -/

/-- What an event of the air handler makes of `s`: the work leaves the record `a`, the fan delay aside, with the hand-offs
`events`; the recomputation at the ambient temperature `amb` follows (R156). -/
structure State.AirTaken (s t : State) (a : Air) (events : List Handoff) (amb : Int) : Prop where
  frame : t = { s with air := t.air, time := t.time, events := events }
  laws : Recomputed { s with air := { a with fanDelay := t.air.fanDelay } } t amb
  kept : TimeKept [.fanDelay] s t

/-- A recomputation after work that changes the record, FAN_DELAY and the hand-offs alone. -/
theorem State.airTaken_recomputeAirAt (s : State) {a : Air} {x : Timebase} {events : List Handoff} (amb : Int)
    (hx : x.without .fanDelay = s.time.without .fanDelay) :
    s.AirTaken (State.recomputeAirAt { s with air := a, time := x, events := events } amb) a events amb where
  frame := rfl
  laws := by
    rw [State.recomputeAirAt_fanDelay]
    exact State.recomputeAirAt_recomputed { s with air := a, time := x, events := events } amb
  kept := (timeKept_iff .fanDelay _ _).2 hx

/-- The air handler's record, the fan delay aside, once the path state and the valve target have been taken. -/
def State.pathTaken (s : State) : Air := { s.air with
  path := s.arb.state
  valveTarget := s.arb.valveTarget
  valveMotion := if s.air.valveMotion = .atRest ∧ s.air.valvePos ≠ s.arb.valveTarget then .moving
    else s.air.valveMotion }

theorem State.airTaken_path (s : State) (rest : List Handoff) (b : Bool) :
    s.AirTaken ((s.setEvents rest).airTake (.pathState b)) s.pathTaken (rest ++ s.valveReport)
      (ambientOf (standing s .s5)) := by
  rw [State.airTake, State.airPathChange_eq]
  have h := s.airTaken_recomputeAirAt (a := { s.pathTaken with fanDelay := (s.delayOnPath b).1 })
    (events := rest ++ s.valveReport) (ambientOf (standing s .s5)) (s.delayOnPath_without b)
  exact ⟨h.frame, h.laws, h.kept⟩

theorem State.airTaken_s4 (s : State) (rest : List Handoff) (r : Report) :
    s.AirTaken ((s.setEvents rest).airTake (.s4 r)) s.air rest (ambientOf (standing s .s5)) := by
  rw [State.airTake, State.airS4_eq]
  have h := s.airTaken_recomputeAirAt (a := { s.air with fanDelay := (s.delayOnS4 r).1 })
    (events := rest) (ambientOf (standing s .s5)) (s.delayOnS4_without r)
  exact ⟨h.frame, h.laws, h.kept⟩

/-- With no work of its own, an event leaves the fan delay and the deadlines. -/
theorem State.airTaken_still (s : State) (rest : List Handoff) (amb : Int) :
    s.AirTaken ((s.setEvents rest).recomputeAirAt amb) s.air rest amb :=
  s.airTaken_recomputeAirAt (a := s.air) (x := s.time) amb rfl

/-- Settles O33: the work of each kind of event, and the laws of R156 to R159 and R119 after it. -/
theorem airDutiesFollowTheirLaws : Obligations.AirDutiesFollowTheirLaws := by
  intro k s w rest htake taken rests amb
  obtain ⟨-, e, -, -, -, he, -⟩ := takeFirst_eq_some htake
  have hkind := airEvent_isOf he
  refine ⟨_, execAirRecompute_of_taken htake, ?_⟩
  cases w with
  | none =>
    obtain ⟨hpath, hs4⟩ := hkind
    obtain ⟨hframe, hlaws, hkept⟩ := s.airTaken_still rest amb
    simp only [taken, hpath, false_and, if_false, List.append_nil]
    exact ⟨hframe, hlaws, hkept, fun _ _ => ⟨State.recomputeAir_fanDelay _, rfl⟩⟩
  | pathState b =>
    obtain ⟨hframe, hlaws, hkept⟩ := s.airTaken_path rest b
    have hpath : taken := hkind
    simp only [hpath, true_and, if_true]
    exact ⟨hframe, hlaws, hkept, fun h => absurd hkind h⟩
  | s4 r =>
    have hpath : ¬ taken := fun h => by cases h.symm.trans hkind
    obtain ⟨hframe, hlaws, hkept⟩ := s.airTaken_s4 rest r
    simp only [hpath, false_and, if_false, List.append_nil]
    exact ⟨hframe, hlaws, hkept, fun _ h => absurd hkind h⟩
  | s5 r =>
    obtain ⟨hpath, hs4⟩ := hkind
    obtain ⟨hframe, hlaws, hkept⟩ := s.airTaken_still rest amb
    simp only [taken, hpath, false_and, if_false, List.append_nil]
    exact ⟨hframe, hlaws, hkept, fun _ _ => ⟨State.recomputeAirAt_fanDelay _ _, rfl⟩⟩

/-! ### The ends of the fan delay (R160) -/

/-- The fan delay and the deadlines once a change of the path state has been taken. -/
theorem State.airTake_path_delay (s : State) (rest : List Handoff) (b : Bool) :
    ((s.setEvents rest).airTake (.pathState b)).air.fanDelay = (s.delayOnPath b).1 ∧
      ((s.setEvents rest).airTake (.pathState b)).time = (s.delayOnPath b).2 := by
  rw [State.airTake, State.recomputeAir_fanDelay, State.recomputeAir_time, State.airPathChange_eq]
  exact ⟨rfl, rfl⟩

theorem State.airTake_s4_delay (s : State) (rest : List Handoff) (r : Report) :
    ((s.setEvents rest).airTake (.s4 r)).air.fanDelay = (s.delayOnS4 r).1 ∧
      ((s.setEvents rest).airTake (.s4 r)).time = (s.delayOnS4 r).2 := by
  rw [State.airTake, State.recomputeAir_fanDelay, State.recomputeAir_time, State.airS4_eq]
  exact ⟨rfl, rfl⟩

/-- A timebase without FAN_DELAY has none left. -/
theorem noneOf_fanDelay {s t : State} (h : t.time = s.time.without .fanDelay) : NoneOf [.fanDelay] t := by
  rw [noneOf_iff, h]
  simp

theorem State.delayOnPath_of_left {s : State} (b : Bool) (h : s.arb.state ≠ .runFreeze) :
    s.delayOnPath b = (none, s.time.without .fanDelay) := if_neg h

theorem State.delayOnPath_of_stays {s : State} (h : s.arb.state = .runFreeze) :
    s.delayOnPath false = (s.air.fanDelay, s.time) := if_pos h

theorem State.delayOnPath_of_cold {s : State} (h : s.arb.state = .runFreeze) (hcold : (s.reportOf .s4).releasesFan = true) :
    s.delayOnPath true = (some .ended, s.time.without .fanDelay) := (if_pos h).trans (if_pos hcold)

theorem State.delayOnPath_of_warm {s : State} (h : s.arb.state = .runFreeze)
    (hwarm : ¬ (s.reportOf .s4).releasesFan = true) :
    s.delayOnPath true = (some .active, s.time.wait .fanDelay 90) := (if_pos h).trans (if_neg hwarm)

/-- The state in which the air handler recomputes at the delivery of FAN_DELAY: an ACTIVE delay has ended (R160). -/
def State.fanDelayDelivered (s : State) : State := { expired s .fanDelay with air := { s.air with
  fanDelay := if s.air.fanDelay = some .active then some .ended else s.air.fanDelay } }

theorem execFanDelay_of_delivers {s : State} {due : Instant} (h : Delivers s .fanDelay due) :
    exec .fanDelay s = .next s.fanDelayDelivered.recomputeAir := by
  refine congrArg _ ((State.deliver_of_delivers h _).trans (congrArg State.recomputeAir ?_))
  have hair : (expired s .fanDelay).air = s.air := rfl
  rw [State.fanDelayDelivered, hair]
  split <;> rfl

/-- With the delay ended, ZF runs at 100 in RUN_FREEZE unless ZD is OPEN or the coil is heated or drips (R158). -/
theorem zf_of_fanDelayEnded {s t : State} {amb : Int} (h : Recomputed s t amb) (hpath : s.air.path = .runFreeze)
    (hended : s.air.fanDelay = some .ended) (hdoor : (s.door .zd).state ≠ .opened)
    (hdry : ¬ (s.defrost.phase = .heat ∨ s.defrost.phase = .drip)) : t.air.zf = 100 := by
  obtain ⟨-, -, hzf, -⟩ := h
  rw [hzf, if_neg hdoor, if_neg hdry, if_pos ⟨hpath, hended⟩]

/-- Settles O34: the fan delay by the path state taken, by an S4 report, and by its own delivery. -/
theorem fanDelayHoldsTheFreezerFan : Obligations.FanDelayHoldsTheFreezerFan := by
  intro s rest cold s4
  refine ⟨fun b htake => ?path, fun r htake => ?report, fun due hd => ?delivery⟩
  case path =>
    have hcold : (s.reportOf .s4).releasesFan = true ↔ cold s4 := Report.releasesFan_iff _
    obtain ⟨hdelay, htime⟩ := s.airTake_path_delay rest b
    refine ⟨_, execAirRecompute_of_taken htake, fun hleft => ?left, fun hrun hb => ?stays,
      fun hrun hb => ⟨fun hc => ?cold, fun hw => ?warm⟩⟩
    case left =>
      rw [State.delayOnPath_of_left b hleft] at hdelay htime
      exact ⟨hdelay, noneOf_fanDelay htime⟩
    case stays =>
      subst hb
      rw [State.delayOnPath_of_stays hrun] at hdelay htime
      exact ⟨hdelay, htime⟩
    case cold =>
      subst hb
      rw [State.delayOnPath_of_cold hrun (hcold.2 hc)] at hdelay htime
      exact ⟨hdelay, noneOf_fanDelay htime⟩
    case warm =>
      subst hb
      rw [State.delayOnPath_of_warm hrun fun h => hw (hcold.1 h)] at hdelay htime
      refine ⟨hdelay, ?_⟩
      rw [DueAfter, htime]
      exact (Timebase.mem_wait_deadlines _ _ _).2 (.inl rfl)
  case report =>
    have hcold : r.releasesFan = true ↔ cold (r.state, r.f) := Report.releasesFan_iff r
    obtain ⟨hdelay, htime⟩ := s.airTake_s4_delay rest r
    rw [State.delayOnS4] at hdelay htime
    refine ⟨_, execAirRecompute_of_taken htake, fun hactive hc => ?ends, fun hother => ?stays⟩
    case ends =>
      rw [if_pos ⟨hactive, hcold.2 hc⟩] at hdelay htime
      exact ⟨hdelay, noneOf_fanDelay htime⟩
    case stays =>
      have hnot : ¬ (s.air.fanDelay = some .active ∧ r.releasesFan = true) := fun ⟨hactive, hrel⟩ =>
        hother.elim (fun h => h hactive) fun h => h (hcold.1 hrel)
      rw [if_neg hnot] at hdelay htime
      exact ⟨hdelay, htime⟩
  case delivery =>
    have hlaws := s.fanDelayDelivered.recomputeAir_recomputed
    exact ⟨_, execFanDelay_of_delivers hd, rfl, hlaws, fun hpath hactive hdoor hheat hdrip =>
      zf_of_fanDelayEnded hlaws hpath (if_pos hactive) hdoor fun h => h.elim hheat hdrip⟩

end Sys2Proof.Machine
end

section
/-! The motors (R155, R161 to R164, R115 to R117): steps, homing and arrivals, the end of CLOSING at a shut damper, and the
commit at the arrival of the flap. -/

namespace Sys2Proof.Machine

open Sys2Proof.Safety

/-! ### Steps and homing (R155, R161, R163, R164) -/

section Motors

variable {s : State} {n : Nat}

theorem execDamperStep_of_rest (h : s.air.damperMotion = .atRest) : exec .damperStep s = .next s := by
  rw [exec, execDamperStep, h]

theorem execDamperStep_of_moving (h : s.air.damperMotion = .moving) : exec .damperStep s
    = .next { s with air := { s.air with damperPos := stepToward s.air.damperPos s.air.damperTarget } } := by
  rw [exec, execDamperStep, h]
  rfl

theorem execDamperStep_of_homing (h : s.air.damperMotion = .homing n) : exec .damperStep s
    = .next (if n < 440 then { s with air := { s.air with damperMotion := .homing (n + 1) } } else s) := by
  rw [exec, execDamperStep, h]
  rfl

theorem execValveStep_of_rest (h : s.air.valveMotion = .atRest) : exec .valveStep s = .next s := by
  rw [exec, execValveStep, h]

theorem execValveStep_of_moving (h : s.air.valveMotion = .moving) : exec .valveStep s
    = .next { s with air := { s.air with valvePos := stepToward s.air.valvePos s.air.valveTarget } } := by
  rw [exec, execValveStep, h]
  rfl

/-- Step `n + 1` of the valve's homing reads 0 up to the FRESH stop, 140 steps away (R164). -/
theorem execValveStep_of_homing (h : s.air.valveMotion = .homing n) : exec .valveStep s
    = .next (if n < 200 then { s with air := { s.air with
        valveMotion := .homing (n + 1), valvePos := if n < 140 then 0 else n - 139 } } else s) := by
  have hpos : n + 1 - Config.valveHomingToStop = if n < 140 then 0 else n - 139 := by
    simp only [Config.valveHomingToStop]
    split <;> omega
  rw [exec, execValveStep, h, ← hpos]
  rfl

/-- A valve that moves rests at its target, and the arrival is reported (R163). -/
theorem execValveArrival_of_there (h : s.air.valveMotion = .moving) (hpos : s.air.valvePos = s.air.valveTarget) :
    exec .valveArrival s = .next { s with
      air := { s.air with valveMotion := .atRest }
      events := s.events ++ [.valveToArbiter s.air.valveTarget, .valveToDefrost s.air.valveTarget] } := by
  rw [exec, execValveArrival, if_pos ⟨h, hpos⟩, State.reportValve_eq, ← hpos]
  rfl

theorem execHomingEnd_valve (h : s.air.valveMotion = .homing 200) :
    exec (.homingEnd .valve) s = .next s.valveHomed := by
  simp only [exec, execHomingEnd, h]
  rfl

theorem execHomingEnd_damper (h : s.air.damperMotion = .homing 440) :
    exec (.homingEnd .damper) s = .next s.damperHomed := by
  simp only [exec, execHomingEnd, h]
  rfl

/-- A homed valve whose target is CLOSED rests there and is reported (R164, R163). -/
theorem State.valveHomed_of_closed (h : s.air.valveTarget = 60) : s.valveHomed = { s with
    air := { s.air with valvePos := 60, valveMotion := .atRest }
    events := s.events ++ [.valveToArbiter s.air.valveTarget, .valveToDefrost s.air.valveTarget] } := by
  have hrests : s.valveHomed = State.reportValve { s with
      air := { s.air with valvePos := 60, valveMotion := .atRest } } := if_pos h
  rw [hrests, State.reportValve_eq, h]

theorem State.valveHomed_of_elsewhere (h : s.air.valveTarget ≠ 60) :
    s.valveHomed = { s with air := { s.air with valvePos := 60, valveMotion := .moving } } := if_neg h

theorem execDamperArrival_of_there (h : s.air.damperMotion = .moving) (hpos : s.air.damperPos = s.air.damperTarget) :
    exec .damperArrival s = .next (s.setAir { s.air with damperMotion := .atRest }).closingEnds := by
  rw [exec, execDamperArrival, if_pos ⟨h, hpos⟩]

end Motors

/-! ### The damper shut (R115, R116) -/

/-- The state with the damper at rest at 0. -/
def State.damperShut (s : State) : State := { s with air := { s.air with damperMotion := .atRest, damperPos := 0 } }

/-- Outside CLOSING, and away from 0, a damper at rest ends nothing. -/
theorem State.closingEnds_of_other {s : State} (h : s.map.step ≠ some .closing ∨ s.air.damperPos ≠ 0) :
    s.closingEnds = s := if_neg fun ⟨hstep, _, hzero⟩ => h.elim (· hstep) (· hzero)

/-- The end of CLOSING: the flap is driven to the side of the target regime, or rests there and the change is committed. -/
theorem State.closingEnds_damperShut {s : State} (h : s.map.step = some .closing) :
    let t := s.damperShut.closingEnds
    let onSide := s.air.flapMotion = .atRest ∧ s.air.flapSide = some s.targetSide
    (¬ onSide → t = { s.damperShut with map := { s.map with step := some .flap }, air := t.air } ∧
      Recomputed { s.damperShut with
        map := t.map
        air := { s.damperShut.air with flapMotion := .moving s.targetSide ⟨s.time.uptime + 4, s.time.ms⟩ } } t
        (ambientOf (standing s .s5))) ∧
    (onSide → Commits s.damperShut t) := by
  dsimp only
  rw [State.closingEnds_of_shut (s := s.damperShut) h ⟨rfl, rfl⟩]
  refine ⟨fun haway => ?drives, fun hthere => ?commits⟩
  case drives =>
    rw [State.enterFlap_of_away (s := s.damperShut) haway]
    exact ⟨rfl, State.recomputeAir_recomputed _⟩
  case commits =>
    rw [State.enterFlap_of_there (s := s.damperShut) hthere]
    exact State.commitRegime_commits _

theorem execDamperArrival_of_shut {s : State} (h : s.air.damperMotion = .moving)
    (hpos : s.air.damperPos = s.air.damperTarget) (hshut : s.air.damperPos = 0) :
    exec .damperArrival s = .next s.damperShut.closingEnds := by
  rw [execDamperArrival_of_there h hpos, State.damperShut, ← hshut]
  rfl

theorem State.damperHomed_of_shut {s : State} (h : s.air.damperTarget = 0) :
    s.damperHomed = s.damperShut.closingEnds := if_pos h

/-- Settles O26: the steps and the end of homing of each motor, and the two ways in which a shut damper goes on. -/
theorem motorsStepAndReportTheirArrivals : Obligations.MotorsStepAndReportTheirArrivals := by
  refine ⟨fun s => ⟨execDamperStep_of_rest, execDamperStep_of_moving, fun n => execDamperStep_of_homing,
    execValveStep_of_rest, execValveStep_of_moving, fun n => execValveStep_of_homing, rfl⟩, ?_⟩
  intro s report shut onSide flapStarts
  refine ⟨execValveArrival_of_there, fun hhomed => ⟨fun hclosed => ?closed, fun hother => ?opens⟩,
    fun hmoves hpos => ⟨fun hother => ?rests, fun hstep hzero => ?closes⟩,
    fun hhomed => ⟨fun htarget => ?aims, fun htarget => ⟨fun hstep => ?homes, fun hstep => ?homesInClosing⟩⟩⟩
  case closed => rw [execHomingEnd_valve hhomed, State.valveHomed_of_closed hclosed]
  case opens => rw [execHomingEnd_valve hhomed, State.valveHomed_of_elsewhere hother]
  case rests =>
    rw [execDamperArrival_of_there hmoves hpos]
    exact congrArg _ (State.closingEnds_of_other hother)
  case closes => exact ⟨_, execDamperArrival_of_shut hmoves hpos hzero, State.closingEnds_damperShut hstep⟩
  case aims =>
    rw [execHomingEnd_damper hhomed]
    exact congrArg _ (if_neg htarget)
  case homes =>
    rw [execHomingEnd_damper hhomed, State.damperHomed_of_shut htarget]
    exact congrArg _ (State.closingEnds_of_other (.inl hstep))
  case homesInClosing =>
    refine ⟨_, execHomingEnd_damper hhomed, ?_⟩
    rw [State.damperHomed_of_shut htarget]
    exact State.closingEnds_damperShut hstep

/-! ### The arrival of the flap (R162, R117, R120) -/

/-- The motion of a damper that is aimed at a target (R161). -/
def aimedMotion (m : Motion) (pos target : Nat) : Motion := if m = .atRest ∧ target ≠ pos then .moving else m

theorem aimedMotion_aimedMotion (m : Motion) (pos target : Nat) :
    aimedMotion (aimedMotion m pos target) pos target = aimedMotion m pos target := by
  unfold aimedMotion
  by_cases h : m = .atRest ∧ target ≠ pos
  · simp [h]
  · simp only [if_neg h]

/-- The state with the duties and the damper target set by their laws, and the damper in motion as given (R156). -/
def State.setByLaws (s : State) (m : Motion) : State := { s with air := { s.air with
  ff := ffLaw s, zf := zfLaw s, cf := cfLaw s s.ambient, damperTarget := damperLaw s, damperMotion := m } }

theorem State.recomputeAir_eq (s : State) :
    s.recomputeAir = s.setByLaws (aimedMotion s.air.damperMotion s.air.damperPos (damperLaw s)) := by
  rw [State.recomputeAir, State.recomputeAirAt, aimDamper_eq]
  rfl

/-- The laws read nothing that a recomputation changes, so that a second one finds what the first has set. -/
theorem State.recomputeAir_recomputeAir (s : State) : s.recomputeAir.recomputeAir = s.recomputeAir := by
  rw [s.recomputeAir_eq]
  exact (State.recomputeAir_eq _).trans (congrArg s.setByLaws (aimedMotion_aimedMotion _ _ _))

/-- The recomputation that follows the arrival of the flap finds what the commit has recomputed (R120, R117). -/
theorem State.recomputeAir_commitRegime (s : State) : s.commitRegime.recomputeAir = s.commitRegime := by
  rw [State.commitRegime_eq]
  generalize s.entryCommitted.evaluateEndOfTransit = u
  exact congrArg (fun t : State => { t with
    map := { t.map with startUp := false }
    events := t.events ++ if s.map.startUp then [] else [Handoff.raise .regimeDone] }) u.recomputeAir_recomputeAir

/-- The state with the flap at rest on the side that it was driven to. -/
def State.flapRests (s : State) (dest : Path) : State :=
  { s with air := { s.air with flapSide := some dest, flapMotion := .atRest } }

theorem State.flapArrives_of_step {s : State} (dest : Path) (h : s.map.step = some .flap) :
    s.flapArrives dest = (s.flapRests dest).commitRegime := by
  rw [State.flapArrives, if_pos h]
  exact State.recomputeAir_commitRegime _

theorem State.flapArrives_of_other {s : State} (dest : Path) (h : s.map.step ≠ some .flap) :
    s.flapArrives dest = (s.flapRests dest).recomputeAir := by
  rw [State.flapArrives, if_neg h]
  rfl

theorem execFlapArrival_of_moving {s : State} {dest : Path} {ends : Instant} (h : s.air.flapMotion = .moving dest ends) :
    exec .flapArrival s = .next (if ends.toMs ≤ s.now.toMs then s.flapArrives dest else s) := by
  rw [exec, execFlapArrival, State.flapDue, h]
  by_cases hdue : ends.toMs ≤ s.now.toMs
  · simp only [hdue, if_true]
  · simp only [hdue, if_false]

/-- Settles O25: a drive goes on before its end, and at its end the flap rests and the change, in step FLAP, is
committed. -/
theorem flapArrivalCommitsTheRegime : Obligations.FlapArrivalCommitsTheRegime := by
  intro s dest ends hmoves arrived
  have hexec := execFlapArrival_of_moving hmoves
  refine ⟨fun hearly => ?early, fun hdue => ⟨s.flapArrives dest, ?arrives, fun hother => ?other, fun hstep => ?commits⟩⟩
  case early => rw [hexec, if_neg hearly.not_ge]
  case arrives => rw [hexec, if_pos hdue]
  case other =>
    rw [State.flapArrives_of_other dest hother]
    exact ⟨rfl, State.recomputeAir_recomputed _⟩
  case commits =>
    rw [State.flapArrives_of_step dest hstep]
    exact State.commitRegime_commits _

end Sys2Proof.Machine
end

section
/-! The invariant of the deadline list (R169 to R172), said of the timebase alone: what keeps it, change by change. -/

namespace Sys2Proof.Machine

open Sys2Proof.Safety

/-- The list is ordered by due instant, and no kind and owner stands twice among its entries and the expiries in flight. -/
def Timebase.Sound (x : Timebase) : Prop :=
  x.deadlines.Pairwise (fun a b => a.due.toMs ≤ b.due.toMs) ∧ ((x.deadlines ++ x.expiries).map (·.key)).Nodup

theorem deadlinesSafe_iff (s : State) : DeadlinesSafe s ↔ s.time.Sound := Iff.rfl

namespace Timebase.Sound

variable {x : Timebase} (hx : x.Sound)

include hx

/-- A timebase that holds some of the entries and of the expiries, in their order. -/
theorem of_sublist {y : Timebase} (hd : y.deadlines.Sublist x.deadlines) (he : y.expiries.Sublist x.expiries) : y.Sound :=
  ⟨hx.1.sublist hd, hx.2.sublist ((hd.append he).map _)⟩

theorem without (k : DeadlineKey) : (x.without k).Sound := hx.of_sublist List.filter_sublist List.filter_sublist

theorem delivered (k : DeadlineKey) : (x.delivered k).Sound := hx.of_sublist (.refl _) List.filter_sublist

/-- The entry of an insertion is the only one of its key, since the others of the key have left (R170). -/
theorem withEntry (k : DeadlineKey) (due : Instant) : (x.withEntry k due).Sound := by
  have hperm : ((x.withEntry k due).deadlines ++ (x.withEntry k due).expiries).Perm
      (⟨k, due⟩ :: ((x.without k).deadlines ++ (x.without k).expiries)) := (placeDeadline_perm _ _).append_right _
  have hfresh : k ∉ ((x.without k).deadlines ++ (x.without k).expiries).map (·.key) := fun hk => by
    obtain ⟨e, he, hek⟩ := List.mem_map.1 hk
    exact x.not_mem_without k e he hek
  exact ⟨placeDeadline_sorted (hx.without k).1,
    (hperm.map _).nodup_iff.2 (List.nodup_cons.2 ⟨hfresh, (hx.without k).2⟩)⟩

theorem wait (k : DeadlineKey) (secs : Nat) : (x.wait k secs).Sound := hx.withEntry k _

theorem withExpiry (i : Nat) (due : Option Nat) : (x.withExpiry i due).Sound := by
  cases due with
  | none => exact hx
  | some d => exact hx.withEntry _ _

/-- An entry that falls due goes from the list to the expiries in flight (R172). -/
theorem fallsDue {d : Deadline} {ds : List Deadline} (hd : x.deadlines = d :: ds) :
    Timebase.Sound { x with deadlines := ds, expiries := x.expiries ++ [d] } := by
  have hperm : (ds ++ (x.expiries ++ [d])).Perm (x.deadlines ++ x.expiries) := by
    rw [hd, ← List.append_assoc]
    exact List.perm_append_singleton d _
  exact ⟨(List.pairwise_cons.1 (hd ▸ hx.1)).2, (hperm.map _).nodup_iff.2 hx.2⟩

/-! ### The timers of the path arbiter and of the defrost controller -/

theorem stopped : x.stopped.Sound := (((hx.without _).without _).without _).wait _ _

theorem dwelling : x.dwelling.Sound := (hx.wait _ _).wait _ _

theorem pumpingDown : x.pumpingDown.Sound := ((hx.without _).without _).wait _ _

theorem frosted (st : PathState) : (x.frosted st).Sound := by
  unfold Timebase.frosted
  split
  · exact ((hx.wait _ _).without _).wait _ _
  · exact hx.wait _ _

end Timebase.Sound

/-! ### What the shared operations make of the timebase -/

@[simp] theorem State.removeDeadline_time (s : State) (k : DeadlineKey) : (s.removeDeadline k).time = s.time.without k := rfl

@[simp] theorem State.insertAt_time (s : State) (k : DeadlineKey) (due : Instant) :
    (s.insertAt k due).time = s.time.withEntry k due := rfl

@[simp] theorem State.insertAfter_time (s : State) (k : DeadlineKey) (secs : Nat) :
    (s.insertAfter k secs).time = s.time.wait k secs := rfl

@[simp] theorem State.stopCompressor_time (s : State) : s.stopCompressor.time = s.time.stopped := rfl

@[simp] theorem State.startDwell_time (s : State) : s.startDwell.time = s.time.dwelling := rfl

@[simp] theorem State.regovern_time (s : State) (z : Zone) (change : State → State) :
    (s.regovern z change).time = (change s).time := by simp [State.regovern]

/-- An operation that decides between two states. What else it sets is no part of the claim, so that the uses below see
through its definition. -/
theorem sound_ite {c : Prop} [Decidable c] {s t : State} (hs : s.time.Sound) (ht : t.time.Sound) :
    (if c then s else t).time.Sound := by split <;> assumption

section Taking

variable {s : State} (hs : s.time.Sound)

include hs

theorem State.takeEvent_sound {α : Type} {p : Handoff → Option α} {f : α → State → State}
    (hf : ∀ a (s1 : State), s1.time.Sound → (f a s1).time.Sound) : (s.takeEvent p f).time.Sound := by
  unfold State.takeEvent
  split
  · exact hs
  · exact hf _ _ hs

theorem State.deliver_sound {k : DeadlineKey} {f : Instant → State → State}
    (hf : ∀ due (s1 : State), s1.time.Sound → (f due s1).time.Sound) : (s.deliver k f).time.Sound := by
  obtain he | ⟨d, -, -, he⟩ := s.deliver_cases k f
  · rwa [he]
  · rw [he]
    exact hf _ _ (hs.delivered k)

theorem State.serve_sound {code : List Byte} {act : State → State × Reply}
    (hact : ∀ s1 : State, s1.time.Sound → (act s1).1.time.Sound) : (s.serve code act).time.Sound := by
  unfold State.serve
  split
  · exact hact _ hs
  · split
    · exact hact _ hs
    · exact hs

/-- A request whose answer leaves the timebase alone. -/
theorem State.serve_sound_of_time {code : List Byte} {act : State → State × Reply}
    (hact : ∀ s1 : State, (act s1).1.time = s1.time) : (s.serve code act).time.Sound :=
  State.serve_sound hs fun s1 h1 => (hact s1).symm ▸ h1

end Taking

end Sys2Proof.Machine
end

section
/-! The invariant of the deadline list is kept by each operation of the blocks that inserts or removes a deadline. -/

namespace Sys2Proof.Machine

open Sys2Proof.Safety

section Blocks

variable {s : State} (hs : s.time.Sound)

include hs

/-! ### Air handler -/

theorem State.fanDelayStep_sound (b : Bool) : (s.fanDelayStep b).time.Sound := by
  unfold State.fanDelayStep State.startFanDelay State.dropFanDelay
  split_ifs
  · exact hs.without _
  · exact hs.wait _ _
  · exact hs
  · exact hs.without _

theorem State.airPathChange_sound (b : Bool) : (s.airPathChange b).time.Sound := by
  have h := State.fanDelayStep_sound (s := s.setAir { s.air with path := s.arb.state }) hs b
  simpa [State.airPathChange] using h

theorem State.airTake_sound (w : AirWork) : (s.airTake w).time.Sound := by
  cases w with
  | none => simpa [State.airTake] using hs
  | pathState b => simpa [State.airTake] using State.airPathChange_sound hs b
  | s4 r =>
    rw [State.airTake, State.recomputeAir_time]
    exact sound_ite (hs.without _) hs
  | s5 r => simpa [State.airTake] using hs

/-! ### Path arbiter -/

theorem State.runOn_sound (p : Path) : (s.runOn p).time.Sound := by
  simpa [State.runOn] using hs.dwelling

theorem State.stopToOff_sound : s.stopToOff.time.Sound := by
  simpa [State.stopToOff] using hs.stopped

theorem State.enterPumpdown_sound : s.enterPumpdown.time.Sound := by
  simpa [State.enterPumpdown, Timebase.pumpingDown] using hs.pumpingDown

theorem State.completeStart_sound (p : Path) : (s.completeStart p).time.Sound := by
  simpa [State.completeStart] using hs.dwelling.wait .speedStep 10

theorem State.leave_sound (p : Path) (toOther : Bool) : (s.leave p toOther).time.Sound := by
  cases p with
  | fresh => exact State.enterPumpdown_sound hs
  | freeze => exact sound_ite (State.runOn_sound hs _) (State.stopToOff_sound hs)

theorem State.reviewRun_sound (p : Path) : (s.reviewRun p).time.Sound := by
  unfold State.reviewRun
  split
  · exact State.leave_sound hs ..
  · split
    · simpa using hs
    · exact State.leave_sound hs ..
    · exact State.leave_sound hs ..

theorem State.review_sound : s.review.time.Sound := by
  unfold State.review
  split
  · split <;> simpa using hs
  · exact State.reviewRun_sound hs _
  · exact State.reviewRun_sound hs _
  · exact hs
  · exact hs

theorem State.valveArrives_sound (pos : Nat) : (s.valveArrives pos).time.Sound := by
  unfold State.valveArrives
  split
  · exact sound_ite (State.completeStart_sound hs _) (State.review_sound hs)
  · exact State.review_sound hs

theorem State.endPumpdown_sound : s.endPumpdown.time.Sound :=
  sound_ite (State.runOn_sound hs _) (State.stopToOff_sound hs)

/-- A SPEED_STEP is re-armed from its own due instant, and a review follows (R74). -/
theorem State.stepSpeed_sound (due : Instant) :
    ((s.insertAt .speedStep (due.plus 10)).retarget.slewSpeed.review).time.Sound := by
  refine State.review_sound ?_
  unfold State.slewSpeed
  split <;> simpa using hs.withEntry .speedStep (due.plus 10)

theorem State.haltRun_sound (cause : HaltCause) : (s.haltRun cause).time.Sound := by
  simpa [State.haltRun] using hs.stopped.without .stage

theorem State.takeFault_sound : s.takeFault.time.Sound := by
  have h := (State.haltRun_sound hs .fault).wait .stage 600
  exact sound_ite hs (sound_ite (h.without .stage) h)

theorem State.takeSag_sound : s.takeSag.time.Sound := by
  unfold State.takeSag
  split
  · exact hs
  · exact hs.without _
  · simpa using hs.without .stage
  · simpa using hs
  · exact State.haltRun_sound hs _

theorem State.takeNormal_sound : s.takeNormal.time.Sound := sound_ite (hs.wait _ _) hs

theorem State.restore_sound : s.restore.time.Sound := by
  refine State.review_sound ?_
  simpa using hs

theorem State.recover_sound : s.recover.time.Sound := by
  unfold State.recover
  split
  · simpa using hs.wait .stage _
  · exact State.restore_sound hs

theorem State.clearLockout_sound : s.clearLockout.time.Sound := by
  have h : (s.changePath .off).time.Sound := by simpa using hs
  exact sound_ite (State.takeSag_sound h) (State.review_sound h)

/-! ### Drive link -/

theorem State.driveLinkTick_sound : (s.setDrive s.drive.judgeMiss).judgeSilence.countRunSecond.sendDrive.time.Sound := by
  have h : (s.setDrive s.drive.judgeMiss).judgeSilence.time.Sound := sound_ite (State.takeFault_sound hs) hs
  exact sound_ite (sound_ite h h) h

theorem State.takeStatus_sound (seq actual code check : Byte) : (s.takeStatus seq actual code check).time.Sound :=
  sound_ite (sound_ite (State.takeFault_sound hs) hs) hs

theorem State.driveByte_sound (b : Byte) : (s.driveByte b).time.Sound := by
  unfold State.driveByte
  split
  · exact sound_ite hs hs
  · exact State.takeStatus_sound (s := s.setDrive { s.drive with rx := .waiting }) hs ..
  · exact hs

/-! ### Defrost controller -/

theorem State.enterPending_sound : s.enterPending.time.Sound := by
  rw [State.enterPending_eq]
  exact hs.frosted _

theorem State.enterPrechill_sound : s.enterPrechill.time.Sound := by
  rw [State.enterPrechill_eq]
  exact (hs.without _).wait _ _

theorem State.compareInterval_sound : s.compareInterval.time.Sound := sound_ite (State.enterPending_sound hs) hs

theorem State.enterIdle_sound : s.enterIdle.time.Sound := State.compareInterval_sound hs

theorem State.enterHeat_sound : s.enterHeat.time.Sound := hs.wait _ _

theorem State.enterRelease_sound : s.enterRelease.time.Sound :=
  sound_ite (State.enterHeat_sound (hs.without .phase)) (hs.without .phase)

theorem State.endRecover_sound : s.endRecover.time.Sound := State.enterIdle_sound (hs.without .phase)

theorem State.endHeat_sound (how : HeatEnd) : (s.endHeat how).time.Sound := (hs.without .phase).wait _ _

theorem State.giveUpDefrost_sound : s.giveUpDefrost.time.Sound := State.enterIdle_sound ((hs.without _).without _)

theorem State.takeS4_sound (r : Report) : (s.takeS4 r).time.Sound := by
  have h : s.countFrost.time.Sound := sound_ite hs hs
  unfold State.takeS4
  dsimp only
  split
  · exact State.compareInterval_sound h
  · exact sound_ite h (sound_ite (State.endHeat_sound h _) h)
  · exact sound_ite (State.endRecover_sound h) h
  · exact h

theorem State.startRecovery_sound : s.startRecovery.time.Sound := hs.wait _ _

theorem State.endRecovery_sound : s.endRecovery.time.Sound := sound_ite (hs.without _) hs

theorem State.takePhaseChange_sound (halted : Bool) : (s.takePhaseChange halted).time.Sound := by
  unfold State.takePhaseChange
  split
  · exact sound_ite (State.enterPrechill_sound hs) hs
  · exact sound_ite (State.enterRelease_sound hs) hs
  · exact hs

theorem defrostNow_sound : (defrostNow s).1.time.Sound := by
  unfold defrostNow
  split
  · exact State.enterPending_sound hs
  · exact State.enterPending_sound (s := (s.removeDeadline .phase).raiseNotice .defrostDone) (hs.without _)
  · exact hs
  · exact hs

theorem defrostCancel_sound : (defrostCancel s).1.time.Sound := by
  unfold defrostCancel
  split
  · exact State.giveUpDefrost_sound hs
  · exact State.giveUpDefrost_sound hs
  · exact State.endHeat_sound hs _
  · exact hs

/-! ### Door unit -/

theorem State.sampleDoor_sound (d : Door) (x : Level) : (s.sampleDoor d x).time.Sound := by
  unfold State.sampleDoor
  dsimp only
  split
  · cases x with
    | high => exact hs.wait _ _
    | low => exact hs.without _
  · exact hs

/-! ### Hold table -/

theorem State.lapse_sound (i : Nat) (cause : LapseCause) : (s.lapse i cause).time.Sound := by
  obtain ⟨tab, time, raised, hlapse, htime, -⟩ := s.lapse_cases i cause
  rw [hlapse]
  obtain rfl | rfl := htime
  · exact hs
  · exact hs.without _

theorem State.lapseAtCommit_sound (l : List Nat) : (s.lapseAtCommit l).time.Sound := by
  induction l generalizing s with
  | nil => exact hs
  | cons i is ih =>
    unfold State.lapseAtCommit
    split
    · exact ih hs
    · exact sound_ite (ih (State.lapse_sound hs ..)) (ih hs)

theorem State.commitHolds_sound (r : Regime) : (s.commitHolds r).time.Sound := by
  have h := State.lapseAtCommit_sound hs (List.range 24)
  unfold State.commitHolds State.retargetChillBase
  split <;> simpa using h

theorem holdOpen_sound (zone kind : Byte) (target : Half) (halfBand priority flags : Byte) (minutes : Half)
    (floor : Byte) : (holdOpen zone kind target halfBand priority flags minutes floor s).1.time.Sound := by
  unfold holdOpen
  split
  · split_ifs
    iterate 3 exact hs
    split
    · exact hs
    · rw [State.openHold_state, State.regovern_time]
      exact hs.withExpiry _ _
  · exact hs

theorem State.amendPriority_sound (h : Hold) (mask priority : Byte) : (s.amendPriority h mask priority).1.time.Sound := by
  unfold State.amendPriority
  dsimp only
  split_ifs <;> exact hs

theorem State.amendExpiry_sound (h : Hold) (mask : Byte) (minutes : Half) :
    (s.amendExpiry h mask minutes).1.time.Sound := by
  rw [State.amendExpiry_eq]
  dsimp only
  rw [State.setTime_time]
  split
  · exact (hs.without _).withExpiry _ _
  · exact hs

theorem State.amendHold_sound (h : Hold) (mask : Byte) (target : Half) (halfBand priority : Byte) (minutes : Half)
    (floor reach : Byte) : (s.amendHold h mask target halfBand priority minutes floor reach).1.time.Sound := by
  unfold State.amendHold
  dsimp only
  rw [State.regovern_time]
  split
  · refine State.lapse_sound ?_ ..
    exact State.amendExpiry_sound (State.amendPriority_sound hs ..) ..
  · exact State.amendExpiry_sound (State.amendPriority_sound hs ..) ..

theorem holdAmend_sound (slot gen mask : Byte) (target : Half) (halfBand priority : Byte) (minutes : Half)
    (floor reach : Byte) : (holdAmend slot gen mask target halfBand priority minutes floor reach s).1.time.Sound := by
  unfold holdAmend
  split
  · exact hs
  · split_ifs
    iterate 4 exact hs
    exact State.amendHold_sound hs ..

theorem holdRetire_sound (slot gen : Byte) : (holdRetire slot gen s).1.time.Sound := by
  unfold holdRetire
  split
  · exact hs
  · split
    · exact hs
    · dsimp only
      rw [State.regovern_time]
      exact hs.without _

/-! ### Zone evaluator -/

theorem State.selectSource_sound (rep : Option Report) (z : Zone) (restart : Bool) :
    (s.selectSource rep z restart).time.Sound :=
  sound_ite (sound_ite (hs.wait _ _) hs) (sound_ite (hs.without _) hs)

theorem State.secondTime_sound (z : Zone) (rep : Report) : (s.secondTime z rep).Sound := by
  unfold State.secondTime byBlind
  split_ifs
  · exact hs
  · exact hs.withEntry _ _
  · exact hs.without _
  · exact hs

theorem State.evaluateSecond_sound (z : Zone) (rep : Report) : (s.evaluateSecond z rep).time.Sound := by
  have h := State.secondTime_sound hs z rep
  obtain ⟨-, -, htime | ⟨_, -, htime⟩, -⟩ := s.evaluateSecond_cases z rep
  · exact htime ▸ h
  · exact htime ▸ h.without _

theorem State.evaluateHoldChange_sound (z : Zone) (g : Governing) : (s.evaluateHoldChange z g).time.Sound := by
  refine sound_ite hs ?_
  simpa using hs

theorem State.evaluateDoor_sound (z : Zone) (e : DoorEvent) : (s.evaluateDoor z e).time.Sound := by
  simpa [State.evaluateDoor] using hs

theorem State.evaluateSchedule_sound (z : Zone) (half : BlindHalf) (due : Instant) :
    (s.evaluateSchedule z half due).time.Sound := by
  simpa [State.evaluateSchedule] using hs.withEntry (.blindHalf z) _

theorem State.evaluateEndOfTransit_sound : s.evaluateEndOfTransit.time.Sound := by
  have h : s.leftTransit.time.Sound := State.selectSource_sound (s := s.setZone _ _) hs none .chill true
  simpa [State.evaluateEndOfTransit, State.leftTransit] using h

/-! ### Zone map -/

theorem State.commitRegime_sound : s.commitRegime.time.Sound := by
  have h : s.entryCommitted.time.Sound := sound_ite hs (State.commitHolds_sound (s := s.setMap s.map.committed) hs _)
  have hend := State.evaluateEndOfTransit_sound h
  rw [State.commitRegime_eq]
  simpa using hend

theorem State.closingEnds_sound : s.closingEnds.time.Sound := by
  refine sound_ite (sound_ite (State.commitRegime_sound hs) ?_) hs
  simpa using hs

theorem State.flapArrives_sound (dest : Path) : (s.flapArrives dest).time.Sound := by
  rw [State.flapArrives, State.recomputeAir_time]
  exact sound_ite (State.commitRegime_sound hs) hs

theorem State.damperHomed_sound : s.damperHomed.time.Sound := sound_ite (State.closingEnds_sound hs) hs

theorem regimeSet_sound (regime : Byte) : (regimeSet regime s).1.time.Sound := by
  unfold regimeSet
  split
  · exact hs
  · split_ifs
    · exact hs
    · exact hs
    · refine State.closingEnds_sound ?_
      simpa using hs

end Blocks

end Sys2Proof.Machine
end

section
/-! Every command and every step keeps the deadline list ordered, with no kind and owner twice (R169, R170). -/

namespace Sys2Proof.Machine

open Sys2Proof.Safety

/-! ### Operations that leave the timebase alone -/

theorem mapSet_time (zone regime fallback : Byte) (offset : Half) (s : State) :
    (mapSet zone regime fallback offset s).1.time = s.time := by
  unfold mapSet
  split
  · rfl
  · split
    · rfl
    · split
      · rfl
      · split <;> rfl

theorem State.writeCorrection_time (s : State) (slot : Nat) (k : Option Correction) :
    (s.writeCorrection slot k).1.time = s.time := by
  unfold State.writeCorrection
  dsimp only
  split <;> rfl

theorem correctionSet_time (slot op channel index : Byte) (value : Half) (s : State) :
    (correctionSet slot op channel index value s).1.time = s.time := by
  unfold correctionSet
  split
  · rfl
  · split
    · exact s.writeCorrection_time ..
    · split
      · rfl
      · dsimp only
        split_ifs
        iterate 3 rfl
        exact s.writeCorrection_time ..

theorem doorQuery_time (door clear : Byte) (s : State) : (doorQuery door clear s).1.time = s.time := by
  unfold doorQuery
  split <;> rfl

theorem noticeNext_time (s : State) : (noticeNext s).1.time = s.time := by
  unfold noticeNext
  split <;> rfl

theorem settingsStore_time (s : State) : (settingsStore s).1.time = s.time := by
  unfold settingsStore
  split <;> rfl

theorem State.completeFrame_time (s : State) (len : Nat) (got : List Byte) : (s.completeFrame len got).time = s.time := by
  unfold State.completeFrame
  split
  · rfl
  · split <;> rfl

theorem State.lengthFrame_time (s : State) : s.lengthFrame.time = s.time := by
  unfold State.lengthFrame
  split <;> rfl

theorem State.receive_time (s : State) (b : Byte) : (s.receive b).time = s.time := by
  unfold State.receive
  split
  · split <;> rfl
  · split
    · rfl
    · exact State.lengthFrame_time _
  · split
    · exact State.completeFrame_time ..
    · rfl
  · rfl

theorem State.report_time (s : State) (c : Channel) : (s.report c).time = s.time := by rw [State.report_eq]

/-! ### Start-up -/

/-- Start-up leaves INHIBIT alone in the list, and no expiry in flight (R175, R200). -/
theorem State.startUp_sound (s : State) (straps : Straps) (lockout : Bool) (faults : Nat) :
    (s.startUp straps lockout faults).time.Sound := ⟨List.pairwise_singleton _ _, List.nodup_singleton _⟩

/-! ### The requests that may insert or remove a deadline -/

section Kept

variable {s : State} (hs : s.time.Sound)

include hs

theorem clearLockout_sound : (clearLockout s).1.time.Sound := by
  unfold clearLockout
  split
  · exact State.clearLockout_sound hs
  · exact hs

theorem State.writeSetting_sound {t : State} {i : SettingItem} {v : Int} {clamped : Bool}
    (hw : s.writeSetting i v = some (t, clamped)) : t.time.Sound := by
  cases i <;> cases hw
  case weight z => simpa [State.writeWeight, State.setEntry] using hs
  case interval => exact State.compareInterval_sound hs
  all_goals exact hs

theorem settingsWrite_sound (item : Byte) (value : Quad) : (settingsWrite item value s).1.time.Sound := by
  unfold settingsWrite
  split
  · exact hs
  · split
    · exact hs
    · next hw => exact State.writeSetting_sound hs hw

/-! ### The clock -/

theorem State.entryFallsDue_sound : s.entryFallsDue.time.Sound := by
  unfold State.entryFallsDue
  split
  · exact hs
  · next hd => exact sound_ite (hs.fallsDue hd) hs

theorem State.idle_sound : s.idle.time.Sound := by
  unfold State.idle
  split
  · exact State.entryFallsDue_sound hs
  · split
    · exact State.flapArrives_sound hs _
    · split
      · exact hs
      · exact sound_ite hs (sound_ite hs hs)

/-! ### The commands whose own work is split by what they find -/

theorem execHoldExpiry_sound (slot : Nat) : ∃ t, exec (.holdExpiry slot) s = .next t ∧ t.time.Sound := by
  refine ⟨_, rfl, State.deliver_sound hs fun _ s1 h1 => ?_⟩
  split
  · exact h1
  · rw [State.regovern_time]
    exact State.lapse_sound h1 ..

theorem execBlindHalf_sound (z : Zone) : ∃ t, exec (.blindHalf z) s = .next t ∧ t.time.Sound := by
  refine ⟨_, rfl, State.deliver_sound hs fun due s1 h1 => ?_⟩
  split
  · exact State.evaluateSchedule_sound h1 ..
  · exact h1

theorem execDoorChangeEvaluation_sound (d : Door) : ∃ t, exec (.doorChangeEvaluation d) s = .next t ∧ t.time.Sound := by
  refine ⟨_, rfl, State.takeEvent_sound hs fun e s1 h1 => ?_⟩
  split
  · exact State.evaluateDoor_sound h1 ..
  · exact h1

theorem execChannelConversion_sound (c : Channel) (count : Nat) :
    ∃ t, exec (.channelConversion c count) s = .next t ∧ t.time.Sound := by
  refine ⟨_, rfl, ?_⟩
  rw [State.report_time]
  split <;> simpa using hs

theorem execFanDelay_sound : ∃ t, exec .fanDelay s = .next t ∧ t.time.Sound := by
  refine ⟨_, rfl, State.deliver_sound hs fun _ s1 h1 => ?_⟩
  rw [State.recomputeAir_time]
  exact sound_ite h1 h1

theorem execFlapArrival_sound : ∃ t, exec .flapArrival s = .next t ∧ t.time.Sound := by
  refine ⟨_, rfl, ?_⟩
  split
  · exact State.flapArrives_sound hs _
  · exact hs

theorem execHomingEnd_sound (m : HomingMotor) : ∃ t, exec (.homingEnd m) s = .next t ∧ t.time.Sound := by
  refine ⟨_, rfl, ?_⟩
  split
  · exact sound_ite (sound_ite hs hs) hs
  · exact sound_ite (State.damperHomed_sound hs) hs
  · exact hs

theorem execArbiterSag_sound : ∃ t, exec .arbiterSag s = .next t ∧ t.time.Sound := by
  refine ⟨_, rfl, ?_⟩
  split
  · exact State.takeSag_sound hs
  · exact hs

theorem execArbiterNormal_sound : ∃ t, exec .arbiterNormal s = .next t ∧ t.time.Sound := by
  refine ⟨_, rfl, ?_⟩
  split
  · exact State.takeNormal_sound hs
  · exact hs

theorem execDriveReceiverByte_sound (c : DriveChar) : ∃ t, exec (.driveReceiverByte c) s = .next t ∧ t.time.Sound := by
  cases c with
  | char b => exact ⟨_, rfl, State.driveByte_sound hs b⟩
  | framingError => exact ⟨_, rfl, hs⟩

theorem execDamperStep_sound : ∃ t, exec .damperStep s = .next t ∧ t.time.Sound := by
  refine ⟨_, rfl, ?_⟩
  split
  · exact hs
  · exact hs
  · exact sound_ite hs hs

theorem execValveStep_sound : ∃ t, exec .valveStep s = .next t ∧ t.time.Sound := by
  refine ⟨_, rfl, ?_⟩
  split
  · exact hs
  · exact hs
  · split
    · simpa using hs
    · exact hs

theorem execFrameRefused_sound (why : FrameRefusal) : ∃ t, exec (.frameRefused why) s = .next t ∧ t.time.Sound := by
  cases why <;> exact ⟨_, rfl, sound_ite hs hs⟩

/-! ### Every command -/

/-- Every command answers a next state, in which the deadline list is sound if it was. -/
theorem exec_sound (c : Instr) : ∃ t, exec c s = .next t ∧ t.time.Sound := by
  have read {code : List Byte} {act : State → State × Reply} (h : ∀ s1, (act s1).1 = s1) :
      (s.serve code act).time.Sound := State.serve_sound_of_time hs fun s1 => by rw [h s1]
  cases c with
  | powerOnReset straps => exact ⟨_, rfl, State.startUp_sound ..⟩
  | uptimeWrapRestart straps => exact ⟨_, rfl, sound_ite (State.startUp_sound ..) hs⟩
  | ident => exact ⟨_, rfl, read fun _ => rfl⟩
  | systemQuery => exact ⟨_, rfl, read fun _ => rfl⟩
  | restart => exact ⟨_, rfl, State.serve_sound_of_time hs fun _ => rfl⟩
  | holdOpen zone kind target halfBand priority flags minutes floor =>
    exact ⟨_, rfl, State.serve_sound hs fun _ h1 => holdOpen_sound h1 ..⟩
  | holdAmend slot gen mask target halfBand priority minutes floor reach =>
    exact ⟨_, rfl, State.serve_sound hs fun _ h1 => holdAmend_sound h1 ..⟩
  | holdRetire slot gen => exact ⟨_, rfl, State.serve_sound hs fun _ h1 => holdRetire_sound h1 ..⟩
  | holdQuery slot gen => exact ⟨_, rfl, read (holdQuery_fst _ _)⟩
  | holdList zone => exact ⟨_, rfl, read (holdList_fst _)⟩
  | zoneQuery zone => exact ⟨_, rfl, read (zoneQuery_fst _)⟩
  | regimeSet regime => exact ⟨_, rfl, State.serve_sound hs fun _ h1 => regimeSet_sound h1 _⟩
  | mapSet zone regime fallback offset => exact ⟨_, rfl, State.serve_sound_of_time hs (mapSet_time _ _ _ _)⟩
  | sensorQuery channel => exact ⟨_, rfl, read (sensorQuery_fst _)⟩
  | correctionSet slot op channel index value =>
    exact ⟨_, rfl, State.serve_sound_of_time hs (correctionSet_time _ _ _ _ _)⟩
  | doorQuery door clear => exact ⟨_, rfl, State.serve_sound_of_time hs (doorQuery_time _ _)⟩
  | defrostNow => exact ⟨_, rfl, State.serve_sound hs fun _ h1 => defrostNow_sound h1⟩
  | defrostCancel => exact ⟨_, rfl, State.serve_sound hs fun _ h1 => defrostCancel_sound h1⟩
  | clearLockout => exact ⟨_, rfl, State.serve_sound hs fun _ h1 => clearLockout_sound h1⟩
  | noticeNext => exact ⟨_, rfl, State.serve_sound_of_time hs noticeNext_time⟩
  | noticeEnable mask => exact ⟨_, rfl, State.serve_sound_of_time hs fun _ => rfl⟩
  | settingsWrite item value => exact ⟨_, rfl, State.serve_sound hs fun _ h1 => settingsWrite_sound h1 ..⟩
  | settingsRead item => exact ⟨_, rfl, read (settingsRead_fst _)⟩
  | settingsStore => exact ⟨_, rfl, State.serve_sound_of_time hs settingsStore_time⟩
  | storeWriteEnd => exact ⟨_, rfl, by split <;> exact hs⟩
  | frameRefused why => exact execFrameRefused_sound hs why
  | overrun => exact ⟨_, rfl, sound_ite hs hs⟩
  | framingError => exact ⟨_, rfl, by split <;> exact hs⟩
  | byteGapTimeout => exact ⟨_, rfl, hs⟩
  | replyStart => exact ⟨_, rfl, by split <;> exact hs⟩
  | replySent straps => exact ⟨_, rfl, sound_ite (sound_ite (State.startUp_sound ..) hs) hs⟩
  | holdExpiry slot => exact execHoldExpiry_sound hs slot
  | holdChangeEvaluation z =>
    exact ⟨_, rfl, State.takeEvent_sound hs fun g _ h1 => State.evaluateHoldChange_sound h1 z g⟩
  | channelConversion c count => exact execChannelConversion_sound hs c count
  | oneSecondEvaluation z => exact ⟨_, rfl, State.takeEvent_sound hs fun r _ h1 => State.evaluateSecond_sound h1 z r⟩
  | blindHalf z => exact execBlindHalf_sound hs z
  | doorSample d a b c => exact ⟨_, rfl, State.sampleDoor_sound hs ..⟩
  | doorAjar d => exact ⟨_, rfl, State.deliver_sound hs fun _ _ h1 => sound_ite h1 h1⟩
  | doorChangeEvaluation d => exact execDoorChangeEvaluation_sound hs d
  | airRecompute k => exact ⟨_, rfl, State.takeEvent_sound hs fun w _ h1 => State.airTake_sound h1 w⟩
  | fanDelay => exact execFanDelay_sound hs
  | damperArrival => exact ⟨_, rfl, sound_ite (State.closingEnds_sound hs) hs⟩
  | flapArrival => exact execFlapArrival_sound hs
  | homingEnd m => exact execHomingEnd_sound hs m
  | valveArrival => exact ⟨_, rfl, sound_ite hs hs⟩
  | startCompletion => exact ⟨_, rfl, State.takeEvent_sound hs fun pos _ h1 => State.valveArrives_sound h1 pos⟩
  | releaseEnd => exact ⟨_, rfl, State.takeEvent_sound hs fun _ _ h1 => sound_ite (State.enterHeat_sound h1) h1⟩
  | arbiterReview => exact ⟨_, rfl, State.takeEvent_sound hs fun _ _ h1 => State.review_sound h1⟩
  | pumpdownStage =>
    exact ⟨_, rfl, sound_ite (State.deliver_sound hs fun _ _ h1 => State.endPumpdown_sound h1) hs⟩
  | holdoffStage => exact ⟨_, rfl, sound_ite (State.deliver_sound hs fun _ _ h1 => State.restore_sound h1) hs⟩
  | recoveryStage => exact ⟨_, rfl, sound_ite (State.deliver_sound hs fun _ _ h1 => State.recover_sound h1) hs⟩
  | inhibit => exact ⟨_, rfl, State.deliver_sound hs fun _ _ h1 => State.review_sound h1⟩
  | dwellMin => exact ⟨_, rfl, State.deliver_sound hs fun _ _ h1 => State.review_sound h1⟩
  | dwellMax => exact ⟨_, rfl, State.deliver_sound hs fun _ _ h1 => State.review_sound h1⟩
  | speedStep => exact ⟨_, rfl, State.deliver_sound hs fun due _ h1 => State.stepSpeed_sound h1 due⟩
  | driveLinkTick => exact ⟨_, rfl, State.driveLinkTick_sound hs⟩
  | statusFrame seq actual code check =>
    exact ⟨_, rfl, State.takeStatus_sound (s := s.setDrive { s.drive with rx := .waiting }) hs ..⟩
  | mainsSample count => exact ⟨_, rfl, by split <;> exact hs⟩
  | arbiterSag => exact execArbiterSag_sound hs
  | arbiterNormal => exact execArbiterNormal_sound hs
  | arbiterChangeToDefrost =>
    exact ⟨_, rfl, State.takeEvent_sound hs fun c _ h1 =>
      State.takePhaseChange_sound (sound_ite (State.startRecovery_sound h1) h1) c.2⟩
  | defrostS4Report => exact ⟨_, rfl, State.takeEvent_sound hs fun r _ h1 => State.takeS4_sound h1 r⟩
  | pendingLimit => exact ⟨_, rfl, State.deliver_sound hs fun _ _ h1 => sound_ite (State.enterRelease_sound h1) h1⟩
  | prechillPhaseExpiry =>
    exact ⟨_, rfl, sound_ite (State.deliver_sound hs fun _ _ h1 => State.enterRelease_sound h1) hs⟩
  | heatPhaseExpiry => exact ⟨_, rfl, sound_ite (State.deliver_sound hs fun _ _ h1 => State.endHeat_sound h1 _) hs⟩
  | dripPhaseExpiry => exact ⟨_, rfl, sound_ite (State.deliver_sound hs fun _ _ h1 => h1.wait _ _) hs⟩
  | recoverPhaseExpiry =>
    exact ⟨_, rfl, sound_ite (State.deliver_sound hs fun _ _ h1 => State.endRecover_sound h1) hs⟩
  | coilS3Report => exact ⟨_, rfl, State.takeEvent_sound hs fun _ _ h1 => sound_ite (State.endRecovery_sound h1) h1⟩
  | coilRecovery => exact ⟨_, rfl, State.deliver_sound hs fun _ _ h1 => State.endRecovery_sound h1⟩
  | coilRecoveryCutShort =>
    exact ⟨_, rfl, State.takeEvent_sound hs fun _ _ h1 => sound_ite (State.endRecovery_sound h1) h1⟩
  | deadlineFallsDue => exact ⟨_, rfl, State.entryFallsDue_sound hs⟩
  | noticeRaise n => exact ⟨_, rfl, State.takeEvent_sound hs fun _ _ h1 => h1⟩
  | characterReceived b => exact ⟨_, rfl, (s.receive_time b).symm ▸ hs⟩
  | driveReceiverByte c => exact execDriveReceiverByte_sound hs c
  | damperStep => exact execDamperStep_sound hs
  | valveStep => exact execValveStep_sound hs
  | pwmPeriodBoundary => exact ⟨_, rfl, hs⟩

end Kept

/-- Settles O58: a step runs one command or moves the clock, and each keeps the deadline list sound. -/
theorem everyStepKeepsTheDeadlineListOrdered : Obligations.EveryStepKeepsTheDeadlineListOrdered := by
  intro s t hs hstep
  rw [deadlinesSafe_iff] at hs ⊢
  unfold step at hstep
  split at hstep
  · cases hstep
    exact State.idle_sound hs
  · next c rest _ =>
    obtain ⟨u, hexec, hu⟩ := exec_sound (s := s.setPending rest) hs c
    cases hexec.symm.trans hstep
    exact hu

end Sys2Proof.Machine
end

section
/-! The clock and the idle step (R172, R167, R162, R198; log entries 1, 2 and 23). -/

namespace Sys2Proof.Machine

open Sys2Proof.Safety

variable {s : State}

theorem step_of_idle (h : s.pending = []) : step s = .next s.idle := by simp only [step, h]

/-! ### An entry that falls due (R172) -/

section Entry

variable {d : Deadline} {ds : List Deadline}

theorem State.entryFallsDue_of_due (hd : s.time.deadlines = d :: ds) (hdue : d.due.toMs ≤ s.now.toMs) :
    s.entryFallsDue = { s with time := { s.time with deadlines := ds, expiries := s.time.expiries ++ [d] } } := by
  simp only [State.entryFallsDue, hd, if_pos hdue]
  rfl

theorem State.entryFallsDue_of_early (hd : s.time.deadlines = d :: ds) (hearly : s.now.toMs < d.due.toMs) :
    s.entryFallsDue = s := by simp only [State.entryFallsDue, hd, if_neg hearly.not_ge]

theorem State.entryDue_of_due (hd : s.time.deadlines = d :: ds) (hdue : d.due.toMs ≤ s.now.toMs) :
    s.entryDue = true := by simp only [State.entryDue, hd, hdue, decide_true]

end Entry

theorem State.entryDue_of_early (h : ∀ d ∈ s.time.deadlines.head?, s.now.toMs < d.due.toMs) : s.entryDue = false := by
  unfold State.entryDue
  split
  · rfl
  · next d ds hd => exact decide_eq_false (h d (by rw [hd]; rfl)).not_ge

/-! ### What else an idle step may find over (R162, R198) -/

theorem State.flapDue_eq_some (dest : Path) :
    s.flapDue = some dest ↔ ∃ ends, s.air.flapMotion = .moving dest ends ∧ ends.toMs ≤ s.now.toMs := by
  unfold State.flapDue
  split
  · next h => simp [h]
  · next dest' ends h => simp [h, ite_eq_iff, and_comm]

theorem State.flapDue_eq_none (h : ¬ ∃ dest ends, s.air.flapMotion = .moving dest ends ∧ ends.toMs ≤ s.now.toMs) :
    s.flapDue = none :=
  Option.eq_none_iff_forall_ne_some.2 fun dest hd => h ⟨dest, (State.flapDue_eq_some dest).1 hd⟩

theorem State.storeDue_eq_some (w : StoreWrite) :
    s.storeDue = some w ↔ s.store.writing = some w ∧ w.began.toMs + 400 ≤ s.now.toMs := by
  unfold State.storeDue
  split
  · next h => simp [h]
  · next w' h =>
    simp only [h, Option.ite_none_right_eq_some, Option.some.injEq]
    rw [and_comm]
    exact and_congr_right fun hw => hw ▸ Iff.rfl

theorem State.storeDue_eq_none (h : ¬ ∃ w, s.store.writing = some w ∧ w.began.toMs + 400 ≤ s.now.toMs) :
    s.storeDue = none := Option.eq_none_iff_forall_ne_some.2 fun w hw => h ⟨w, (State.storeDue_eq_some w).1 hw⟩

/-- On an idle step with no entry due a flap drive at its end arrives. -/
theorem State.idle_of_flapDue {dest : Path} (he : s.entryDue = false) (hf : s.flapDue = some dest) :
    s.idle = s.flapArrives dest := by simp only [State.idle, he, hf, Bool.false_eq_true, if_false]

/-- With no flap drive over either, a store at its end ends. -/
theorem State.idle_of_storeDue {w : StoreWrite} (he : s.entryDue = false) (hf : s.flapDue = none)
    (hw : s.storeDue = some w) : s.idle = s.endStore w := by
  simp only [State.idle, he, hf, hw, Bool.false_eq_true, if_false]

/-- With nothing over, the clock moves. -/
theorem State.idle_of_none (he : s.entryDue = false) (hf : s.flapDue = none) (hw : s.storeDue = none) :
    s.idle = s.tickClock := by simp only [State.idle, he, hf, hw, Bool.false_eq_true, if_false]

/-! ### The clock (R167, R33) -/

theorem State.tickClock_of_below (h : s.time.ms < 999) :
    s.tickClock = { s with time := { s.time with ms := s.time.ms + 1 } } := if_pos h

/-- At a second boundary the trigger channels are latched as the maps and sources then stand (log entry 23). -/
theorem State.tickClock_of_second (hms : 999 ≤ s.time.ms) (hup : s.time.uptime < 4294967295) :
    s.tickClock = { s with
      time := { s.time with uptime := s.time.uptime + 1, ms := 0 }
      eval := { s.eval with trigger := ⟨triggerChannel (s.entry .fresh) (s.zone .fresh).source,
        triggerChannel (s.entry .chill) (s.zone .chill).source,
        triggerChannel (s.entry .freeze) (s.zone .freeze).source⟩ } } := by
  have hlast : s.atLastInstant = false := decide_eq_false fun h => h.1.not_gt hup
  rw [State.tickClock, if_neg hms.not_gt, hlast]
  rfl

theorem State.tickClock_of_last (hms : 999 ≤ s.time.ms) (hup : 4294967295 ≤ s.time.uptime) : s.tickClock = s := by
  have hlast : s.atLastInstant = true := decide_eq_true ⟨hup, hms⟩
  rw [State.tickClock, if_neg hms.not_gt, if_pos hlast]

/-! ### The idle step -/

section Idle

variable (hpending : s.pending = [])

include hpending

theorem step_of_due {d : Deadline} {ds : List Deadline} (hd : s.time.deadlines = d :: ds)
    (hdue : d.due.toMs ≤ s.now.toMs) : step s = .next s.entryFallsDue := by
  rw [step_of_idle hpending, State.idle, if_pos (State.entryDue_of_due hd hdue)]

variable (hearly : ∀ d ∈ s.time.deadlines.head?, s.now.toMs < d.due.toMs)

include hearly

theorem step_of_flapEnds {dest : Path} {ends : Instant} (hmoves : s.air.flapMotion = .moving dest ends)
    (hends : ends.toMs ≤ s.now.toMs) : step s = exec .flapArrival s := by
  have hdue := (State.flapDue_eq_some dest).2 ⟨ends, hmoves, hends⟩
  rw [step_of_idle hpending, State.idle_of_flapDue (State.entryDue_of_early hearly) hdue,
    execFlapArrival_of_moving hmoves, if_pos hends]

variable (hflap : ¬ ∃ dest ends, s.air.flapMotion = .moving dest ends ∧ ends.toMs ≤ s.now.toMs)

include hflap

theorem step_of_storeEnds {w : StoreWrite} (hw : s.store.writing = some w)
    (hends : w.began.toMs + 400 ≤ s.now.toMs) : step s = exec .storeWriteEnd s := by
  have hdue := (State.storeDue_eq_some w).2 ⟨hw, hends⟩
  rw [step_of_idle hpending, State.idle_of_storeDue (State.entryDue_of_early hearly) (State.flapDue_eq_none hflap) hdue,
    exec, execStoreWriteEnd, hw]

theorem step_of_clock (hstore : ¬ ∃ w, s.store.writing = some w ∧ w.began.toMs + 400 ≤ s.now.toMs) :
    step s = .next s.tickClock := by
  rw [step_of_idle hpending, State.idle_of_none (State.entryDue_of_early hearly) (State.flapDue_eq_none hflap)
    (State.storeDue_eq_none hstore)]

end Idle

/-- Settles O3: the first entry by its due instant, and an idle step by what it finds over, in its order. -/
theorem theClockMovesAndDueEntriesLeave : Obligations.TheClockMovesAndDueEntriesLeave := by
  constructor
  case left =>
    intro s d ds hd
    refine ⟨fun hdue => ?due, fun hearly => congrArg _ (State.entryFallsDue_of_early hd hearly)⟩
    rw [← State.entryFallsDue_of_due hd hdue]
    exact ⟨rfl, fun hpending => step_of_due hpending hd hdue⟩
  case right =>
    intro s hpending hearly flapEnds storeEnds trigger
    refine ⟨fun ⟨_, _, hmoves, hends⟩ => step_of_flapEnds hpending hearly hmoves hends,
      fun hflap ⟨_, hw, hends⟩ => step_of_storeEnds hpending hearly hflap hw hends, fun hflap hstore => ?clock⟩
    rw [step_of_clock hpending hearly hflap hstore]
    exact ⟨fun hms => congrArg _ (State.tickClock_of_below hms),
      fun hms hup => congrArg _ (State.tickClock_of_second hms hup),
      fun hms hup => congrArg _ (State.tickClock_of_last hms hup)⟩

end Sys2Proof.Machine
end

section
/-! The receiver of the control link and the judging of its frames (R179, R181, R183): a character in each receiver state,
and a complete frame row by row. -/

namespace Sys2Proof.Machine

open Sys2Proof.Safety

/-! ### The requests among the commands (R185) -/

section Requests

variable {c : Instr} {req : List Byte} (h : requestBytes c = some req)

include h

/-- A request command is served by its owning block, under its own bytes. -/
theorem exec_eq_serve : ∃ act, ∀ s, exec c s = .next (s.serve req act) := by
  cases c <;> cases h <;> exact ⟨_, fun _ => rfl⟩

theorem requestLen_of_requestBytes : requestLen (req.headD 0) = some req.length := by
  cases c <;> cases h <;> rfl

end Requests

/-! ### Judging a frame (R181, R183) -/

section Judging

variable {s : State} {len : Nat} {got : List Byte}

theorem judgeFrame_of_check (h : byteOf len + byteSum got ≠ 0) : judgeFrame len got = some .check := if_pos h

section SumZero

variable (hsum : byteOf len + byteSum got = 0)

include hsum

theorem judgeFrame_of_unknown (h : requestLen (got.headD 0) = none) : judgeFrame len got = some .unknown := by
  simp only [judgeFrame, hsum, ne_eq, not_true_eq_false, if_false, h]

theorem judgeFrame_of_known {n : Nat} (h : requestLen (got.headD 0) = some n) :
    judgeFrame len got = if n = len then none else some .length := by
  simp only [judgeFrame, hsum, ne_eq, not_true_eq_false, if_false, h]

end SumZero

theorem State.completeFrame_of_busy (h : s.link.port ≠ .idle) : s.completeFrame len got = s.discardFrame := if_pos h

theorem State.completeFrame_of_refused {st : Status} (h : s.link.port = .idle) (hj : judgeFrame len got = some st) :
    s.completeFrame len got = s.refuseFrame st := by
  simp only [State.completeFrame, h, ne_eq, not_true_eq_false, if_false, hj]

theorem State.completeFrame_of_passed (h : s.link.port = .idle) (hj : judgeFrame len got = none) :
    s.completeFrame len got = s.handRequest got.dropLast := by
  simp only [State.completeFrame, h, ne_eq, not_true_eq_false, if_false, hj]

/-- Whatever the judgement, it is the link port's alone, and the receiver stands. -/
theorem State.completeFrame_eq_setLink (s : State) (len : Nat) (got : List Byte) :
    ∃ l, s.completeFrame len got = s.setLink l ∧ l.rx = s.link.rx := by
  unfold State.completeFrame
  split
  · exact ⟨_, rfl, rfl⟩
  · split <;> exact ⟨_, rfl, rfl⟩

end Judging

/-! ### A character (R179) -/

section Receiver

variable {s : State} {b : Byte}

theorem State.receive_of_hunt (h : s.link.rx = .hunt) : s.receive b = if b = 0x5C then s.setRx .count else s := by
  simp only [State.receive, h]

theorem State.receive_of_count (h : s.link.rx = .count) (hlen : 1 ≤ b.toNat ∧ b.toNat ≤ 60) :
    s.receive b = s.setRx (.body b.toNat []) := by simp only [State.receive, h, if_pos hlen]

theorem State.receive_of_badCount (h : s.link.rx = .count) (hlen : b.toNat = 0 ∨ 60 < b.toNat) :
    s.receive b = (s.setRx .drain).lengthFrame := by
  have hout : ¬ (1 ≤ b.toNat ∧ b.toNat ≤ 60) := by omega
  simp only [State.receive, h, if_neg hout]

theorem State.receive_of_drain (h : s.link.rx = .drain) : s.receive b = s := by simp only [State.receive, h]

section Body

variable {len : Nat} {got : List Byte} (h : s.link.rx = .body len got)

include h

theorem State.receive_of_body_short (hlen : got.length < len) : s.receive b = s.setRx (.body len (got ++ [b])) := by
  simp only [State.receive, h, List.length_append, List.length_singleton, Nat.add_le_add_iff_right, if_neg hlen.not_ge]

theorem State.receive_of_body_full (hlen : len ≤ got.length) :
    s.receive b = (s.setRx .hunt).completeFrame len (got ++ [b]) := by
  simp only [State.receive, h, List.length_append, List.length_singleton, Nat.add_le_add_iff_right, if_pos hlen]

end Body

end Receiver

/-- Settles O5: one case for each receiver state, in COUNT by the range of LEN, in BODY by whether the frame is complete. -/
theorem receiverMovesByItsTable : Obligations.ReceiverMovesByItsTable := by
  intro s b
  have hchar : exec (.characterReceived b) s = .next (s.receive b) := rfl
  have hframing : exec .framingError s = execFramingError s := rfl
  rw [hchar, hframing, execFramingError]
  refine ⟨fun h => ?hunt, fun h => ?count, fun len got h => ?body, fun h => ?drain, rfl⟩
  case hunt =>
    rw [State.receive_of_hunt h, h]
    exact ⟨rfl, rfl⟩
  case count =>
    refine ⟨fun hlen => ?counted, fun hlen => ?lengthFrame, by rw [h]; rfl⟩
    case counted => rw [State.receive_of_count h hlen]; rfl
    case lengthFrame =>
      rw [State.receive_of_badCount h hlen]
      exact ⟨fun hidle => congrArg _ (if_neg (not_not_intro hidle)), fun hbusy => congrArg _ (if_pos hbusy)⟩
  case body =>
    refine ⟨fun hlen => ?gathers, fun hlen => ?completes, by rw [h]; rfl⟩
    case gathers => rw [State.receive_of_body_short h hlen]; rfl
    case completes =>
      obtain ⟨l, hl, hrx⟩ := (s.setRx .hunt).completeFrame_eq_setLink len (got ++ [b])
      rw [State.receive_of_body_full h hlen, hl]
      exact ⟨_, rfl, hrx, rfl⟩
  case drain =>
    rw [State.receive_of_drain h, h]
    exact ⟨rfl, rfl⟩

/-- Settles O6: the rows of R181 for the last character, the whole frames that the port refuses, and the frames that find it
busy. -/
theorem completeFrameIsJudgedByRows : Obligations.CompleteFrameIsJudgedByRows := by
  refine ⟨fun s len got b hrx hlen => ?lastCharacter, fun w s => ?refusedFrame,
    fun c s => ⟨fun hbusy hc => ?overrun, fun hidle => ?idle⟩⟩
  case lastCharacter =>
    have hexec : exec (.characterReceived b) s = .next ((s.setRx .hunt).completeFrame len (got ++ [b])) :=
      congrArg _ (State.receive_of_body_full hrx hlen.ge)
    rw [hexec]
    refine ⟨fun hbusy => congrArg _ (State.completeFrame_of_busy hbusy), fun hidle => ?_⟩
    have refused {st : Status} (hj : judgeFrame len (got ++ [b]) = some st) :
        (s.setRx .hunt).completeFrame len (got ++ [b]) = (s.setRx .hunt).refuseFrame st :=
      State.completeFrame_of_refused hidle hj
    refine ⟨fun hsum => congrArg _ (refused (judgeFrame_of_check hsum)), fun hsum =>
      ⟨fun hcode => congrArg _ (refused (judgeFrame_of_unknown hsum hcode)),
        fun n hcode => ⟨fun hn => ?length, fun hn => ?passed⟩⟩⟩
    case length => exact congrArg _ (refused ((judgeFrame_of_known hsum hcode).trans (if_neg hn)))
    case passed =>
      rw [State.completeFrame_of_passed (s := s.setRx .hunt) hidle ((judgeFrame_of_known hsum hcode).trans (if_pos hn)),
        List.dropLast_concat]
      rfl
  case refusedFrame =>
    have hexec : exec (.frameRefused w) s = execFrameRefused w s := rfl
    rw [hexec, execFrameRefused]
    refine ⟨fun hidle => ?_, fun hbusy => ?_⟩
    · rw [if_neg (not_not_intro hidle)]
      cases w <;> rfl
    · rw [if_pos hbusy]
      cases w <;> rfl
  case overrun =>
    rcases hc with ⟨req, hreq, hwaits⟩ | rfl
    · obtain ⟨act, hexec⟩ := exec_eq_serve hreq
      rw [hexec, State.serve_of_busy act hbusy hwaits]
      rfl
    · exact congrArg _ (if_pos hbusy)
  case idle => exact congrArg _ (if_neg (not_not_intro hidle))

end Sys2Proof.Machine
end

section
/-! A request from the wire to its block (R178 to R181, R185): the characters of its frame through the receiver, and the
samples of a line through the decisions on its bits. -/

namespace Sys2Proof.Machine

open Sys2Proof.Safety

/-! ### A frame received (R179) -/

/-- Characters that are all received leave what the receiver makes of them one after the other. -/
theorem runAll_characterReceived (bs : List Byte) (s : State) :
    runAll (bs.map .characterReceived) s = some (bs.foldl State.receive s) := by
  induction bs generalizing s with
  | nil => rfl
  | cons b bs ih => exact ih (s.receive b)

/-- In BODY the characters that LEN still allows are stored. -/
theorem State.foldl_receive_of_body {s : State} {len : Nat} (bs : List Byte) {got : List Byte}
    (hrx : s.link.rx = .body len got) (hlen : got.length + bs.length ≤ len) :
    bs.foldl State.receive s = s.setRx (.body len (got ++ bs)) := by
  induction bs generalizing s got with
  | nil =>
    rw [List.append_nil, ← hrx]
    rfl
  | cons b bs ih =>
    rw [List.length_cons] at hlen
    have hstored : (got ++ [b]).length + bs.length ≤ len := by
      rw [List.length_append, List.length_singleton]
      omega
    rw [List.foldl_cons, State.receive_of_body_short hrx (by omega), ih rfl hstored, List.append_assoc]
    rfl

/-- SYNC, a LEN in range, as many characters and one more complete a frame. -/
theorem State.foldl_receive_frame {s : State} {req : List Byte} (check : Byte) (hrx : s.link.rx = .hunt)
    (hlen : 1 ≤ req.length ∧ req.length ≤ 60) :
    ([0x5C, byteOf req.length] ++ req ++ [check]).foldl State.receive s
      = (s.setRx .hunt).completeFrame req.length (req ++ [check]) := by
  have hcode : (byteOf req.length).toNat = req.length := by
    rw [byteOf, BitVec.toNat_ofNat, Nat.mod_eq_of_lt (by omega)]
  have hcounted : (s.setRx .count).receive (byteOf req.length) = (s.setRx .count).setRx (.body req.length []) := by
    rw [State.receive_of_count rfl (hcode.symm ▸ hlen), hcode]
  rw [List.append_assoc, List.foldl_append, List.foldl_cons, List.foldl_cons, List.foldl_nil, State.receive_of_hunt hrx,
    if_pos rfl, hcounted, List.foldl_append, State.foldl_receive_of_body req rfl (by simp), List.foldl_cons, List.foldl_nil,
    State.receive_of_body_full rfl le_rfl]
  rfl

theorem requestLen_bounds {code : Byte} {n : Nat} (h : requestLen code = some n) : 1 ≤ n ∧ n ≤ 60 := by
  unfold requestLen at h
  split at h <;> cases h <;> decide

/-- A request with its CHECK passes every row of R181. -/
theorem judgeFrame_requestFrame {c : Instr} {req : List Byte} (h : requestBytes c = some req) :
    judgeFrame req.length (req ++ [checkOf (byteOf req.length :: req)]) = none := by
  have hknown := requestLen_of_requestBytes h
  have hhead (check : Byte) : (req ++ [check]).headD 0 = req.headD 0 := by
    cases req with
    | nil => cases hknown
    | cons _ _ => rfl
  exact (judgeFrame_of_known (byteSum_append_checkOf (byteOf req.length :: req)) ((hhead _).symm ▸ hknown)).trans
    (if_pos rfl)

theorem runAll_requestFrame {c : Instr} {req : List Byte} {s : State} (h : requestBytes c = some req)
    (hrx : s.link.rx = .hunt) (hidle : s.link.port = .idle) :
    runAll ((requestFrame req).map .characterReceived) s = some ((s.setRx .hunt).handRequest req) := by
  rw [runAll_characterReceived, requestFrame,
    State.foldl_receive_frame _ hrx (requestLen_bounds (requestLen_of_requestBytes h)),
    State.completeFrame_of_passed (s := s.setRx .hunt) hidle (judgeFrame_requestFrame h), List.dropLast_concat]

/-! ### The bits of a character (R178) -/

/-- The data bits of a number, sent least significant first, have its value. -/
theorem dataValue_bits (w n : Nat) :
    dataValue ((List.range w).map fun i => if n.testBit i then .high else .low) = n % 2 ^ w := by
  induction w generalizing n with
  | zero => simp [dataValue, Nat.mod_one]
  | succ w ih =>
    have hrest := ih (n / 2)
    simp only [← Nat.testBit_succ] at hrest
    have hfirst : (if (if n.testBit 0 then Level.high else .low) = .high then 1 else 0) = n % 2 := by
      rw [Nat.testBit_zero]
      rcases Nat.mod_two_eq_zero_or_one n with h | h <;> simp [h]
    rw [List.range_succ_eq_map, List.map_cons, List.map_map, dataValue, hfirst, pow_succ', Nat.mod_mul, ← hrest]
    rfl

theorem vote_self (x : Level) : vote x x x = x := by cases x <;> rfl

/-- Each of a bit time's samples is its level. -/
theorem sampled_append_getElem? {levels : List Level} (rest : List Level) {i j : Nat} (hi : i < levels.length)
    (hj : j < 16) : (sampled levels ++ rest)[16 * i + j]? = levels[i]? := by
  induction levels generalizing i with
  | nil => cases hi
  | cons x xs ih =>
    have hcons : sampled (x :: xs) ++ rest = List.replicate 16 x ++ (sampled xs ++ rest) := by
      rw [← List.append_assoc]
      rfl
    rw [hcons]
    cases i with
    | zero =>
      rw [List.getElem?_append_left (by simpa using hj), List.getElem?_replicate_of_lt (by omega)]
      rfl
    | succ i =>
      rw [List.getElem?_append_right (by rw [List.length_replicate]; omega), List.length_replicate,
        show 16 * (i + 1) + j - 16 = 16 * i + j by omega, ih (Nat.lt_of_succ_lt_succ hi)]
      rfl

theorem sampled_append_getD {levels : List Level} (rest : List Level) {i j : Nat} (hi : i < levels.length) (hj : j < 16) :
    (sampled levels ++ rest).getD (16 * i + j) .high = levels.getD i .high := by
  rw [List.getD_eq_getElem?_getD, sampled_append_getElem? rest hi hj, List.getD_eq_getElem?_getD]

theorem decideBit_sampled {levels : List Level} (rest : List Level) {i : Nat} (hi : i < levels.length) :
    decideBit (sampled levels ++ rest) i = levels.getD i .high := by
  rw [decideBit, sampled_append_getD rest hi (by decide), sampled_append_getD rest hi (by decide),
    sampled_append_getD rest hi (by decide), vote_self]

theorem characterLevels_length (b : Byte) : (characterLevels b).length = 10 := rfl

theorem characterLevels_getD_data (b : Byte) {i : Nat} (hi : i < 8) :
    (characterLevels b).getD (i + 1) .high = if b.toNat.testBit i then .high else .low := by
  rw [characterLevels, List.cons_append, List.getD_cons_succ, List.getD_append _ _ _ _ (by simpa using hi)]
  simp [List.getD_eq_getElem?_getD, hi, BitVec.getLsbD]

/-- The samples of a character are decided as that character. -/
theorem decideCharacter_sampled (b : Byte) (rest : List Level) :
    decideCharacter (sampled (characterLevels b) ++ rest) = .character b := by
  have hbit {i : Nat} (hi : i < 10) := decideBit_sampled (levels := characterLevels b) rest hi
  have hdata : (List.range 8).map (fun i => decideBit (sampled (characterLevels b) ++ rest) (i + 1))
      = (List.range 8).map fun i => if b.toNat.testBit i then .high else .low :=
    List.map_congr_left fun i hi => by
      rw [List.mem_range] at hi
      rw [hbit (by omega), characterLevels_getD_data b hi]
  have hstart : (characterLevels b).getD 0 .high = .low := rfl
  have hstop : (characterLevels b).getD 9 .high = .high := rfl
  rw [decideCharacter, hbit (by decide), hbit (by decide), hstart, hstop, hdata, dataValue_bits, ← BitVec.toNat_ofNat]
  simp

/-! ### A line heard (R178) -/

/-- A falling edge with a whole character's samples after it is decided. -/
theorem hearLine_of_edge {n : Nat} {xs : List Level} (h : 152 ≤ xs.length) :
    hearLine (n + 1) .high (.low :: xs) = decideCharacter (.low :: xs)
      :: hearLine n ((Level.low :: xs).getD ((decideCharacter (.low :: xs)).samplesTaken - 1) .high)
        ((Level.low :: xs).drop (decideCharacter (.low :: xs)).samplesTaken) := by
  rw [hearLine, if_pos ⟨rfl, rfl⟩, if_neg (by rw [List.length_cons]; omega)]

/-- The levels of an idle line are passed over. -/
theorem hearLine_of_idle (k n : Nat) (rest : List Level) :
    hearLine (k + n) .high (List.replicate k .high ++ rest) = hearLine n .high rest := by
  induction k with
  | zero => rw [Nat.zero_add, List.replicate_zero, List.nil_append]
  | succ k ih =>
    rw [Nat.succ_add, List.replicate_succ, List.cons_append, hearLine, if_neg (by simp), ih]

theorem hearLine_nil (n : Nat) (last : Level) : hearLine n last [] = [] := by cases n <;> rfl

/-- A character is heard, and the rest of its stop bit passed over, before the next one. -/
theorem hearLine_character (b : Byte) (n : Nat) (rest : List Level) :
    hearLine (8 + n) .high (sampled (characterLevels b) ++ rest) = .character b :: hearLine n .high rest := by
  obtain ⟨xs, hxs⟩ : ∃ xs, sampled (characterLevels b) ++ rest = .low :: xs := ⟨_, rfl⟩
  have hlength : 152 ≤ xs.length := by
    have h := congrArg List.length hxs
    rw [List.length_append, List.length_cons, show (sampled (characterLevels b)).length = 160 from rfl] at h
    omega
  have hlast : (sampled (characterLevels b) ++ rest).getD 152 .high = .high :=
    sampled_append_getD (i := 9) (j := 8) rest (Nat.lt_succ_self 9) (by decide)
  have hdrop : (sampled (characterLevels b) ++ rest).drop 153 = List.replicate 7 .high ++ rest := rfl
  have hdecided := decideCharacter_sampled b rest
  rw [hxs] at hlast hdrop hdecided ⊢
  rw [show 8 + n = (7 + n) + 1 by omega, hearLine_of_edge hlength, hdecided]
  simp only [LineDecision.samplesTaken, Nat.add_one_sub_one]
  rw [hlast, hdrop, hearLine_of_idle]

theorem hearLine_characters (bs : List Byte) (n : Nat) :
    hearLine (8 * bs.length + n) .high (sampled (bs.flatMap characterLevels)) = bs.map .character := by
  induction bs with
  | nil => exact hearLine_nil _ _
  | cons b bs ih =>
    have hcons : sampled ((b :: bs).flatMap characterLevels)
        = sampled (characterLevels b) ++ sampled (bs.flatMap characterLevels) := List.flatMap_append
    rw [hcons, List.length_cons, show 8 * (bs.length + 1) + n = 8 + (8 * bs.length + n) by omega, hearLine_character, ih,
      List.map_cons]

theorem sampled_characters_length (bs : List Byte) : (sampled (bs.flatMap characterLevels)).length = 160 * bs.length := by
  simp [sampled, characterLevels_length, List.length_flatMap]
  omega

/-- Settles O4: a framed request passes through the receiver and the rows of R181, and each character sent is heard. -/
theorem requestFrameReachesItsBlock : Obligations.RequestFrameReachesItsBlock := by
  refine ⟨fun c req s hreq hrx hidle => ?frame, fun bs => ?line⟩
  case frame =>
    have hself : (s.setRx .hunt).handRequest req = s.handRequest req := by
      rw [← hrx]
      rfl
    rw [runAll_requestFrame hreq hrx hidle, hself]
    rfl
  case line =>
    rw [lineCommands, sampled_characters_length, show 160 * bs.length = 8 * bs.length + 152 * bs.length by omega,
      hearLine_characters, List.filterMap_map]
    exact congrFun List.filterMap_eq_map' bs

end Sys2Proof.Machine
end

section
/-! The reply (R180, R182, R184, R189): the frame that its transmission sends, and what its end leaves, after RESTART too. -/

namespace Sys2Proof.Machine

open Sys2Proof.Safety

variable {s : State}

/-- The three bits of LINKFLAGS (R184). -/
theorem linkFlags_eq (overrun attn clamped : Bool) : linkFlags overrun attn clamped
    = (if overrun then 1 else 0) + (if attn then 2 else 0) + (if clamped then 4 else 0) := by
  cases overrun <;> cases attn <;> cases clamped <;> rfl

theorem execReplyStart_of_formed {r : Reply} (hport : s.link.port = .serving) (hreply : s.link.reply = some r) :
    exec .replyStart s = .next (s.beginReply r) := by simp only [exec, execReplyStart, hport, hreply]

/-- Settles O7: the frame of a formed reply is its body and the CHECK that makes the sum 0. -/
theorem replyStartSendsTheFrame : Obligations.ReplyStartSendsTheFrame := by
  intro s r hport hreply
  let flags := linkFlags s.link.overrun s.notice.attn r.clamped
  exact ⟨flags, checkOf (replyBody r flags), linkFlags_eq .., byteSum_append_checkOf (replyBody r flags),
    execReplyStart_of_formed hport hreply⟩

section Sent

variable (hport : s.link.port = .sending) (x : Straps)

include hport

theorem execReplySent_of_sending : exec (.replySent x) s
    = .next (if s.link.restarting then s.restart x else s.setLink { s.link with port := .idle, tx := [] }) :=
  congrArg _ (if_pos hport)

theorem execReplySent_of_restarting (h : s.link.restarting = true) : exec (.replySent x) s = .next (s.restart x) := by
  rw [execReplySent_of_sending hport, if_pos h]

theorem execReplySent_of_ordinary (h : s.link.restarting = false) :
    exec (.replySent x) s = .next (s.setLink { s.link with port := .idle, tx := [] }) := by
  rw [execReplySent_of_sending hport, h]
  rfl

end Sent

/-- Of the path state a restart leaves only a LOCKOUT (R86). -/
theorem State.restart_arb_state (s : State) (x : Straps) :
    (s.restart x).arb.state = if s.arb.state = .halted .lockout then .halted .lockout else .off := by
  by_cases h : s.arb.state = .halted .lockout <;> simp [State.restart, State.startUp, startArbiter, h]

/-- Settles O8: RESTART marks the port before its reply is formed, and the mark decides what the end of a reply leaves. -/
theorem replySentEndsTheRequest : Obligations.ReplySentEndsTheRequest := by
  intro s x
  refine ⟨fun ht => ?marks, fun hport => ⟨execReplySent_of_ordinary hport x, fun hrestart => ?restarts⟩⟩
  case marks =>
    have hexec : exec .restart s = .next (s.serve [0x03] restartRequest) := rfl
    rw [hexec, State.serve_of_taken (req := [0x03]) ht, linkAfter_eq]
    rfl
  case restarts =>
    exact ⟨_, execReplySent_of_restarting hport x hrestart, rfl, rfl, rfl, rfl, rfl, s.restart_arb_state x, rfl, rfl⟩

end Sys2Proof.Machine
end

section
/-! The queries (R18, R19, R55, R139, R187, R188, R196): each is answered with its fields as they stand, and changes
nothing. -/

namespace Sys2Proof.Machine

open Sys2Proof.Safety

/-! ### A request answered -/

/-- A request whose work is said apart from the link port is answered, whichever way it was taken. -/
theorem State.serve_answers {c : Instr} {s t : State} {req : List Byte} {act : State → State × Reply} {r : Reply}
    (hc : requestBytes c = some req) (ht : Taken c s) (hact : ∀ l, act (s.setLink l) = (t.setLink l, r)) :
    s.serve req act = answered c s t r := by
  rw [State.serve_answered hc ht (by rw [hact]; rfl), hact]
  rfl

/-! ### The fields of a reply (R180, R185) -/

@[simp] theorem u16_length (n : Nat) : (u16 n).length = 2 := rfl

@[simp] theorem i16_length (x : Int) : (i16 x).length = 2 := rfl

@[simp] theorem u32_length (n : Nat) : (u32 n).length = 4 := rfl

@[simp] theorem dueBytes_length (due : Nat) : (dueBytes due).length = 4 := by
  unfold dueBytes
  split <;> rfl

/-- The entries of a reply that lists entries of one length stand one after the other. -/
theorem take_drop_flatMap {α : Type} {f : α → List Byte} {m : Nat} (hf : ∀ x, (f x).length = m) {l : List α} {k : Nat}
    {x : α} (h : l[k]? = some x) : ((l.flatMap f).drop (m * k)).take m = f x := by
  induction l generalizing k with
  | nil => cases h
  | cons y ys ih =>
    rw [List.flatMap_cons]
    cases k with
    | zero =>
      cases h
      exact List.take_left' (hf x)
    | succ k =>
      rw [Nat.mul_succ, Nat.add_comm, ← List.drop_drop, List.drop_left' (hf y)]
      exact ih h

theorem length_flatMap_of_const {α : Type} {f : α → List Byte} {m : Nat} (hf : ∀ x, (f x).length = m) (l : List α) :
    (l.flatMap f).length = m * l.length := by
  simp [List.length_flatMap, hf, Nat.mul_comm]

/-! ### IDENT (R188) -/

theorem State.identBytes_eq (s : State) : s.identBytes = [0x56, 0x48, 0x30, 0x03, 1,
    (if s.straps.strap0 then 1 else 0) + (if s.straps.strap1 then 2 else 0), if s.store.defaulted then 1 else 0] := by
  have hstraps (a b : Bool) : byteOf (bit a 0 + bit b 1) = (if a then 1 else 0) + (if b then 2 else 0) := by
    cases a <;> cases b <;> rfl
  have hdefaulted (a : Bool) : byteOf (bit a 0) = if a then 1 else 0 := by cases a <;> rfl
  rw [State.identBytes, hstraps, hdefaulted]
  rfl

/-! ### SYSTEM QUERY (R187) -/

theorem contextBytes_length (c : Option Context) : (contextBytes c).length = 3 := by
  rcases c with _ | _ | _ <;> rfl

theorem Arbiter.bytes_length (a : Arbiter) : a.bytes.length = 14 := by simp [Arbiter.bytes, contextBytes_length]

theorem Defrost.bytes_length (d : Defrost) : d.bytes.length = 10 := by simp [Defrost.bytes]

theorem Air.bytes_length (a : Air) : a.bytes.length = 16 := by simp [Air.bytes]

/-- The reply by its four parts: the arbiter, the drive link with the mains, the defrost with the uptime, the air
handler. -/
theorem State.systemBytes_eq (s : State) : s.systemBytes = s.arb.bytes
    ++ ((s.drive.bytes ++ [byteOf s.meas.mains.state.code]) ++ ((s.defrost.bytes ++ u32 s.time.uptime) ++ s.air.bytes)) := by
  simp only [State.systemBytes, List.append_assoc]

section System

variable (s : State)

theorem State.systemBytes_drop_arbiter : s.systemBytes.drop 14
    = (s.drive.bytes ++ [byteOf s.meas.mains.state.code]) ++ ((s.defrost.bytes ++ u32 s.time.uptime) ++ s.air.bytes) := by
  rw [State.systemBytes_eq, List.drop_left' s.arb.bytes_length]

theorem State.systemBytes_drop_mains :
    s.systemBytes.drop 20 = (s.defrost.bytes ++ u32 s.time.uptime) ++ s.air.bytes := by
  rw [show 20 = 14 + 6 from rfl, ← List.drop_drop, State.systemBytes_drop_arbiter]
  rfl

theorem State.systemBytes_drop_uptime : s.systemBytes.drop 34 = s.air.bytes := by
  rw [show 34 = 20 + 14 from rfl, ← List.drop_drop, State.systemBytes_drop_mains,
    List.drop_left' (by rw [List.length_append, Defrost.bytes_length, u32_length])]

theorem State.systemBytes_length : s.systemBytes.length = 50 := by
  simp [State.systemBytes_eq, Arbiter.bytes_length, Defrost.bytes_length, Air.bytes_length, DriveLink.bytes]

end System

/-! ### ZONE QUERY (R55) -/

theorem State.zoneBytes_length (s : State) (z : Zone) : (s.zoneBytes z).length = 32 := by
  dsimp only [State.zoneBytes]
  split <;> simp

/-! ### HOLD QUERY (R18, R186) -/

theorem Hold.bytes_length (h : Hold) : h.bytes.length = 21 := by
  unfold Hold.bytes
  split <;> simp

/-! ### HOLD LIST (R19, R186) -/

theorem HoldTable.listEntry_length (t : HoldTable) (hd : Handle) : (t.listEntry hd).length = 2 := rfl

theorem HoldTable.listEntry_of_named {t : HoldTable} {hd : Handle} {h : Hold} (hn : t.named hd = some h) :
    t.listEntry hd = [byteOf (hd.slot + 32 * h.state.code), byteOf hd.gen] := by
  rw [HoldTable.listEntry, hn]
  rfl

/-! ### SENSOR QUERY (R139) -/

/-- A correction slot as SENSOR QUERY lists it: its number, the breakpoint and the value (R139, R185). -/
def correctionEntry (k : Nat × Correction) : List Byte := [byteOf k.1, byteOf k.2.index] ++ i16 k.2.value

theorem correctionEntry_length (k : Nat × Correction) : (correctionEntry k).length = 4 := rfl

/-- What SENSOR QUERY reports of a channel before its corrections. -/
def State.channelHead (s : State) (c : Channel) : List Byte :=
  [byteOf (channelCode c), byteOf (s.channel c).state.code] ++ u16 (s.channel c).raw
    ++ [byteOf (faultKindCode (s.channel c).faultKind), byteOf (bit (s.channel c).converted.isSome 0)]
    ++ i16 ((s.channel c).converted.getD 0) ++ i16 (s.channel c).f
    ++ [byteOf (s.channel c).badRun, byteOf (s.channel c).goodRun, byteOf (s.channel c).shift,
      byteOf (correctionsOf s.meas.corrections c).length]

theorem State.channelHead_length (s : State) (c : Channel) : (s.channelHead c).length = 14 := rfl

theorem State.channelBytes_eq (s : State) (c : Channel) :
    s.channelBytes c = s.channelHead c ++ (correctionsOf s.meas.corrections c).flatMap correctionEntry := rfl

theorem sensorQuery_of_channel {a : Byte} {c : Channel} {s : State} (h : channelOf a = some c) :
    sensorQuery a s = (s, okReply (s.channelBytes c)) := by
  have hne : a ≠ 6 := by
    rintro rfl
    cases h
  rw [sensorQuery, if_neg hne, h]

theorem sensorQuery_of_lt {a : Byte} {s : State} (h : 6 < a.toNat) : sensorQuery a s = (s, refuse .field) := by
  have hne : a ≠ 6 := by
    rintro rfl
    exact absurd h (lt_irrefl 6)
  rw [sensorQuery, if_neg hne, channelOf_eq_none_iff.2 (by omega)]

/-! ### The items of SETTINGS READ (R195, R196) -/

/-- The items in the order of their codes (R195). -/
def settingItems : List SettingItem :=
  [.regime, .defaultTarget .chilled, .defaultTarget .soft, .defaultTarget .frozen, .weight .fresh, .weight .chill,
    .weight .freeze, .margin .fresh, .margin .chill, .margin .freeze, .excursionTime, .blindCalling .fresh,
    .blindIdle .fresh, .blindCalling .chill, .blindIdle .chill, .blindCalling .freeze, .blindIdle .freeze, .maxSpeed,
    .interval, .shift .s0, .shift .s1, .shift .s2, .shift .s3, .shift .s4, .shift .s5, .sag, .recover, .rejection,
    .ajarTime, .freshPair, .freezePair, .chillPair .chilled, .chillPair .soft, .chillPair .frozen]

theorem itemOf_eq_getElem? (b : Byte) : itemOf b = settingItems[b.toNat]? := by
  unfold itemOf
  split
  case h_35 =>
    refine (List.getElem?_eq_none ?_).symm
    show 34 ≤ b.toNat
    simp only [imp_false] at *
    omega
  all_goals
    next h =>
    rw [h]
    rfl

/-- A read answers the bytes of the item at the code's place (R196). -/
theorem settingsRead_of_getElem? {s : State} {b : Byte} {v : List Byte}
    (h : (settingItems.map s.settingBytes)[b.toNat]? = some v) : settingsRead b s = (s, okReply (b :: v)) := by
  rw [List.getElem?_map, ← itemOf_eq_getElem?, Option.map_eq_some_iff] at h
  obtain ⟨i, hi, rfl⟩ := h
  simp only [settingsRead, hi]

theorem settingsRead_of_lt {s : State} {b : Byte} (h : 0x21 < b.toNat) : settingsRead b s = (s, refuse .field) := by
  simp only [settingsRead, itemOf_eq_getElem?, List.getElem?_eq_none (show settingItems.length ≤ b.toNat from h)]

/-- Settles O9: each query by the codes that it refuses, and the fields of its reply part by part. -/
theorem queriesAnswerAndChangeNothing : Obligations.QueriesAnswerAndChangeNothing := by
  constructor
  case left =>
    intro s ht
    rw [← s.identBytes_eq]
    exact congrArg _ (State.serve_answers rfl ht fun _ => rfl)
  intro s a g flag due context flap
  refine ⟨fun ht => ?system, fun ht => ⟨fun z hz => ?zone, fun hz => ?noZone⟩,
    fun ht => ⟨fun h hn => ?hold, fun hn => ?noHold⟩, fun ht => ⟨fun z hz => ?list, fun hz => ?noList⟩,
    fun ht => ⟨fun c hc => ?channel, fun hc => ?mains, fun hc => ?noSensor⟩, fun ht => ?settings⟩
  case system =>
    have hflap : s.air.flapMotion.code = flap.1 ∧ s.air.flapMotion.destCode = flap.2 := by
      dsimp only [flap]
      cases s.air.flapMotion <;> exact ⟨rfl, rfl⟩
    refine ⟨s.systemBytes, congrArg _ (State.serve_answers rfl ht fun _ => rfl), s.systemBytes_length,
      ?arbiter, ?driveAndMains, ?defrostAndUptime, ?air⟩
    case arbiter =>
      rw [State.systemBytes_eq, List.take_left' s.arb.bytes_length]
      rfl
    case driveAndMains =>
      rw [State.systemBytes_drop_arbiter]
      rfl
    case defrostAndUptime =>
      rw [State.systemBytes_drop_mains,
        List.take_left' (by rw [List.length_append, Defrost.bytes_length, u32_length])]
      rfl
    case air => rw [State.systemBytes_drop_uptime, Air.bytes, hflap.1, hflap.2]
  case zone =>
    have hcode : byteOf (zoneCode z) = a := by rw [← zoneOf_eq_some_iff.1 hz, byteOf_toNat]
    refine ⟨s.zoneBytes z, congrArg _ (State.serve_answers rfl ht fun l => ?_), s.zoneBytes_length z, ?_, ?_⟩
    · simp only [zoneQuery, hz]
      rfl
    · rw [← hcode]
      rfl
    · dsimp only [State.zoneBytes, due]
      cases (s.zone z).blindDue <;> rfl
  case noZone => exact congrArg _ (State.serve_refused rfl ht fun l => by simp only [zoneQuery, zoneOf_of_lt hz])
  case hold =>
    refine ⟨h.bytes, congrArg _ (State.serve_answers rfl ht fun l => ?_), h.bytes_length, ?_⟩
    · simp only [holdQuery, handleOf, State.setLink_holds, hn]
      rfl
    · dsimp only [Hold.bytes, due]
      cases h.expiry <;> rfl
  case noHold =>
    exact congrArg _ (State.serve_refused rfl ht fun l => by simp only [holdQuery, handleOf, State.setLink_holds, hn])
  case list =>
    refine ⟨byteOf (s.holds.lists.get z).length :: (s.holds.lists.get z).flatMap s.holds.listEntry,
      congrArg _ (State.serve_answers rfl ht fun l => ?_), ?_, rfl, fun k hd h hk hn => ?_⟩
    · simp only [holdList, hz]
      rfl
    · rw [List.length_cons, length_flatMap_of_const s.holds.listEntry_length, Nat.add_comm]
    · rw [Nat.add_comm, List.drop_succ_cons, take_drop_flatMap s.holds.listEntry_length hk,
        HoldTable.listEntry_of_named hn]
  case noList => exact congrArg _ (State.serve_refused rfl ht fun l => by simp only [holdList, zoneOf_of_lt hz])
  case channel =>
    have hcode : byteOf (channelCode c) = a := by rw [← channelOf_eq_some_iff.1 hc, byteOf_toNat]
    refine ⟨s.channelBytes c, congrArg _ (State.serve_answers rfl ht fun l => sensorQuery_of_channel hc), ?length, ?head,
      fun k i x hk => ?entry⟩ <;> rw [State.channelBytes_eq]
    case length => rw [List.length_append, State.channelHead_length, length_flatMap_of_const correctionEntry_length]
    case head =>
      rw [List.take_left' (s.channelHead_length c), ← hcode]
      rfl
    case entry =>
      rw [← List.drop_drop, List.drop_left' (s.channelHead_length c), take_drop_flatMap correctionEntry_length hk]
      rfl
  case mains =>
    have hcode : a = 6 := BitVec.eq_of_toNat_eq hc
    exact ⟨s.meas.mains.bytes, congrArg _ (State.serve_answers rfl ht fun l => if_pos hcode), rfl, rfl⟩
  case noSensor => exact congrArg _ (State.serve_refused rfl ht fun _ => sensorQuery_of_lt hc)
  case settings =>
    intro reads dt b shift values m pairs
    have hitems : settingItems.map s.settingBytes = values.map valueBytes ++ pairs.map pairBytes := rfl
    have answers {v : List Byte} (hv : (settingItems.map s.settingBytes)[a.toNat]? = some v) : reads v :=
      congrArg _ (State.serve_answers rfl ht fun l => settingsRead_of_getElem? (s := s.setLink l) hv)
    refine ⟨fun v hv => answers ?number, fun k p hk hp => ?pair,
      fun hlt => congrArg _ (State.serve_refused rfl ht fun _ => settingsRead_of_lt hlt)⟩
    case number =>
      rw [hitems, List.getElem?_append_left (List.length_map valueBytes ▸ (List.getElem?_eq_some_iff.1 hv).1),
        List.getElem?_map, hv]
      rfl
    case pair =>
      have hpair : reads (pairBytes p) := answers <| by
        rw [hitems, hk, List.getElem?_append_right (Nat.le_add_right 29 k), List.length_map,
          show 0x1D + k - values.length = k from Nat.add_sub_cancel_left .., List.getElem?_map, hp]
        rfl
      cases p <;> exact hpair

end Sys2Proof.Machine
end

section
/-! The notice unit (R190 to R192): the flags by their kinds, the judgement of ATTN, a raise, NOTICE NEXT and NOTICE
ENABLE. -/

namespace Sys2Proof.Machine

open Sys2Proof.Safety

/-! ### The kinds in their order (R190) -/

/-- The kind of code n stands at place n - 1. -/
theorem noticeOrder_getElem? (n : Notice) : noticeOrder[noticeCode n - 1]? = some n := by cases n <;> rfl

theorem noticeCode_getElem : ∀ i (h : i < noticeOrder.length), noticeCode noticeOrder[i] = i + 1 := by decide

theorem noticeCode_lt (n : Notice) : noticeCode n - 1 < 11 :=
  (List.getElem?_eq_some_iff.1 (noticeOrder_getElem? n)).1

theorem noticeOrder_getElem (n : Notice) : noticeOrder[noticeCode n - 1]'(noticeCode_lt n) = n :=
  (List.getElem?_eq_some_iff.1 (noticeOrder_getElem? n)).2

theorem noticePlace_inj {m n : Notice} : noticeCode m - 1 = noticeCode n - 1 ↔ m = n := by
  refine ⟨fun h => ?_, fun h => h ▸ rfl⟩
  have hm := noticeOrder_getElem? m
  rw [h, noticeOrder_getElem? n] at hm
  exact (Option.some.inj hm).symm

/-! ### The flags (R190, R191) -/

theorem noticeIn_bit (m n : Notice) : noticeIn m (noticeBit n) = decide (m = n) := by
  rw [noticeIn, noticeBit, BitVec.getLsbD_ofNat, decide_eq_true (noticeCode_lt m), Nat.testBit_two_pow, Bool.true_and,
    decide_eq_decide, eq_comm, noticePlace_inj]

theorem noticeIn_and (m : Notice) (x y : BitVec 11) : noticeIn m (x &&& y) = (noticeIn m x && noticeIn m y) :=
  BitVec.getLsbD_and

theorem noticeIn_or (m : Notice) (x y : BitVec 11) : noticeIn m (x ||| y) = (noticeIn m x || noticeIn m y) :=
  BitVec.getLsbD_or

theorem noticeIn_not (m : Notice) (x : BitVec 11) : noticeIn m (~~~x) = !noticeIn m x := by
  rw [noticeIn, BitVec.getLsbD_not, decide_eq_true (noticeCode_lt m), Bool.true_and]
  rfl

/-- Some flag of the eleven is set exactly when that of some kind is. -/
theorem ne_zero_iff_noticeIn {x : BitVec 11} : x ≠ 0 ↔ ∃ m, noticeIn m x = true := by
  refine ⟨fun h => ?_, ?_⟩
  · by_contra hnone
    refine h (BitVec.eq_of_getLsbD_eq fun i hi => ?_)
    have hkind : noticeCode noticeOrder[i] - 1 = i := by rw [noticeCode_getElem i hi, Nat.add_sub_cancel]
    have hclear : noticeIn noticeOrder[i] x = false := Bool.eq_false_iff.2 fun hset => hnone ⟨_, hset⟩
    rw [noticeIn, hkind] at hclear
    rw [hclear]
    exact BitVec.getLsbD_zero.symm
  · rintro ⟨m, hm⟩ rfl
    cases BitVec.getLsbD_zero.symm.trans hm

/-- ATTN by the kinds (R190). -/
theorem NoticeUnit.judged_attn_iff (u : NoticeUnit) :
    u.judged.attn = true ↔ ∃ m, noticeIn m u.pending = true ∧ noticeIn m u.enabled = true := by
  simp only [NoticeUnit.judged, decide_eq_true_eq, ne_zero_iff_noticeIn, noticeIn_and, Bool.and_eq_true]

theorem noticeIn_raised (u : NoticeUnit) (m n : Notice) :
    noticeIn m (u.raised n).pending = (noticeIn m u.pending || decide (m = n)) := by
  rw [← noticeIn_bit]
  exact noticeIn_or ..

theorem noticeIn_collected (u : NoticeUnit) (m n : Notice) :
    noticeIn m (u.collected n).pending = (noticeIn m u.pending && decide (m ≠ n)) := by
  rw [decide_not, ← noticeIn_bit, ← noticeIn_not]
  exact noticeIn_and ..

theorem noticeIn_enabledBy (u : NoticeUnit) (m : Notice) (mask : Half) :
    noticeIn m (u.enabledBy mask).enabled = mask.getLsbD (noticeCode m - 1) := by
  have h : noticeIn m (mask.setWidth 11) = mask.getLsbD (noticeCode m - 1) := by
    rw [noticeIn, BitVec.getLsbD_setWidth, decide_eq_true (noticeCode_lt m), Bool.true_and]
  exact h

/-- Bits 0 to 10 of a mask, as a mask (R191). -/
theorem setWidth_setWidth_eq_and (mask : Half) : (mask.setWidth 11).setWidth 16 = mask &&& 0x7FF := by
  apply BitVec.eq_of_toNat_eq
  have hmask : (0x7FF : Half).toNat = 2 ^ 11 - 1 := rfl
  rw [BitVec.toNat_and, hmask, Nat.and_two_pow_sub_one_eq_mod, BitVec.toNat_setWidth, BitVec.toNat_setWidth]
  omega

/-! ### The kind collected (R192) -/

section First

variable {u : NoticeUnit}

theorem NoticeUnit.first_eq_none (h : ∀ m, ¬ (noticeIn m u.pending = true ∧ noticeIn m u.enabled = true)) :
    u.first = none := by
  refine List.find?_eq_none.2 fun m _ => ?_
  rw [noticeIn_and, Bool.and_eq_true]
  exact h m

/-- The kind of the lowest code is the first in the order. -/
theorem NoticeUnit.first_eq_some {n : Notice} (hn : noticeIn n u.pending = true ∧ noticeIn n u.enabled = true)
    (hmin : ∀ m, noticeIn m u.pending = true ∧ noticeIn m u.enabled = true → noticeCode n ≤ noticeCode m) :
    u.first = some n := by
  refine List.find?_eq_some_iff_getElem.2 ⟨?_, noticeCode n - 1, noticeCode_lt n, noticeOrder_getElem n, fun j hj => ?_⟩
  · rwa [noticeIn_and, Bool.and_eq_true]
  · have hbefore := noticeCode_getElem j (hj.trans (noticeCode_lt n))
    rw [Bool.not_eq_true', noticeIn_and, Bool.eq_false_iff, ne_eq, Bool.and_eq_true]
    intro hready
    have := hmin _ hready
    omega

end First

/-- Settles O55: the flags of each kind after a raise, a collection and a mask, and ATTN judged by them. -/
theorem noticesAreRaisedCollectedAndEnabled : Obligations.NoticesAreRaisedCollectedAndEnabled := by
  refine ⟨fun n s rest h => ?raise,
    fun s => ⟨fun ht => ⟨fun hnone => ?nothing, fun n hn hmin => ?collected⟩, fun mask ht => ?enabled⟩⟩
  case raise =>
    have hexec : exec (.noticeRaise n) s = .next { s with notice := s.notice.raised n, events := rest } :=
      congrArg _ (State.takeEvent_of_some _ h)
    exact ⟨_, hexec, rfl, fun m => noticeIn_raised .., NoticeUnit.judged_attn_iff _⟩
  case nothing =>
    refine congrArg _ (State.serve_answers rfl ht fun l => ?_)
    simp only [noticeNext, State.setLink_notice, NoticeUnit.first_eq_none hnone]
    rfl
  case collected =>
    refine ⟨s.notice.collected n, congrArg _ (State.serve_answers rfl ht fun l => ?_), rfl,
      NoticeUnit.judged_attn_iff _, fun m => noticeIn_collected ..⟩
    simp only [noticeNext, State.setLink_notice, NoticeUnit.first_eq_some hn hmin]
    rfl
  case enabled =>
    refine ⟨s.notice.enabledBy mask, congrArg _ (State.serve_answers rfl ht fun l => ?_), rfl,
      NoticeUnit.judged_attn_iff _, fun m => noticeIn_enabledBy ..⟩
    rw [← setWidth_setWidth_eq_and]
    rfl

end Sys2Proof.Machine
end

section
/-! The settings store and start-up (R197, R198, R200): SETTINGS STORE, the values that an image gives, and the state after
reset. -/

namespace Sys2Proof.Machine

open Sys2Proof.Safety

/-! ### SETTINGS STORE (R198) -/

theorem execStoreWriteEnd_of_writing {s : State} {w : StoreWrite} (h : s.store.writing = some w) :
    exec .storeWriteEnd s = .next (s.endStore w) := by simp only [exec, execStoreWriteEnd, h]

theorem execStoreWriteEnd_of_idle {s : State} (h : s.store.writing = none) : exec .storeWriteEnd s = .next s := by
  simp only [exec, execStoreWriteEnd, h]

/-- Settles O57: the store is idle or writing, for the request and for the end of the write alike. -/
theorem settingsStoreWritesTheCopy : Obligations.SettingsStoreWritesTheCopy := by
  refine fun s => ⟨fun ht => ⟨fun hidle => congrArg _ (State.serve_answers rfl ht fun l => ?stores),
    fun hwriting => congrArg _ (State.serve_refused rfl ht fun l => ?busy)⟩,
    fun w hw => execStoreWriteEnd_of_writing hw, execStoreWriteEnd_of_idle⟩
  case stores =>
    simp only [settingsStore, State.setLink_store, hidle]
    rfl
  case busy =>
    obtain ⟨w, hw⟩ := Option.ne_none_iff_exists'.1 hwriting
    simp only [settingsStore, State.setLink_store, hw]

/-! ### What start-up takes from an image (R197) -/

/-- A count brought into its range is clamped to it. -/
theorem clampCount_eq (lo hi n : Nat) : clampCount lo hi n = clampNat lo hi n := by
  show (clampInt lo hi n).toNat = clampNat lo hi n
  unfold clampInt clampNat
  split_ifs <;> omega

theorem clampNat_zero (hi n : Nat) : clampNat 0 hi n = min hi n := by
  unfold clampNat
  split_ifs <;> omega

theorem adjustRejection_natCast (n : Nat) :
    (adjustRejection n).val = if n = 0 then 0 else if n ≤ 40 then 40 else if n ≤ 80 then 80 else 160 := by
  simp only [adjustRejection]
  split_ifs <;> omega

theorem settingsInRange_chillPair (g : Settings) (r : Regime) :
    (settingsInRange g).pairs.chill.get r = fallbackInRange (g.pairs.chill.get r) := by cases r <;> rfl

/-- Beyond the three BASE slots every slot is free (R30). -/
theorem startHolds_at_of_le (c : ImageContents) {i : Nat} (h : 3 ≤ i) : (startHolds c).at i = none := by
  obtain ⟨k, rfl⟩ := Nat.exists_eq_add_of_le' h
  show ((List.replicate 21 (⟨1, none⟩ : Slot))[k]?).bind (·.hold) = none
  rw [List.getElem?_replicate]
  split <;> rfl

section StartUp

variable (s : State) (x : Straps) (lockout : Bool) (faults : Nat)

/-- A start-up from a good image takes each of its values, brought into its range (R197). -/
theorem State.startUp_loadedFrom {c : ImageContents} (h : s.store.image = some c) :
    LoadedFrom c (s.startUp x lockout faults) := by
  unfold LoadedFrom
  intro g grid aim band weight margin pair side chill sag
  have hchill : startChillEntry (settingsInRange g) = chill := by
    simp only [startChillEntry, chillEntry, settingsInRange_chillPair, regimePath_eq]
    simp only [settingsInRange, clampCount_eq]
    rfl
  unfold State.startUp
  rw [h]
  refine ⟨rfl, fun i hi => ?free, fun z => ?zone, ?map, fun ch => ?channel, rfl, ?mains, ?excursion, ?speed, ?interval,
    ?ajar, adjustRejection_natCast g.rejection⟩
  case excursion => exact clampCount_eq 10 120 g.excursionTime
  case speed => exact clampCount_eq 60 100 g.maxSpeed
  case interval =>
    simp only [loadContents, settingsInRange, clampCount_eq, g]
  case ajar => exact clampCount_eq 60 600 g.ajarTime
  case free => exact startHolds_at_of_le _ hi
  case zone =>
    simp only [weight, ← clampCount_eq]
    cases z <;> exact ⟨rfl, rfl, rfl, rfl⟩
  case map =>
    show startMap (settingsInRange g) = _
    rw [startMap, hchill]
    simp only [weight, ← clampCount_eq]
    rfl
  case channel =>
    rw [← clampNat_zero, ← clampCount_eq]
    cases ch <;> rfl
  case mains =>
    show Mains.mk .normal 0 0 0 (settingsInRange g).sag (settingsInRange g).recover = _
    simp only [settingsInRange, adjustRecover, sag, ← clampCount_eq, clampCount]

/-- Without a good image a power-on reset leaves the factory's part, but for the straps and the queue (R197). -/
theorem State.startUp_of_bad (h : s.store.image = none) :
    { s.startUp x false 0 with straps := ⟨false, false⟩, pending := [] } = State.reset := by
  unfold State.startUp
  rw [h]
  rfl

/-- A restart is a start-up that a LOCKOUT and the fault count survive (R86). -/
theorem State.restart_eq :
    let t := s.startUp x false 0
    let survives : PathState := if s.arb.state = .halted .lockout then .halted .lockout else .off
    s.restart x = { t with
      arb := { t.arb with state := survives, faultCount := s.arb.faultCount }, air := { t.air with path := survives } } := by
  by_cases h : s.arb.state = .halted .lockout <;> simp [State.restart, State.startUp, startArbiter, startAir, h]

end StartUp

theorem State.atLastInstant_iff (s : State) : s.atLastInstant = true ↔ 4294967295 ≤ s.time.uptime ∧ 999 ≤ s.time.ms :=
  decide_eq_true_iff

/-- Settles O59: start-up sets every block from the contents it takes, and a restart is that start-up with what survives. -/
theorem startUpLeavesTheResetValues : Obligations.StartUpLeavesTheResetValues := by
  intro x s survives restarted
  refine ⟨s.startUp x false 0, rfl, rfl, rfl, rfl, rfl, rfl, rfl, rfl, rfl, rfl, rfl, rfl, rfl, rfl, rfl, rfl, rfl,
    rfl, rfl, rfl, rfl, fun d => ?door, fun c => ?channel, rfl, rfl, rfl, rfl, rfl, rfl, rfl, s.startUp_of_bad x,
    fun c => s.startUp_loadedFrom x false 0, fun hport hrestart => ?sent, fun hup hms => ?wraps, fun hbefore => ?before⟩
  case door => cases d <;> rfl
  case channel => cases c <;> exact ⟨rfl, rfl, rfl⟩
  case sent => rw [execReplySent_of_restarting hport x hrestart, s.restart_eq]
  case wraps =>
    have hrestart : exec (.uptimeWrapRestart x) s = .next (s.restart x) :=
      congrArg _ (if_pos (s.atLastInstant_iff.2 ⟨hup, hms⟩))
    rw [hrestart, s.restart_eq]
  case before =>
    refine congrArg _ (if_neg ?_)
    rw [s.atLastInstant_iff]
    omega

/-! ### The state after reset (R200) -/

/-- The state after reset is what start-up leaves of itself. -/
theorem State.startUp_reset : State.reset.startUp ⟨false, false⟩ false 0 = State.reset := rfl

/-- Settles O60: start-up leaves a sound hold table, deadline list and damper whatever the part; the other invariants read a
few fields of the state after reset. -/
theorem resetMeetsEveryInvariant : Obligations.ResetMeetsEveryInvariant := by
  have hdeadlines := State.startUp_sound State.reset ⟨false, false⟩ false 0
  have hdamper := State.startUp_damperSafe State.reset ⟨false, false⟩ false 0
  have hbase := State.startUp_baseSafe State.reset ⟨false, false⟩ false 0
  rw [State.startUp_reset] at hdeadlines hdamper hbase
  refine ⟨?heater, ?attn, ?speed, ?stack, ?urgency, ?transit, ?defrost, hdeadlines, ?coil, hdamper, hbase⟩ <;> decide

end Sys2Proof.Machine
end

section
/-! SETTINGS WRITE (R195): the items it refuses, and every other item brought into its range and put in place. -/

namespace Sys2Proof.Machine

open Sys2Proof.Safety

/-! ### A write and the link port -/

theorem State.handChange_setLink (s : State) (l : LinkPort) (z : Zone) (before : Option Governing) :
    (s.setLink l).handChange z before = (s.handChange z before).setLink l := by
  unfold State.handChange
  rw [State.governing_congr (s := s) (t := s.setLink l) rfl rfl]
  cases s.governing z with
  | none => rfl
  | some g =>
    dsimp only
    split <;> rfl

theorem State.compareInterval_setLink (s : State) (l : LinkPort) :
    (s.setLink l).compareInterval = s.compareInterval.setLink l := by
  unfold State.compareInterval
  rw [apply_ite (State.setLink · l), State.enterPending_eq, State.enterPending_eq]
  rfl

/-- A write neither reads the link port nor changes it. -/
theorem State.writeSetting_setLink (s : State) (l : LinkPort) (i : SettingItem) (v : Int) :
    (s.setLink l).writeSetting i v = (s.writeSetting i v).map fun w => (w.1.setLink l, w.2) := by
  cases i with
  | weight z =>
    simp only [State.writeSetting, State.writeWeight, Option.map_some, ← State.handChange_setLink]
    rfl
  | interval =>
    simp only [State.writeSetting, Option.map_some, ← State.compareInterval_setLink]
    rfl
  | _ => rfl

theorem State.settingBytes_setLink (s : State) (l : LinkPort) (i : SettingItem) :
    (s.setLink l).settingBytes i = s.settingBytes i := by cases i <;> rfl

/-! ### The range rules -/

theorem clampInt_toNat (lo hi : Nat) (v : Int) : ((clampInt lo hi v).toNat : Int) = clampInt lo hi v := by
  unfold clampInt
  split_ifs <;> omega

theorem clampSetting_clamped (lo hi : Nat) (v : Int) :
    (clampSetting lo hi v).clamped = decide (v < lo ∨ hi < v) := by
  simp only [clampSetting, clampInt_ne_self_iff]

/-! ### The two outcomes of the request -/

section Request

variable {s : State} {item : Byte} {value : Quad} (ht : Taken (.settingsWrite item value) s)

include ht

/-- An item that is written is answered with the value it then holds. -/
theorem exec_settingsWrite_of_written {t : State} {i : SettingItem} {clamped : Bool} {n : Int} (hi : itemOf item = some i)
    (hw : s.writeSetting i value.toInt = some (t, clamped)) (hn : t.settingBytes i = valueBytes n) :
    exec (.settingsWrite item value) s
      = .next (answered (.settingsWrite item value) s t ⟨.ok, clamped, item :: valueBytes n⟩) := by
  refine congrArg _ (State.serve_answers rfl ht fun l => ?_)
  simp only [settingsWrite, hi, State.writeSetting_setLink, hw, Option.map_some, State.settingBytes_setLink, hn]

/-- A code outside the table and a read-only item are refused (R195). -/
theorem exec_settingsWrite_of_refused (hw : ∀ i, itemOf item = some i → s.writeSetting i value.toInt = none) :
    exec (.settingsWrite item value) s = .next (refusedWith (.settingsWrite item value) s .field) := by
  refine congrArg _ (State.serve_refused rfl ht fun l => ?_)
  cases hi : itemOf item with
  | none => simp only [settingsWrite, hi]
  | some i => simp only [settingsWrite, hi, State.writeSetting_setLink, hw i hi, Option.map_none]

/-- A count that is clamped to its range as it is written, with CLAMPED where that moves it. -/
theorem exec_settingsWrite_of_clamped {i : SettingItem} {lo hi : Nat} (f : Nat → State) (hitem : itemOf item = some i)
    (hw : s.writeSetting i value.toInt
      = some (f (clampSetting lo hi value.toInt).val, (clampSetting lo hi value.toInt).clamped))
    (hn : ∀ n : Nat, (f n).settingBytes i = valueBytes n) :
    exec (.settingsWrite item value) s
      = .next (answered (.settingsWrite item value) s (f (clampInt lo hi value.toInt).toNat)
        ⟨.ok, decide (value.toInt < lo ∨ hi < value.toInt), item :: valueBytes (clampInt lo hi value.toInt)⟩) := by
  rw [clampSetting_clamped] at hw
  refine exec_settingsWrite_of_written ht hitem hw ?_
  rw [hn]
  exact congrArg valueBytes (clampInt_toNat lo hi _)

end Request

/-! ### The read-only items -/

theorem State.writeSetting_of_readOnly (s : State) {item : Byte} {i : SettingItem} (v : Int)
    (h : item = 0 ∨ 0x1D ≤ item.toNat) (hi : itemOf item = some i) : s.writeSetting i v = none := by
  rw [itemOf_eq_getElem?] at hi
  rcases h with rfl | h
  · cases hi
    rfl
  · obtain ⟨k, hk⟩ := Nat.exists_eq_add_of_le h
    rw [hk, ← List.getElem?_drop] at hi
    have hmem : i ∈ [.freshPair, .freezePair, .chillPair .chilled, .chillPair .soft, .chillPair .frozen] :=
      List.mem_of_getElem? hi
    simp only [List.mem_cons, List.not_mem_nil, or_false] at hmem
    rcases hmem with rfl | rfl | rfl | rfl | rfl <;> rfl

/-! ### What a written item reads back as (R196) -/

theorem State.writeWeight_bytes (s : State) (z : Zone) (n : Nat) :
    (s.writeWeight z n).settingBytes (.weight z) = valueBytes n := by
  simp [State.settingBytes, State.entry, State.writeWeight, State.setEntry, ZoneMap.editEntry]

theorem State.writeMargin_bytes (s : State) (z : Zone) (v : Int) :
    (s.writeMargin z v).settingBytes (.margin z) = valueBytes v := by
  simp [State.settingBytes, State.entry, State.writeMargin, State.setEntry, ZoneMap.editEntry]

theorem State.compareInterval_bytes (s : State) :
    s.compareInterval.settingBytes .interval = valueBytes s.defrost.interval := by
  unfold State.compareInterval
  split
  · rw [State.enterPending_eq]
    rfl
  · rfl

/-- Settles O56: the codes name the items, and each kind of item takes its value by its own range rule. -/
theorem settingsWriteIsBroughtIntoRange : Obligations.SettingsWriteIsBroughtIntoRange := by
  intro item value s c v held moved answers wrote grid target entry weight margin blind calling idle shift mains sag
    recover rejection secs longer changed runs ht
  have hwrote {i : SettingItem} {lo hi : Nat} (f : Nat → State) (hitem : itemOf item = some i)
    (hw : s.writeSetting i v = some (f (clampSetting lo hi v).val, (clampSetting lo hi v).clamped))
    (hn : ∀ n : Nat, (f n).settingBytes i = valueBytes n) : wrote lo hi (f (held lo hi).toNat) :=
      exec_settingsWrite_of_clamped ht f hitem hw hn
  have code {b : Byte} {i : SettingItem} (h : item = b) (hi : itemOf b = some i) : itemOf item = some i := h ▸ hi
  have htarget (r : Regime) (hitem : itemOf item = some (.defaultTarget r)) : target r := by
    cases r <;> exact exec_settingsWrite_of_written ht hitem rfl rfl
  have hweight (z : Zone) (hitem : itemOf item = some (.weight z)) : weight z := by
    have h : wrote 1 8 (s.writeWeight z (held 1 8).toNat) := hwrote (s.writeWeight z) hitem rfl (s.writeWeight_bytes z)
    rwa [State.writeWeight, State.handChange_eq] at h
  have hmargin (z : Zone) (hitem : itemOf item = some (.margin z)) : margin z := by
    have h : wrote 20 80 (s.writeMargin z (held 20 80).toNat) :=
      hwrote (s.writeMargin z ·) hitem rfl fun n => s.writeMargin_bytes z n
    rwa [show ((held 20 80).toNat : Int) = held 20 80 from clampInt_toNat 20 80 v] at h
  have hcalling (z : Zone) (hitem : itemOf item = some (.blindCalling z)) : blind z calling :=
    hwrote (fun n => s.writeBlind z (calling · n)) hitem rfl fun n => by cases z <;> rfl
  have hidle (z : Zone) (hitem : itemOf item = some (.blindIdle z)) : blind z idle :=
    hwrote (fun n => s.writeBlind z (idle · n)) hitem rfl fun n => by cases z <;> rfl
  have hshift (ch : Channel) (hitem : itemOf item = some (.shift ch)) : shift ch :=
    hwrote (fun n => s.setChannel ch { s.channel ch with shift := n }) hitem rfl fun n => by cases ch <;> rfl
  have hinterval (hitem : itemOf item = some .interval) : wrote 21600 259200 longer.compareInterval :=
    hwrote (fun n => (s.setDefrost { s.defrost with interval := n }).compareInterval) hitem rfl
      fun n => State.compareInterval_bytes _
  refine ⟨fun h => exec_settingsWrite_of_refused ht fun i => s.writeSetting_of_readOnly v h,
    ⟨fun h => htarget _ (code h rfl), fun h => htarget _ (code h rfl), fun h => htarget _ (code h rfl)⟩,
    ⟨fun h => hweight _ (code h rfl), fun h => hweight _ (code h rfl), fun h => hweight _ (code h rfl)⟩,
    ⟨fun h => hmargin _ (code h rfl), fun h => hmargin _ (code h rfl), fun h => hmargin _ (code h rfl)⟩,
    fun h => hwrote (fun n => s.setEval { s.eval with excursionTime := n }) (code h rfl) rfl fun n => rfl,
    ⟨fun h => hcalling _ (code h rfl), fun h => hidle _ (code h rfl), fun h => hcalling _ (code h rfl),
      fun h => hidle _ (code h rfl), fun h => hcalling _ (code h rfl), fun h => hidle _ (code h rfl)⟩,
    fun h => hwrote (fun n => s.setArb { s.arb with maxSpeed := n }) (code h rfl) rfl fun n => rfl,
    fun h => ⟨fun hquiet => ?stands, fun hp hreached => ?begins⟩,
    ⟨fun h => hshift _ (code h rfl), fun h => hshift _ (code h rfl), fun h => hshift _ (code h rfl),
      fun h => hshift _ (code h rfl), fun h => hshift _ (code h rfl), fun h => hshift _ (code h rfl)⟩,
    fun h => ?sag, fun h => ?recover, fun h => exec_settingsWrite_of_written ht (code h rfl) rfl rfl,
    fun h => hwrote (fun n => s.setDoors { s.doors with ajarTime := n }) (code h rfl) rfl fun n => rfl⟩
  case stands =>
    have hsame : longer.compareInterval = longer := if_neg fun hc => hquiet.elim (· hc.1) hc.2.not_gt
    exact hsame ▸ hinterval (code h rfl)
  case begins =>
    have hbegins : longer.compareInterval = longer.enterPending := State.compareInterval_of_reached hp hreached
    refine ⟨longer.enterPending, hbegins ▸ hinterval (code h rfl), ?_,
      State.enterPending_deadlines (timeKept_of_eq _ rfl) rfl⟩
    rw [State.enterPending_eq, append_frostHanded]
    rfl
  case sag =>
    refine exec_settingsWrite_of_written ht (code h rfl) ?_ rfl
    simp only [State.writeSetting, adjustSag, clampSetting_clamped]
    rfl
  case recover =>
    refine exec_settingsWrite_of_written ht (code h rfl) ?_ rfl
    simp only [State.writeSetting, adjustRecover, clampSetting_clamped]
    rfl

end Sys2Proof.Machine
end

section
/-! What every operation of the blocks leaves alone: the queue of commands, and the straps as start-up read them (R199). -/

namespace Sys2Proof.Machine

open Sys2Proof.Safety

/-- The queue of commands and the straps of `s` stand in `t` too. -/
@[simp] abbrev State.KeepsInput (s t : State) : Prop := t.pending = s.pending ∧ t.straps = s.straps

variable (s : State)

/-! ### Air handler, path arbiter, drive link -/

@[simp] theorem State.airTake_keepsInput (w : AirWork) : s.KeepsInput (s.airTake w) := by
  cases w <;> simp [State.airTake]

@[simp] theorem State.valveHomed_keepsInput : s.KeepsInput s.valveHomed := by
  unfold State.valveHomed
  split <;> simp

@[simp] theorem State.valveArrives_keepsInput (pos : Nat) : s.KeepsInput (s.valveArrives pos) := by
  unfold State.valveArrives
  split
  · split <;> simp
  · simp

@[simp] theorem State.endPumpdown_keepsInput : s.KeepsInput s.endPumpdown := by
  unfold State.endPumpdown
  split <;> simp

@[simp] theorem State.slewSpeed_keepsInput : s.KeepsInput s.slewSpeed := by
  unfold State.slewSpeed
  split <;> simp

@[simp] theorem State.takeNormal_keepsInput : s.KeepsInput s.takeNormal := by
  unfold State.takeNormal
  split <;> simp

@[simp] theorem State.recover_keepsInput : s.KeepsInput s.recover := by
  unfold State.recover
  split <;> simp

@[simp] theorem State.clearLockout_keepsInput : s.KeepsInput s.clearLockout := by
  unfold State.clearLockout
  dsimp only
  split <;> simp

@[simp] theorem State.judgeSilence_keepsInput : s.KeepsInput s.judgeSilence := by
  unfold State.judgeSilence
  split <;> simp

@[simp] theorem State.countRunSecond_keepsInput : s.KeepsInput s.countRunSecond := by
  unfold State.countRunSecond
  split
  · split <;> simp
  · simp

@[simp] theorem State.sendDrive_keepsInput : s.KeepsInput s.sendDrive := ⟨rfl, rfl⟩

@[simp] theorem State.takeStatus_keepsInput (seq actual code check : Byte) :
    s.KeepsInput (s.takeStatus seq actual code check) := by
  unfold State.takeStatus
  split
  · dsimp only
    split <;> simp
  · simp

@[simp] theorem State.driveByte_keepsInput (b : Byte) : s.KeepsInput (s.driveByte b) := by
  unfold State.driveByte
  split
  · split <;> simp
  · simp
  · simp

/-! ### Defrost controller -/

@[simp] theorem State.giveUpDefrost_keepsInput : s.KeepsInput s.giveUpDefrost := by simp [State.giveUpDefrost]

@[simp] theorem State.countFrost_keepsInput : s.KeepsInput s.countFrost := by
  unfold State.countFrost
  split <;> simp

@[simp] theorem State.heatTest_keepsInput (r : Report) : s.KeepsInput (s.heatTest r) := by
  unfold State.heatTest
  split
  · simp
  · split <;> simp

@[simp] theorem State.takeS4_keepsInput (r : Report) : s.KeepsInput (s.takeS4 r) := by
  unfold State.takeS4
  dsimp only
  split
  · simp
  · simp
  · split <;> simp
  · simp

@[simp] theorem State.takePhaseChange_keepsInput (halted : Bool) : s.KeepsInput (s.takePhaseChange halted) := by
  unfold State.takePhaseChange
  split
  · split <;> simp
  · split <;> simp
  · simp

/-! ### Zone evaluator -/

@[simp] theorem State.settleZone_keepsInput (rep : Option Report) (z : Zone) (afresh second : Bool) :
    s.KeepsInput (s.settleZone rep z afresh second) := ⟨rfl, rfl⟩

@[simp] theorem State.evaluateSecond_keepsInput (z : Zone) (r : Report) : s.KeepsInput (s.evaluateSecond z r) := by
  obtain ⟨hframe, -, -⟩ := s.evaluateSecond_frame (z := z) (rep := r) rfl
  rw [hframe]
  exact ⟨rfl, rfl⟩

@[simp] theorem State.evaluateHoldChange_keepsInput (z : Zone) (g : Governing) :
    s.KeepsInput (s.evaluateHoldChange z g) := by
  unfold State.evaluateHoldChange
  dsimp only
  split <;> simp

@[simp] theorem State.evaluateDoor_keepsInput (z : Zone) (e : DoorEvent) : s.KeepsInput (s.evaluateDoor z e) := by
  simp [State.evaluateDoor]

@[simp] theorem State.evaluateSchedule_keepsInput (z : Zone) (half : BlindHalf) (due : Instant) :
    s.KeepsInput (s.evaluateSchedule z half due) := by
  simp [State.evaluateSchedule]

/-! ### Hold table -/

theorem State.regovern_keepsInput (z : Zone) {change : State → State} (h : s.KeepsInput (change s)) :
    s.KeepsInput (s.regovern z change) := by
  simpa [State.regovern] using h

theorem holdOpen_keepsInput (zone kind : Byte) (target : Half) (halfBand priority flags : Byte) (minutes : Half)
    (floor : Byte) : s.KeepsInput (holdOpen zone kind target halfBand priority flags minutes floor s).1 := by
  unfold holdOpen
  split
  · split_ifs
    iterate 3 exact ⟨rfl, rfl⟩
    split
    · exact ⟨rfl, rfl⟩
    · rw [State.openHold_state]
      exact s.regovern_keepsInput _ ⟨rfl, rfl⟩
  · exact ⟨rfl, rfl⟩

theorem State.amendPriority_keepsInput (h : Hold) (mask priority : Byte) :
    s.KeepsInput (s.amendPriority h mask priority).1 := by
  unfold State.amendPriority
  dsimp only
  split_ifs <;> exact ⟨rfl, rfl⟩

theorem State.amendExpiry_keepsInput (h : Hold) (mask : Byte) (minutes : Half) :
    s.KeepsInput (s.amendExpiry h mask minutes).1 := by
  rw [State.amendExpiry_eq]
  exact ⟨rfl, rfl⟩

theorem State.amendHold_keepsInput (h : Hold) (mask : Byte) (target : Half) (halfBand priority : Byte) (minutes : Half)
    (floor reach : Byte) : s.KeepsInput (s.amendHold h mask target halfBand priority minutes floor reach).1 := by
  unfold State.amendHold
  dsimp only
  refine s.regovern_keepsInput _ ?_
  split <;> simp [State.amendPriority_keepsInput, State.amendExpiry_keepsInput]

theorem holdAmend_keepsInput (slot gen mask : Byte) (target : Half) (halfBand priority : Byte) (minutes : Half)
    (floor reach : Byte) :
    s.KeepsInput (holdAmend slot gen mask target halfBand priority minutes floor reach s).1 := by
  unfold holdAmend
  split
  · exact ⟨rfl, rfl⟩
  · split_ifs
    iterate 4 exact ⟨rfl, rfl⟩
    exact s.amendHold_keepsInput ..

theorem holdRetire_keepsInput (slot gen : Byte) : s.KeepsInput (holdRetire slot gen s).1 := by
  unfold holdRetire
  split
  · exact ⟨rfl, rfl⟩
  · split
    · exact ⟨rfl, rfl⟩
    · dsimp only
      exact s.regovern_keepsInput _ (by simp)

theorem State.lapseAtCommit_keepsInput (l : List Nat) : s.KeepsInput (s.lapseAtCommit l) := by
  induction l generalizing s with
  | nil => exact ⟨rfl, rfl⟩
  | cons i is ih =>
    unfold State.lapseAtCommit
    split
    · exact ih s
    · split
      · simpa using ih (s.lapse i .regime)
      · exact ih s

@[simp] theorem State.commitHolds_keepsInput (r : Regime) : s.KeepsInput (s.commitHolds r) := by
  have h := s.lapseAtCommit_keepsInput (List.range 24)
  unfold State.commitHolds State.retargetChillBase
  split <;> simpa using h

/-! ### Zone map -/

@[simp] theorem State.evaluateEndOfTransit_keepsInput : s.KeepsInput s.evaluateEndOfTransit := by
  simp [State.evaluateEndOfTransit]

@[simp] theorem State.entryCommitted_keepsInput : s.KeepsInput s.entryCommitted := by
  unfold State.entryCommitted State.commitChillHolds State.withdrawChillChange
  split <;> simp

@[simp] theorem State.commitRegime_keepsInput : s.KeepsInput s.commitRegime := by
  rw [State.commitRegime_eq]
  simp

@[simp] theorem State.enterFlap_keepsInput : s.KeepsInput s.enterFlap := by
  unfold State.enterFlap
  dsimp only
  split <;> simp

@[simp] theorem State.closingEnds_keepsInput : s.KeepsInput s.closingEnds := by
  unfold State.closingEnds
  split <;> simp

@[simp] theorem State.flapArrives_keepsInput (dest : Path) : s.KeepsInput (s.flapArrives dest) := by
  unfold State.flapArrives
  dsimp only
  split <;> simp

@[simp] theorem State.damperHomed_keepsInput : s.KeepsInput s.damperHomed := by
  unfold State.damperHomed
  split <;> simp

theorem regimeSet_keepsInput (regime : Byte) : s.KeepsInput (regimeSet regime s).1 := by
  unfold regimeSet
  split
  · exact ⟨rfl, rfl⟩
  · split_ifs
    iterate 2 exact ⟨rfl, rfl⟩
    simp [State.beginRegime]

theorem mapSet_keepsInput (zone regime fallback : Byte) (offset : Half) :
    s.KeepsInput (mapSet zone regime fallback offset s).1 := by
  unfold mapSet
  split
  · exact ⟨rfl, rfl⟩
  · split
    · exact ⟨rfl, rfl⟩
    · split
      · exact ⟨rfl, rfl⟩
      · split <;> exact ⟨rfl, rfl⟩

/-! ### The other requests -/

theorem State.writeCorrection_keepsInput (slot : Nat) (k : Option Correction) :
    s.KeepsInput (s.writeCorrection slot k).1 := by
  unfold State.writeCorrection
  dsimp only
  split <;> exact ⟨rfl, rfl⟩

theorem correctionSet_keepsInput (slot op channel index : Byte) (value : Half) :
    s.KeepsInput (correctionSet slot op channel index value s).1 := by
  unfold correctionSet
  split
  · exact ⟨rfl, rfl⟩
  · split
    · exact s.writeCorrection_keepsInput ..
    · split
      · exact ⟨rfl, rfl⟩
      · dsimp only
        split_ifs
        iterate 3 exact ⟨rfl, rfl⟩
        exact s.writeCorrection_keepsInput ..

theorem doorQuery_keepsInput (door clear : Byte) : s.KeepsInput (doorQuery door clear s).1 := by
  unfold doorQuery
  split <;> exact ⟨rfl, rfl⟩

theorem defrostNow_keepsInput : s.KeepsInput (defrostNow s).1 := by
  unfold defrostNow
  split <;> simp

theorem defrostCancel_keepsInput : s.KeepsInput (defrostCancel s).1 := by
  unfold defrostCancel
  split <;> simp

theorem clearLockout_keepsInput : s.KeepsInput (clearLockout s).1 := by
  unfold clearLockout
  split <;> simp

theorem noticeNext_keepsInput : s.KeepsInput (noticeNext s).1 := by
  unfold noticeNext
  split <;> exact ⟨rfl, rfl⟩

theorem settingsStore_keepsInput : s.KeepsInput (settingsStore s).1 := by
  unfold settingsStore
  split <;> exact ⟨rfl, rfl⟩

theorem State.writeSetting_keepsInput {t : State} {i : SettingItem} {v : Int} {clamped : Bool}
    (hw : s.writeSetting i v = some (t, clamped)) : s.KeepsInput t := by
  cases i <;> cases hw
  case weight z => simp [State.writeWeight, State.setEntry]
  case interval => simp
  all_goals exact ⟨rfl, rfl⟩

theorem settingsWrite_keepsInput (item : Byte) (value : Quad) : s.KeepsInput (settingsWrite item value s).1 := by
  unfold settingsWrite
  split
  · exact ⟨rfl, rfl⟩
  · split
    · exact ⟨rfl, rfl⟩
    · next hw => exact s.writeSetting_keepsInput hw

/-! ### Link port, measurement unit, door unit, timebase -/

theorem State.completeFrame_keepsInput (len : Nat) (got : List Byte) : s.KeepsInput (s.completeFrame len got) := by
  unfold State.completeFrame
  split
  · exact ⟨rfl, rfl⟩
  · split <;> exact ⟨rfl, rfl⟩

theorem State.lengthFrame_keepsInput : s.KeepsInput s.lengthFrame := by
  unfold State.lengthFrame
  split <;> exact ⟨rfl, rfl⟩

theorem State.receive_keepsInput (b : Byte) : s.KeepsInput (s.receive b) := by
  unfold State.receive
  split
  · split <;> exact ⟨rfl, rfl⟩
  · split
    · exact ⟨rfl, rfl⟩
    · exact State.lengthFrame_keepsInput _
  · split
    · exact State.completeFrame_keepsInput ..
    · exact ⟨rfl, rfl⟩
  · exact ⟨rfl, rfl⟩

theorem State.sampleDoor_keepsInput (d : Door) (x : Level) : s.KeepsInput (s.sampleDoor d x) := by
  unfold State.sampleDoor
  dsimp only
  split
  · cases x <;> exact ⟨rfl, rfl⟩
  · exact ⟨rfl, rfl⟩

theorem State.entryFallsDue_keepsInput : s.KeepsInput s.entryFallsDue := by
  unfold State.entryFallsDue
  split
  · exact ⟨rfl, rfl⟩
  · split <;> exact ⟨rfl, rfl⟩

end Sys2Proof.Machine
end

section
/-! Every command answers a next state and leaves the queue alone; out of turn it changes nothing (R172, R199, log entries 3
and 33). -/

namespace Sys2Proof.Machine

open Sys2Proof.Safety

section Taking

variable {s : State}

theorem keepsInput_ite {c : Prop} [Decidable c] {t u : State} (ht : s.KeepsInput t) (hu : s.KeepsInput u) :
    s.KeepsInput (if c then t else u) := by split <;> assumption

theorem State.serve_keepsInput {code : List Byte} {act : State → State × Reply}
    (hact : ∀ s1 : State, s1.KeepsInput (act s1).1) : s.KeepsInput (s.serve code act) := by
  unfold State.serve
  split
  · exact hact (s.setLink _)
  · split
    · exact hact (s.setLink _)
    · exact ⟨rfl, rfl⟩

theorem State.takeEvent_keepsInput {α : Type} {p : Handoff → Option α} {f : α → State → State}
    (hf : ∀ a (s1 : State), s1.KeepsInput (f a s1)) : s.KeepsInput (s.takeEvent p f) := by
  unfold State.takeEvent
  split
  · exact ⟨rfl, rfl⟩
  · exact hf _ (s.setEvents _)

theorem State.deliver_keepsInput {k : DeadlineKey} {f : Instant → State → State}
    (hf : ∀ due (s1 : State), s1.KeepsInput (f due s1)) : s.KeepsInput (s.deliver k f) := by
  obtain he | ⟨d, -, -, he⟩ := s.deliver_cases k f
  · rw [he]
    exact ⟨rfl, rfl⟩
  · rw [he]
    exact hf _ (s.setTime _)

/-! ### Out of turn (log entry 3) -/

theorem State.takeEvent_outOfTurn {α : Type} {p : Handoff → Option α} (f : α → State → State)
    (h : (takeFirst p s.events).isSome = false) : s.takeEvent p f = s :=
  State.takeEvent_of_none f (by simpa using h)

theorem State.deliver_outOfTurn {k : DeadlineKey} (f : Instant → State → State) (h : expiryNext s k = false) :
    s.deliver k f = s := by
  refine State.deliver_of_other f fun d hd hk => ?_
  simp [expiryNext, hd, hk] at h

/-- A STAGE or a PHASE is delivered only in the state that waits for it. -/
theorem State.deliverWhere_outOfTurn {k : DeadlineKey} (f : Instant → State → State) (h : expiryNext s k = false)
    (c : Prop) [Decidable c] : (if c then s.deliver k f else s) = s := by
  rw [State.deliver_outOfTurn f h, ite_self]

end Taking

/-- A command that takes what is in flight, and finds nothing of its kind, changes nothing. -/
theorem exec_outOfTurn (c : Instr) (s : State) (h : inFlight c s = false) : exec c s = .next s := by
  cases c with
  | holdExpiry slot => exact congrArg _ (State.deliver_outOfTurn _ h)
  | holdChangeEvaluation z => exact congrArg _ (State.takeEvent_outOfTurn _ h)
  | oneSecondEvaluation z => exact congrArg _ (State.takeEvent_outOfTurn _ h)
  | blindHalf z => exact congrArg _ (State.deliver_outOfTurn _ h)
  | doorAjar d => exact congrArg _ (State.deliver_outOfTurn _ h)
  | doorChangeEvaluation d => exact congrArg _ (State.takeEvent_outOfTurn _ h)
  | airRecompute k => exact congrArg _ (State.takeEvent_outOfTurn _ h)
  | fanDelay => exact congrArg _ (State.deliver_outOfTurn _ h)
  | startCompletion => exact congrArg _ (State.takeEvent_outOfTurn _ h)
  | releaseEnd => exact congrArg _ (State.takeEvent_outOfTurn _ h)
  | arbiterReview => exact congrArg _ (State.takeEvent_outOfTurn _ h)
  | pumpdownStage => exact congrArg _ (State.deliverWhere_outOfTurn _ h _)
  | holdoffStage => exact congrArg _ (State.deliverWhere_outOfTurn _ h _)
  | recoveryStage => exact congrArg _ (State.deliverWhere_outOfTurn _ h _)
  | inhibit => exact congrArg _ (State.deliver_outOfTurn _ h)
  | dwellMin => exact congrArg _ (State.deliver_outOfTurn _ h)
  | dwellMax => exact congrArg _ (State.deliver_outOfTurn _ h)
  | speedStep => exact congrArg _ (State.deliver_outOfTurn _ h)
  | arbiterSag =>
    have hnone : takeMains .sag s.events = none := Option.isNone_iff_eq_none.1 (Option.isSome_eq_false_iff.1 h)
    simp only [exec, execArbiterSag, hnone]
  | arbiterNormal =>
    have hnone : takeMains .normal s.events = none := Option.isNone_iff_eq_none.1 (Option.isSome_eq_false_iff.1 h)
    simp only [exec, execArbiterNormal, hnone]
  | arbiterChangeToDefrost => exact congrArg _ (State.takeEvent_outOfTurn _ h)
  | defrostS4Report => exact congrArg _ (State.takeEvent_outOfTurn _ h)
  | pendingLimit => exact congrArg _ (State.deliver_outOfTurn _ h)
  | prechillPhaseExpiry => exact congrArg _ (State.deliverWhere_outOfTurn _ h _)
  | heatPhaseExpiry => exact congrArg _ (State.deliverWhere_outOfTurn _ h _)
  | dripPhaseExpiry => exact congrArg _ (State.deliverWhere_outOfTurn _ h _)
  | recoverPhaseExpiry => exact congrArg _ (State.deliverWhere_outOfTurn _ h _)
  | coilS3Report => exact congrArg _ (State.takeEvent_outOfTurn _ h)
  | coilRecovery => exact congrArg _ (State.deliver_outOfTurn _ h)
  | coilRecoveryCutShort => exact congrArg _ (State.takeEvent_outOfTurn _ h)
  | noticeRaise n => exact congrArg _ (State.takeEvent_outOfTurn _ h)
  | _ => exact Bool.noConfusion h

/-- The command answers a next state with the queue of `s`, and with its straps unless it restarts the part. -/
def State.Answers (s : State) (c : Instr) : Prop := ∃ t, exec c s = .next t ∧ t.pending = s.pending ∧
  ((∀ x, c ≠ .powerOnReset x) → (∀ x, c ≠ .uptimeWrapRestart x) → (∀ x, c ≠ .replySent x) →
    t.straps = s.straps)

theorem State.Answers.of_kept {s t : State} {c : Instr} (hexec : exec c s = .next t) (ht : s.KeepsInput t) : s.Answers c :=
  ⟨t, hexec, ht.1, fun _ _ _ => ht.2⟩

section Commands

variable (s : State)

/-! ### The commands that restart the part -/

theorem answers_powerOnReset (x : Straps) : s.Answers (.powerOnReset x) :=
  ⟨_, rfl, rfl, fun h => absurd rfl (h x)⟩

theorem answers_uptimeWrapRestart (x : Straps) : s.Answers (.uptimeWrapRestart x) := by
  refine ⟨_, rfl, ?_, fun _ h => absurd rfl (h x)⟩
  split <;> rfl

theorem answers_replySent (x : Straps) : s.Answers (.replySent x) := by
  refine ⟨_, rfl, ?_, fun _ _ h => absurd rfl (h x)⟩
  split
  · split <;> rfl
  · rfl

/-! ### The commands whose own work is split by what they find -/

theorem answers_holdExpiry (slot : Nat) : s.Answers (.holdExpiry slot) := by
  refine .of_kept rfl (State.deliver_keepsInput fun _ s1 => ?_)
  split
  · exact ⟨rfl, rfl⟩
  · exact s1.regovern_keepsInput _ (by simp)

theorem answers_blindHalf (z : Zone) : s.Answers (.blindHalf z) := by
  refine .of_kept rfl (State.deliver_keepsInput fun due s1 => ?_)
  split <;> simp

theorem answers_doorChangeEvaluation (d : Door) : s.Answers (.doorChangeEvaluation d) := by
  refine .of_kept rfl (State.takeEvent_keepsInput fun e s1 => ?_)
  split <;> simp

theorem answers_channelConversion (c : Channel) (count : Nat) : s.Answers (.channelConversion c count) := by
  refine .of_kept rfl ?_
  rw [State.report_eq]
  split <;> exact ⟨rfl, rfl⟩

theorem answers_homingEnd (m : HomingMotor) : s.Answers (.homingEnd m) := by
  refine .of_kept rfl ?_
  split
  · split <;> simp
  · split <;> simp
  · simp

theorem answers_driveReceiverByte (c : DriveChar) : s.Answers (.driveReceiverByte c) := by
  cases c with
  | char b => exact .of_kept rfl (s.driveByte_keepsInput b)
  | framingError => exact .of_kept rfl ⟨rfl, rfl⟩

theorem answers_damperStep : s.Answers .damperStep := by
  refine .of_kept rfl ?_
  split
  · exact ⟨rfl, rfl⟩
  · exact ⟨rfl, rfl⟩
  · split <;> exact ⟨rfl, rfl⟩

theorem answers_valveStep : s.Answers .valveStep := by
  refine .of_kept rfl ?_
  split
  · exact ⟨rfl, rfl⟩
  · exact ⟨rfl, rfl⟩
  · split <;> simp

theorem answers_frameRefused (why : FrameRefusal) : s.Answers (.frameRefused why) := by
  refine .of_kept rfl ?_
  cases why <;> split <;> exact ⟨rfl, rfl⟩

/-! ### Every command -/

/-- Every command answers a next state, the queue and the straps kept (R199). -/
theorem exec_answers (c : Instr) : s.Answers c := by
  have self : s.KeepsInput s := ⟨rfl, rfl⟩
  have read {code : List Byte} {act : State → State × Reply} (h : ∀ s1, (act s1).1 = s1) :
      s.KeepsInput (s.serve code act) := State.serve_keepsInput fun s1 => by rw [h s1]; exact ⟨rfl, rfl⟩
  cases c with
  | powerOnReset x => exact answers_powerOnReset s x
  | uptimeWrapRestart x => exact answers_uptimeWrapRestart s x
  | ident => exact .of_kept rfl (read fun _ => rfl)
  | systemQuery => exact .of_kept rfl (read fun _ => rfl)
  | restart => exact .of_kept rfl (State.serve_keepsInput fun _ => ⟨rfl, rfl⟩)
  | holdOpen zone kind target halfBand priority flags minutes floor =>
    exact .of_kept rfl (State.serve_keepsInput fun s1 => holdOpen_keepsInput s1 ..)
  | holdAmend slot gen mask target halfBand priority minutes floor reach =>
    exact .of_kept rfl (State.serve_keepsInput fun s1 => holdAmend_keepsInput s1 ..)
  | holdRetire slot gen => exact .of_kept rfl (State.serve_keepsInput fun s1 => holdRetire_keepsInput s1 ..)
  | holdQuery slot gen => exact .of_kept rfl (read (holdQuery_fst _ _))
  | holdList zone => exact .of_kept rfl (read (holdList_fst _))
  | zoneQuery zone => exact .of_kept rfl (read (zoneQuery_fst _))
  | regimeSet regime => exact .of_kept rfl (State.serve_keepsInput fun s1 => regimeSet_keepsInput s1 _)
  | mapSet zone regime fallback offset =>
    exact .of_kept rfl (State.serve_keepsInput fun s1 => mapSet_keepsInput s1 ..)
  | sensorQuery channel => exact .of_kept rfl (read (sensorQuery_fst _))
  | correctionSet slot op channel index value =>
    exact .of_kept rfl (State.serve_keepsInput fun s1 => correctionSet_keepsInput s1 ..)
  | doorQuery door clear => exact .of_kept rfl (State.serve_keepsInput fun s1 => doorQuery_keepsInput s1 ..)
  | defrostNow => exact .of_kept rfl (State.serve_keepsInput defrostNow_keepsInput)
  | defrostCancel => exact .of_kept rfl (State.serve_keepsInput defrostCancel_keepsInput)
  | clearLockout => exact .of_kept rfl (State.serve_keepsInput clearLockout_keepsInput)
  | noticeNext => exact .of_kept rfl (State.serve_keepsInput noticeNext_keepsInput)
  | noticeEnable mask => exact .of_kept rfl (State.serve_keepsInput fun _ => ⟨rfl, rfl⟩)
  | settingsWrite item value => exact .of_kept rfl (State.serve_keepsInput fun s1 => settingsWrite_keepsInput s1 ..)
  | settingsRead item => exact .of_kept rfl (read (settingsRead_fst _))
  | settingsStore => exact .of_kept rfl (State.serve_keepsInput settingsStore_keepsInput)
  | storeWriteEnd => exact .of_kept rfl (by split <;> exact ⟨rfl, rfl⟩)
  | frameRefused why => exact answers_frameRefused s why
  | overrun => exact .of_kept rfl (keepsInput_ite ⟨rfl, rfl⟩ self)
  | framingError => exact .of_kept rfl (by split <;> exact ⟨rfl, rfl⟩)
  | byteGapTimeout => exact .of_kept rfl ⟨rfl, rfl⟩
  | replyStart => exact .of_kept rfl (by split <;> exact ⟨rfl, rfl⟩)
  | replySent x => exact answers_replySent s x
  | holdExpiry slot => exact answers_holdExpiry s slot
  | holdChangeEvaluation z =>
    exact .of_kept rfl (State.takeEvent_keepsInput fun g s1 => s1.evaluateHoldChange_keepsInput z g)
  | channelConversion c count => exact answers_channelConversion s c count
  | oneSecondEvaluation z => exact .of_kept rfl (State.takeEvent_keepsInput fun r s1 => s1.evaluateSecond_keepsInput z r)
  | blindHalf z => exact answers_blindHalf s z
  | doorSample d a b c => exact .of_kept rfl (s.sampleDoor_keepsInput ..)
  | doorAjar d => exact .of_kept rfl (State.deliver_keepsInput fun _ _ => keepsInput_ite ⟨rfl, rfl⟩ ⟨rfl, rfl⟩)
  | doorChangeEvaluation d => exact answers_doorChangeEvaluation s d
  | airRecompute k => exact .of_kept rfl (State.takeEvent_keepsInput fun w s1 => s1.airTake_keepsInput w)
  | fanDelay => exact .of_kept rfl (State.deliver_keepsInput fun _ s1 => by split <;> simp)
  | damperArrival => exact .of_kept rfl (keepsInput_ite (by simp) self)
  | flapArrival => exact .of_kept rfl (by split <;> simp)
  | homingEnd m => exact answers_homingEnd s m
  | valveArrival => exact .of_kept rfl (keepsInput_ite (by simp) self)
  | startCompletion => exact .of_kept rfl (State.takeEvent_keepsInput fun pos s1 => s1.valveArrives_keepsInput pos)
  | releaseEnd => exact .of_kept rfl (State.takeEvent_keepsInput fun _ s1 => keepsInput_ite (by simp) ⟨rfl, rfl⟩)
  | arbiterReview => exact .of_kept rfl (State.takeEvent_keepsInput fun _ s1 => by simp)
  | pumpdownStage => exact .of_kept rfl (keepsInput_ite (State.deliver_keepsInput fun _ s1 => by simp) self)
  | holdoffStage => exact .of_kept rfl (keepsInput_ite (State.deliver_keepsInput fun _ s1 => by simp) self)
  | recoveryStage => exact .of_kept rfl (keepsInput_ite (State.deliver_keepsInput fun _ s1 => by simp) self)
  | inhibit => exact .of_kept rfl (State.deliver_keepsInput fun _ s1 => by simp)
  | dwellMin => exact .of_kept rfl (State.deliver_keepsInput fun _ s1 => by simp)
  | dwellMax => exact .of_kept rfl (State.deliver_keepsInput fun _ s1 => by simp)
  | speedStep => exact .of_kept rfl (State.deliver_keepsInput fun due s1 => by simp)
  | driveLinkTick => exact .of_kept rfl (by simp)
  | statusFrame seq actual code check => exact .of_kept rfl (by simp)
  | mainsSample count => exact .of_kept rfl (by split <;> exact ⟨rfl, rfl⟩)
  | arbiterSag => exact .of_kept rfl (by split <;> simp)
  | arbiterNormal => exact .of_kept rfl (by split <;> simp)
  | arbiterChangeToDefrost => exact .of_kept rfl (State.takeEvent_keepsInput fun e s1 => by split <;> simp)
  | defrostS4Report => exact .of_kept rfl (State.takeEvent_keepsInput fun r s1 => s1.takeS4_keepsInput r)
  | pendingLimit => exact .of_kept rfl (State.deliver_keepsInput fun _ s1 => keepsInput_ite (by simp) ⟨rfl, rfl⟩)
  | prechillPhaseExpiry => exact .of_kept rfl (keepsInput_ite (State.deliver_keepsInput fun _ s1 => by simp) self)
  | heatPhaseExpiry => exact .of_kept rfl (keepsInput_ite (State.deliver_keepsInput fun _ s1 => by simp) self)
  | dripPhaseExpiry => exact .of_kept rfl (keepsInput_ite (State.deliver_keepsInput fun _ s1 => by simp) self)
  | recoverPhaseExpiry => exact .of_kept rfl (keepsInput_ite (State.deliver_keepsInput fun _ s1 => by simp) self)
  | coilS3Report => exact .of_kept rfl (State.takeEvent_keepsInput fun _ s1 => keepsInput_ite (by simp) ⟨rfl, rfl⟩)
  | coilRecovery => exact .of_kept rfl (State.deliver_keepsInput fun _ s1 => by simp)
  | coilRecoveryCutShort =>
    exact .of_kept rfl (State.takeEvent_keepsInput fun _ s1 => keepsInput_ite (by simp) ⟨rfl, rfl⟩)
  | deadlineFallsDue => exact .of_kept rfl s.entryFallsDue_keepsInput
  | noticeRaise n => exact .of_kept rfl (State.takeEvent_keepsInput fun _ _ => ⟨rfl, rfl⟩)
  | characterReceived b => exact .of_kept rfl (s.receive_keepsInput b)
  | driveReceiverByte c => exact answers_driveReceiverByte s c
  | damperStep => exact answers_damperStep s
  | valveStep => exact answers_valveStep s
  | pwmPeriodBoundary => exact .of_kept rfl ⟨rfl, rfl⟩

end Commands

/-- Settles O2: each command's own case keeps the queue and the straps, and one with nothing to take does no work. -/
theorem everyCommandAnswersAndKeepsTheQueue : Obligations.EveryCommandAnswersAndKeepsTheQueue :=
  ⟨fun c s => exec_answers s c, exec_outOfTurn⟩

end Sys2Proof.Machine
end

section
/-! The step on a queue that holds a command (Block Overview); `step_of_idle` is the step on an empty one. -/

namespace Sys2Proof.Machine

theorem step_of_front {s : State} {c : Instr} {rest : List Instr} (h : s.pending = c :: rest) :
    step s = exec c (s.setPending rest) := by
  simp only [step, h]

/-- Settles O1: on a queue that is not empty, the step is its front command's, and `setPending` writes the queue alone. -/
theorem stepRunsTheFrontCommand : Obligations.StepRunsTheFrontCommand :=
  fun _ _ _ hfront => step_of_front hfront

end Sys2Proof.Machine
end
